-- ==== Sys2Proof/Word.lean ====
section
/-! DEFINITION. The words of the device: registers are 32 bits wide (spec/00_scope.md, Registers and access types). -/

namespace Sys2Proof

/-- A BAR0 register's contents. -/
abbrev Word := BitVec 32

/-- One byte of a descriptor, an image, a frame or flash. -/
abbrev Byte := BitVec 8

/-- The 64 bytes of a descriptor (R576): byte `i` is bits `8 i + 7 .. 8 i`, little-endian (R12). -/
abbrev RawDesc := BitVec 512

end Sys2Proof
end

