-- ==== Sys2Proof/Machine/Units.lean ====
section
/-! DEFINITION. The units' own state as plain data: rails, phases, switches, the sequencer, the power path, tag slots,
capping and maintenance (spec/05 to 11, 14, 20). A twin's join data carries them too, so they stand before the commands. -/

namespace Sys2Proof.Machine

/-- The three variants (R1). -/
inductive Variant where
  | a4832 | t4824 | b4816
  deriving DecidableEq, Repr, Inhabited

/-- The three roles (R108). -/
inductive Role where
  | branch | zone | manager
  deriving DecidableEq, Repr, Inhabited

/-- Load classes (R49). -/
inductive Cls where
  | c | e | s
  deriving DecidableEq, Repr, Inhabited

/-- RAIL_CMD_STATUS.STATE. -/
inductive CmdState where
  | off | softStart | steady | slewing | turnOff
  deriving DecidableEq, Repr, Inhabited

/-- PROT_LATCH.STATE. -/
inductive LState where
  | none | retryWait | latched
  deriving DecidableEq, Repr, Inhabited

/-- A forecast entry (R224). -/
structure Fc where
  t : Nat
  di : Int
  rise : Nat
  window : Nat
  slot : Option Nat
  spec : Bool := false
  specTick : Nat := 0
  baseline : Int := 0
  count : Nat := 0
  biasOn : Bool := false
  withdrawn : Bool := false
  deriving DecidableEq, Repr, Inhabited

/-- One rail: reference, regulation, protection, good conditions, capping and forecasts (spec/05–08, 10). -/
structure Rail where
  cls : Cls := .c
  st : CmdState := .off
  vref : Rat := 0
  vtarget : Nat := 0
  slew : Nat := 0
  onTick : Nat := 0
  wasGood : Bool := false
  onTarget : Nat := 0
  prebias : Nat := 0
  demStart : Bool := false
  offVref : Rat := 0
  offTick : Nat := 0
  onSlot : Option Nat := none
  offSlots : List Nat := []
  setSlot : Option (Nat × Bool) := none
  mask : Bool := false
  maskLo : Rat := 0
  maskHi : Rat := 0
  maskEnd : Option Nat := none
  voltMet : Bool := false
  good : Bool := false
  pg : Bool := false
  qual : Nat := 0
  uvT : Nat := 0
  ocT : Nat := 0
  otT : Nat := 0
  shortT : Nat := 0
  ovW : Bool := false
  uvW : Bool := false
  ocW : Bool := false
  otW : Bool := false
  offPres : Bool := false
  causes : BitVec 8 := 0
  lstate : LState := .none
  retries : Nat := 0
  retryWait : Nat := 0
  retryOt : Bool := false
  retryCause : Nat := 0
  goodRun : Nat := 0
  crowbar : Bool := false
  crowbarLeft : Nat := 0
  crowbarLvl : Rat := 0
  ovLvl : Rat := 0
  discharging : Bool := false
  disCnt : Nat := 0
  parkTick : Nat := 0
  heldByDown : Bool := false
  disByDown : Bool := false
  /-- Program and step that turned it off (R325, R396). -/
  downStep : Nat × Nat := (0, 0)
  peakNow : Bool := false
  peakLast : Bool := false
  /-- IMAX was tightened while on: its peak limit moved inside, which is no clipping (R629). -/
  inside : Bool := false
  peakEpoch : Nat := 0
  peakMin : Nat := 0
  peakFirst : Nat := 0
  active : Nat := 0
  recallHold : Bool := false
  recallCnt : Nat := 0
  recallSince : Nat := 0
  shedSince : Nat := 0
  iHist : List Int := []
  shedBad : Bool := false
  /-- Committed G of the confirmed count, and the G of the count in rotation (R199). -/
  gain : Nat := 0
  gainRot : Nat := 0
  trim : Rat := 1
  cf : Rat := 1
  vofs : Rat := 0
  slewEnd : Nat := 0
  gainClamp : Bool := false
  trimClamp : Bool := false
  freqClamp : Bool := false
  tonClamp : Bool := false
  tonClampNow : Bool := false
  vinClamp : Bool := false
  vin : Nat := 0
  ripMeas : Nat := 0
  fswMeas : Nat := 0
  truncCnt : Nat := 0
  truncNow : Bool := false
  truncEpoch : Nat := 0
  truncMax : Nat := 0
  truncFirst : Nat := 0
  countChg : Nat := 0
  droop : Rat := 0
  droopClampEpoch : Bool := false
  vsh : Rat := 0
  vshLim : Bool := false
  shareErr : Rat := 0
  capLim : Option Nat := none
  iEpoch : Int := 0
  pEpoch : Int := 0
  /-- Epoch-average current of the last epoch, mA. -/
  iEp : Rat := 0
  iout : Int := 0
  mv : Nat := 0
  coarse : Rat := 0
  vsense : Int := 0
  trigWait : Bool := false
  blankEnd : Nat := 0
  nextPh : Nat := 0
  fcHost : Option Fc := none
  fcLead : Option Fc := none
  fcConf : Nat := 0
  fcRet : Nat := 0
  specAct : Nat := 0
  specUndo : Nat := 0
  /-- The totals as RAIL_FC_CONFIRMED to RAIL_SPEC_UNDONE show them: updated at the epoch boundary (R243). -/
  fcShown : Nat × Nat × Nat × Nat := (0, 0, 0, 0)
  prearm : Option Nat := none
  actTick : Option Nat := none
  seqTick : Option Nat := none
  shedTick : Option Nat := none
  shed : Bool := false
  deriving DecidableEq, Repr, Inhabited

/-- What a PHn_PWM ball drives (R120). -/
inductive Drive where
  | mid | low | high
  deriving DecidableEq, Repr, Inhabited

/-- One phase channel (spec/05). -/
structure Phase where
  owner : Nat := 0xFF
  active : Bool := false
  rot : Bool := false
  leaving : Bool := false
  drive : Drive := .mid
  latched : Bool := false
  flt : Bool := false
  fltRun : Nat := 0
  idle : Bool := false
  idleNow : Bool := false
  iavg : Int := 0
  balTrim : Rat := 0
  balLimRun : Nat := 0
  pulses : Nat := 0
  pulsesNow : Nat := 0
  iofs : Int := 0
  ilast : Int := 0
  cycSum : Int := 0
  cycN : Nat := 0
  cycMean : Option Rat := none
  start : Option Nat := none
  onTime : Rat := 0
  deriving DecidableEq, Repr, Inhabited

/-- SW_STATUS.STATE. -/
inductive SwState where
  | off | ramp | on | retryWait | latched | unseated
  deriving DecidableEq, Repr, Inhabited

/-- One switch channel (spec/09). -/
structure Switch where
  cls : Cls := .c
  st : SwState := .off
  good : Bool := false
  limit : Bool := false
  fold : Bool := false
  seated : Bool := false
  tWarn : Bool := false
  pumpOk : Bool := false
  stbyHold : Bool := false
  stbyTrip : Bool := false
  ma : Int := 0
  srcMv : Nat := 0
  gsMv : Nat := 0
  tj : Rat := 0
  tc : Rat := 0
  tb : Rat := 0
  modelInit : Bool := false
  cause : BitVec 8 := 0
  retries : Nat := 0
  fTimer : Nat := 0
  fStart : Nat := 0
  retryLeft : Nat := 0
  retryOver : Nat := 0
  tripCnt : Nat := 0
  wasGood : Bool := false
  turnTick : Nat := 0
  rampTick : Option Nat := none
  rampFrom : Nat := 0
  rampBus : Nat := 0
  isRetry : Bool := false
  pump : Bool := false
  prearm : Option Nat := none
  gateOn : Bool := false
  gateLow : Bool := true
  capLim : Option Nat := none
  onSlots : List Nat := []
  offSlots : List Nat := []
  seatLow : Nat := 0
  seatHigh : Nat := 0
  epochLow : Bool := false
  epochFrames : Nat := 0
  vgLow : Nat := 0
  goodRun : Nat := 0
  i2t : Rat := 0
  /-- Its L was moved inside a tightened IPEAK, which is no clipping (R629). -/
  inside : Bool := false
  limEpoch : Nat := 0
  foldEpoch : Nat := 0
  limFirst : Nat := 0
  iEpoch : Int := 0
  /-- Epoch-average current of the last epoch, mA. -/
  iEp : Rat := 0
  shed : Bool := false
  actTick : Option Nat := none
  seqTick : Option Nat := none
  shedTick : Option Nat := none
  deriving DecidableEq, Repr, Inhabited

/-- Sequencer, SYNC, PGOOD, FAULT_N, reset outputs and push-button (spec/10). -/
structure Seq where
  prog : Nat := 0
  running : Bool := false
  down : Bool := false
  step : Nat := 0
  qcount : Nat := 0
  stepTick : Nat := 0
  progTick : Nat := 0
  /-- A program to start in the next frame: program, source of SEQ_START, tag slot, tick of the request. -/
  start : Option (Nat × Nat × Option Nat × Nat) := none
  runSlots : List Nat := []
  lastStep : Nat := 0
  lastOutcome : Nat := 0
  lastCause : Nat := 0
  lastProg : Nat := 0
  turnedOn : List Nat := []
  offOwn : List Nat := []
  firstCause : Nat := 0
  stageSet : BitVec 8 := 0
  forcedOff : Bool := false
  syncCount : Nat := 0
  syncLine : Bool := true
  syncDriving : Bool := false
  syncEvent : Nat := 0
  syncHoldSeen : Bool := false
  syncGap : Bool := false
  syncAdv : Nat := 0
  syncAdvFirst : Nat := 0
  homePulse : Bool := false
  homeDone : Bool := false
  abortBurst : Bool := false
  pgood : Bool := false
  pgRun : Nat := 0
  faultLow : Bool := false
  failSrc : Bool := false
  abortSrc : Bool := false
  stepLatch : BitVec 4 := 0xF
  pulses : List (Nat × BitVec 4 × Nat) := []
  rstoLow : BitVec 4 := 0xF
  mrSource : Bool := false
  mrLow : Nat := 0
  mrHigh : Nat := 0
  mrSince : Nat := 0
  pbPressed : Bool := false
  presses : Nat := 0
  stageUp : Option Nat := none
  stageSent : Nat := 0
  /-- The present power-down step failed as it started: the next one starts in the next frame (R394). -/
  stepFailed : Bool := false
  deriving DecidableEq, Repr, Inhabited

/-- PATH_STATUS.PATH (R425). -/
inductive PathSt where
  | init | feed | handover | holdup | handback | noFeed
  deriving DecidableEq, Repr, Inhabited

/-- PATH_STATUS.BAT. -/
inductive BatSt where
  | unknown | missing | detect | ready | shorted | opened | isolated | cut | hot
  deriving DecidableEq, Repr, Inhabited

/-- PATH_STATUS.CONV. -/
inductive ConvSt where
  | none | idle | precharge | pulse | cc | cv | assist | boost | rampDown
  deriving DecidableEq, Repr, Inhabited

/-- The power path, charger and input-current search (spec/11). -/
structure Path where
  st : PathSt := .init
  feedCls : Nat := 0
  bat : BatSt := .unknown
  conv : ConvSt := .none
  good : Bool := false
  shortfall : Bool := false
  searching : Bool := false
  chgOn : Bool := false
  suspended : Bool := false
  reserve : Bool := false
  atLimit : Bool := false
  feedMv : Nat := 0
  busMv : Nat := 0
  feedMa : Int := 0
  batMv : Nat := 0
  batMa : Int := 0
  ntc : Option Int := none
  inLim : Nat := 300000
  holdEst : Option Nat := none
  vhold : Nat := 36000
  vpre : Nat := 0
  fault : BitVec 9 := 0
  holdCnt : Nat := 0
  feedGate : Bool := false
  /-- The disconnect pair is closed. -/
  batDisc : Bool := false
  lossPend : Option (Nat × Nat × Nat) := none
  /-- The conditions of R429 held at the loss: a hand-over follows. -/
  hoOk : Bool := false
  lossTick : Nat := 0
  hoTick : Nat := 0
  inBand : Nat := 0
  busMin : Nat := 0
  pHeld : Int := 0
  qual : Nat := 0
  qualRestarts : Nat := 0
  qualBest : Nat := 0
  qualFirst : Nat := 0
  shedOrder : List Nat := []
  restoreQ : List Nat := []
  resRun : Nat := 0
  cutRun : Nat := 0
  presLow : Nat := 0
  presHigh : Nat := 0
  presEpochLow : Bool := false
  present : Bool := false
  seenRun : Nat := 0
  detStep : Nat := 0
  detTick : Nat := 0
  detMv : Nat := 0
  detSlots : List Nat := []
  pulseWait : Nat := 0
  iCC : Int := 0
  vCV : Nat := 0
  chgSlot : Option Nat := none
  chgRun : Nat := 0
  ovRun : Nat := 0
  hbTick : Nat := 0
  srV0 : Nat := 0
  srI0 : Int := 0
  srK : Nat := 0
  srSlotTick : Nat := 0
  srOwn : Int := 0
  srMaint : Bool := false
  srWait : Nat := 0
  limFrames : Nat := 0
  asstFrames : Nat := 0
  limFirst : Nat := 0
  deriving DecidableEq, Repr, Inhabited

/-- Where a tag slot stands (R588). -/
inductive TagSt where
  | free | held | applied | decided
  deriving DecidableEq, Repr, Inhabited

/-- One tag slot. -/
structure Tag where
  st : TagSt := .free
  desc : RawDesc := 0
  ring : Nat := 0
  order : Nat := 0
  /-- Device time at intake (R808). -/
  intakeAt : Nat := 0
  /-- The dependency looked up at intake (R593): slot and order of the use named. -/
  after : Option (Nat × Nat) := none
  discard : Bool := false
  /-- In flight over a takeover: its completion carries TAKEOVER (R537). -/
  tk : Bool := false
  deriving DecidableEq, Repr, Inhabited

/-- A RUN_ID kept for an opcode (R616): the run's target, its tag slot, and its status and result once decided. -/
structure RunId where
  opcode : Nat
  runId : Nat
  target : Nat
  slot : Nat
  done : Bool := false
  status : Nat := 0
  result : Word := 0
  deriving DecidableEq, Repr, Inhabited

/-- Capping, throttle, temperature and compensation (spec/07). -/
structure Cap where
  host : Nat := 0
  leader : Nat := 0
  thermal : Nat := 0
  pHist : List Int := []
  pAvg : Rat := 0
  x : Rat := -100
  overAll : Bool := true
  underAll : Bool := true
  grace : Nat := 0
  rel : Nat := 0
  graceMet : Bool := false
  relMet : Bool := false
  stage : Nat := 0
  duty : List Nat := [0, 0, 0, 0]
  thrHigh : BitVec 4 := 0
  duc : Rat := 0
  due : Rat := 0
  pwmC : Nat := 0
  pwmE : Nat := 0
  sensor : Nat := 1
  tRaw : Int := 0
  tLast : Option Int := none
  tUse : Option Int := none
  tPrevRaw : Int := 0
  tSum : Int := 0
  tN : Nat := 0
  tEpoch : Option Int := none
  invRun : Nat := 0
  recRun : Nat := 0
  f : Rat := 1
  fRec : Rat := 1
  compValid : Bool := false
  compHold : Bool := false
  tComp : Int := 0
  corr : List Rat := [0, 0, 0, 0]
  pEpoch : Int := 0
  /-- A reduction, and a raise, fall due at this epoch boundary (R271, R276). -/
  redDue : Bool := false
  raiseDue : Bool := false
  unmet : Bool := false
  /-- The class last reduced: 0 C, 1 E. -/
  redCls : Nat := 0
  recOk : Bool := false
  deriving DecidableEq, Repr, Inhabited

/-- Maintenance activities and the perturbation unit (spec/20). -/
structure Maint where
  running : BitVec 9 := 0
  ending : BitVec 9 := 0
  endTick : Nat := 0
  lastCode : Nat := 0
  lastOut : Nat := 0
  arg : List Nat := List.replicate 9 0
  startTick : List Nat := List.replicate 9 0
  stopSlots : List (Nat × Nat) := []
  swFail : BitVec 24 := 0
  swTested : BitVec 24 := 0
  swLeft : BitVec 24 := 0
  refused : Nat := 0
  calLeft : List Nat := []
  calSkip : Nat := 0
  compactLeft : Nat := 0
  dryStep : Nat := 0
  dryOn : List Nat := []
  dryFound : Nat := 0
  unlocked : Bool := false
  bench : Bool := false
  benchLow : Nat := 0
  benchHigh : Nat := 0
  injected : Nat := 0
  lfsr : Word := 1
  /-- Doorbells held by the DOORBELL perturbation: ring, value, tick at which each takes effect. -/
  dbHeld : List (Nat × Word × Nat) := []
  deriving DecidableEq, Repr, Inhabited

/-- The carried state of the compared engines, as join and resync data install it (R517, R530, R543): E0–E7 the rails and
their phases, E10 the sequencer, E11 the path, E13 capping and maintenance, E14 the tag table and RUN_IDs. -/
structure Carried where
  rails : List Rail
  phases : List Phase
  seq : Seq
  path : Path
  cap : Cap
  maint : Maint
  tags : List Tag
  order : Nat
  runIds : List RunId
  deriving DecidableEq, Repr, Inhabited

end Sys2Proof.Machine
end

