-- ==== Sys2Proof/Syntax.lean ====
section
/-! DEFINITION. The commands of the block: one constructor per row of spec/opcode_table.json, with the operands that
reach the device from outside (assumption 1). A row that applies a descriptor names the tag slot that holds it. -/

namespace Sys2Proof

/-- The sample set of one frame (R24, R165): what the field die latches at the Sample strobe. Lists are in index order. -/
structure Sample where
  /-- Rail absolute voltages, frame averages, mV (R162). -/
  railMv : List Nat
  /-- Phase currents, frame averages, mA (R165). -/
  phaseMa : List Int
  /-- PHn_FLT levels, bit m = PHm. -/
  phFlt : BitVec 32
  /-- Measured mean per-phase switching frequency of each rail, kHz (R172). -/
  fswKhz : List Nat
  /-- Measured effective ripple of each rail, µV (R180). -/
  ripUv : List Nat
  /-- Switch currents, frame averages, mA (R334). -/
  swMa : List Int
  /-- SWn_SRC voltages, frame averages, mV. -/
  swSrcMv : List Nat
  /-- Channels whose current-limit loop acted in the frame (R336). -/
  swLimit : BitVec 24
  /-- Gate-to-source voltages, mV (R358). -/
  swGsMv : List Nat
  /-- SWn_SEAT levels, 1 = high = not seated (R345). -/
  seat : BitVec 24
  /-- Feed voltage, mV, and current, mA (positive into the shelf). -/
  feedMv : Nat
  feedMa : Int
  /-- Bus voltage, mV. -/
  busMv : Nat
  /-- Battery voltage, mV, and current, mA (positive into the battery). -/
  batMv : Nat
  batMa : Int
  /-- Battery NTC, 1/16 °C. -/
  ntc : Int
  /-- BAT_PRES reads high. -/
  batPresHigh : Bool
  /-- A loss comparator fired during the frame (R447). -/
  lossFired : Bool
  /-- Diode reading, 1/16 °C (R280). -/
  tdie : Int
  /-- BENCH level. -/
  bench : Bool
  /-- MR_N and PB_N levels (true = high). -/
  mrHigh : Bool
  pbHigh : Bool
  /-- SYNC line level (true = high). -/
  syncHigh : Bool
  /-- Housekeeping supplies and VAON, mV (R784). -/
  v33Mv : Nat
  v18Mv : Nat
  vaonMv : Nat
  /-- Frame-crossing words re-sampled while this set crossed (R85). -/
  resamples : Nat
  /-- Cycles each engine used in the frame (trace source 0x0F). -/
  engCycles : List Nat
  deriving DecidableEq, Repr, Inhabited

/-- A channel of the current stream (R25). -/
inductive StreamCh where
  | phase (k : Nat)
  | sense (rail : Nat)
  deriving DecidableEq, Repr

/-- Where a double-bit error lies (R29, R30). -/
inductive SramRegion where
  | engineMem (e : Nat) (slice : Nat) (cycles : Nat)
  | trace (entry : Nat)
  | other
  deriving DecidableEq, Repr

/-- Header of a received Drayline frame that passed R654, with its source MAC address and port. -/
structure DrayHdr where
  /-- 0 uplink, 1 downlink. -/
  port : Nat
  mac : BitVec 48
  src : Nat
  dst : Nat
  seq : Nat
  session : Nat
  epoch : Nat
  aligned : Bool
  pair : Bool
  deriving DecidableEq, Repr, Inhabited

/-- Payload of the upward format (R656). -/
structure DrayUp where
  summary : List Byte
  subject : Nat
  event : Nat
  fcAckValid : Bool
  fcAckSeq : Nat
  capEpoch : Nat
  subjEpoch : Nat
  deriving DecidableEq, Repr, Inhabited

/-- A Tandem state block (R517), with the join or resync data that may follow it (R514). -/
structure StateBlock where
  frame : BitVec 32
  epoch : BitVec 32
  senderState : Nat
  floor : Bool
  yieldCause : Nat
  selfCheck : Bool
  cplMark : BitVec 32
  sample : Sample
  /-- Descriptors taken in for the frame: ring and bytes, in step 5 order. -/
  intake : List (Nat × RawDesc)
  /-- Outputs: rails on, with references and targets in mV and the active's OV levels; switches ON, and ON and good; loads
  shed; the supervision outputs. -/
  railOn : BitVec 16
  railRefMv : List Nat
  railTargetMv : List Nat
  ovLevelMv : List Nat
  swOn : BitVec 24
  swOnGood : BitVec 24
  shedRail : BitVec 16
  shedSw : BitVec 24
  syncReleased : Bool
  pgoodReleased : Bool
  faultLow : Bool
  rstoLow : BitVec 4
  /-- Completions decided in the frame: CQ, entry and its 16 bytes as one number. -/
  completions : List (Nat × Nat × BitVec 128)
  digests : List (BitVec 128)
  /-- Per ring: producer index as last doorbelled (SQ), and consumed or written index. -/
  prod : List Nat
  cons : List Nat
  /-- Slots in flight: slot, generation, ring. -/
  tags : List (Nat × Nat × Nat)
  wayGen : Nat
  recSeq : BitVec 32
  session : BitVec 16
  upSeq : Nat
  downSeq : Nat
  drayEpoch : Nat
  setupDigest : BitVec 128
  imageCrc : BitVec 32
  fwVersion : Nat
  /-- The active asks the twin to join, or takes it out of service (R549). -/
  join : Bool
  retire : Bool
  /-- Spare capacity: bytes of join or resync data, whether a pass ends with them, whether it is the final one, the engines
  resynced, and the carried state the data installs. -/
  spareBytes : Nat
  passEnd : Bool
  joinFinal : Bool
  resyncMask : BitVec 16
  carried : Option Machine.Carried
  deriving DecidableEq, Repr, Inhabited

/-- A status block from the standby (R515). `phaseFault` and `swTrip` are the faults it reports. -/
structure StatusBlock where
  ackFrame : BitVec 32
  peerState : Nat
  selfCheck : Bool
  phaseFault : Option Nat
  swTrip : Option Nat
  resyncMask : BitVec 16
  /-- Frames for which a mismatch has stood. -/
  mismatchRun : Nat
  deriving DecidableEq, Repr, Inhabited

/-- The outcome of one channel's gate-pulse test (R754). -/
inductive SelfTest where
  | passed
  | failed (check : Nat) (measured : Nat)
  deriving DecidableEq, Repr

/-- The commands of the block. Each docstring cites the rule of the row. -/
inductive Instr where
  /-- R63. -/
  | frameBoundary (x : Sample)
  /-- R67. -/
  | epochBoundary
  /-- R89. -/
  | sampleMissed
  /-- R91. -/
  | outputMissed
  /-- R175: channel, parity and agreement of the word, value (mA, or µV of V_sense), time in ps. -/
  | currentStreamWord (ch : StreamCh) (good : Bool) (value : Int) (tPs : Nat)
  /-- R168. -/
  | onTimeExpiry (phase : Nat) (tPs : Nat)
  /-- R163: rail, converter word in µV against the coarse value, device time in ns. -/
  | fastErrorWord (rail : Nat) (uv : Int) (t : Nat)
  /-- R204. -/
  | referenceUpdate (rail : Nat)
  /-- R196. -/
  | phaseShed (rail : Nat)
  /-- R193. -/
  | recallHoldEnd (rail : Nat)
  /-- R218. -/
  | pgmaskEnd (rail : Nat)
  /-- R225; `leader` selects the leader's entry. -/
  | speculationStart (rail : Nat) (leader : Bool)
  /-- R228. -/
  | biasEnd (rail : Nat) (leader : Bool)
  /-- R238. -/
  | forecastRetire (rail : Nat) (leader : Bool)
  /-- R271. -/
  | capReduce
  /-- R276. -/
  | capRaise
  /-- R282. -/
  | tsenseFailed
  /-- R283. -/
  | tsenseRecover
  /-- R311. -/
  | railFault (rail : Nat)
  /-- R306: rail, peak voltage in mV, device time at which the comparator fired. -/
  | ovCrowbar (rail : Nat) (peakMv : Nat) (t : Nat)
  /-- R307. -/
  | crowbarHoldEnd (rail : Nat)
  /-- R309. -/
  | phaseLatch (phase : Nat)
  /-- R319. -/
  | ssShort (rail : Nat)
  /-- R314. -/
  | railRetry (rail : Nat)
  /-- R317. -/
  | retryCountReset (rail : Nat)
  /-- R322. -/
  | dischargeEnd (rail : Nat)
  /-- R322. -/
  | dischargeTimeout (rail : Nat)
  /-- R341. -/
  | rampComplete (ch : Nat)
  /-- R341. -/
  | rampTimeout (ch : Nat)
  /-- R349: channel, current in mA, device time at which the comparator fired. -/
  | switchShort (ch : Nat) (ma : Int) (t : Nat)
  /-- R350. -/
  | swFaultTimerExpiry (ch : Nat)
  /-- R358. -/
  | swPumpTrip (ch : Nat)
  /-- R362. -/
  | swRetry (ch : Nat)
  /-- R365. -/
  | swRetryCountReset (ch : Nat)
  /-- R345. -/
  | seatQualified (ch : Nat)
  /-- R346. -/
  | seatLoss (ch : Nat)
  /-- R738. -/
  | brakeI2tTrip (ch : Nat)
  /-- R386. -/
  | stepQualified
  /-- R387. -/
  | stepTimeout
  /-- R400. -/
  | syncRelease
  /-- R400. -/
  | syncRefresh
  /-- R400. -/
  | syncAdvance
  /-- R402: length of the low that ended, µs. -/
  | syncHome (lowUs : Nat)
  /-- R402. -/
  | syncInvalid (lowUs : Nat)
  /-- R402. -/
  | syncAbortBurst
  /-- R403. -/
  | homePulseEnd
  /-- R408. -/
  | pgoodRelease
  /-- R414. -/
  | mrNAssert
  /-- R414. -/
  | mrNEnd
  /-- R415: length of the press, ms. -/
  | pbPress (ms : Nat)
  /-- R416: length of the press, ms. -/
  | longPress (ms : Nat)
  /-- R623: tag slot of the pulse. -/
  | resetPulseEnd (slot : Nat)
  /-- R429: cause (1 below LOSS_V, 2 reverse, 3 OV), feed mV, device time. -/
  | feedLoss (cause : Nat) (feedMv : Nat) (t : Nat)
  /-- R431. -/
  | converterBoost
  /-- R433. -/
  | handoverEnd
  /-- R448. -/
  | feedQualified
  /-- R451. -/
  | handbackEnd
  /-- R443. -/
  | reserveReached
  /-- R446. -/
  | batCutoff
  /-- R453. -/
  | batPresent
  /-- R453. -/
  | batMissing
  /-- R454: the converter's side has come within 300 mV of the battery. -/
  | prechargeEnd (reached : Bool)
  /-- R454. -/
  | detectionPulseEnd
  /-- R455. -/
  | periodicPulse
  /-- R462. -/
  | chgForcedStop
  /-- R464: means over the dwell (feed mV, feed mA), mean feed mV over its last epoch, converter's bus current mA. -/
  | searchDwellEnd (feedMv : Nat) (feedMa : Int) (lastMv : Nat) (convMa : Int)
  /-- R464. -/
  | searchPeriod
  /-- R472: one shunt sample, mA. -/
  | gaugeSample (ma : Int)
  /-- R476. -/
  | emptyConfirmed
  /-- R484. -/
  | ocvCorrect
  /-- R488. -/
  | spectroStart
  /-- R491: measured R and X in µΩ. -/
  | spectroResult (r x : Int)
  /-- R495: the read-back verified. -/
  | nvWrite (ok : Bool)
  /-- R494. -/
  | nvWritePeriodic
  /-- R500: one wake sample, mA, and the time slept, ns, as the always-on domain counts it. -/
  | currentWakeSample (ma : Int) (ns : Nat)
  /-- R523. -/
  | stateBlockReceived (b : StateBlock)
  /-- R520. -/
  | statusBlockReceived (b : StatusBlock)
  /-- R516: a block, or at the active an acknowledgement, is missing; whether its CRC had failed. -/
  | blockMissing (crc : Bool)
  /-- R513: cause (1 alignment, 2 code errors, 3 misses), lane. -/
  | tdmLinkDown (cause lane : Nat)
  /-- R513: the peer's side and its state. -/
  | tdmLinkUp (peerSideB : Bool) (peerState : Nat)
  /-- R522. -/
  | soloHoldEnd
  /-- R535. -/
  | takeover
  /-- R527. -/
  | orphan
  /-- R531. -/
  | mismatchUnresolved
  /-- R544. -/
  | tdmJoin
  /-- R544. -/
  | joinTimeout
  /-- R543. -/
  | autoJoin
  /-- R546. -/
  | drillHoldEnd
  /-- R510: value written to TDM_CMD. -/
  | tdmPromote (w : Word)
  /-- R571. -/
  | sqDoorbell (ring : Nat) (v : Word)
  /-- R572. -/
  | cqDoorbell (ring : Nat) (v : Word)
  /-- R583: ring, and the 64 bytes its DMA read of the next pending entry returned. -/
  | descriptorIntake (ring : Nat) (d : RawDesc)
  /-- R591. -/
  | deadlineMissed (slot : Nat)
  /-- R595. -/
  | completionWrite
  /-- R601. -/
  | coalTimeout (ring : Nat)
  /-- R603. -/
  | msixUnmask (vec : Nat)
  /-- R554: ring, address. -/
  | dmaReadFail (ring : Nat) (addr : Nat)
  /-- R553: Bus Master Enable, D3hot, MSI-X Enable and Function Mask after the change. -/
  | busMasterChange (bme d3 msix fmask : Bool)
  /-- R807: ring, value written to RING_CTRL. -/
  | ringEnable (ring : Nat) (w : Word)
  /-- R605. -/
  | ringCtrlReset (ring : Nat)
  /-- R563: register offset, value. -/
  | dmaWindowWrite (off : Nat) (w : Word)
  /-- R555: BAR, offset, size in bytes, write. -/
  | barAccessVoid (bar off size : Nat) (isWrite : Bool)
  /-- R613. -/
  | nop (slot : Nat)
  /-- R150. -/
  | hibernate (slot : Nat)
  /-- R150. -/
  | hibH1
  /-- R150. -/
  | hibHandoff
  /-- R153: the time slept, ns, as the always-on domain counts it. -/
  | wakePin (ns : Nat)
  /-- R79. -/
  | wallSet (slot : Nat)
  /-- R619: slot, and the image its DMA read returned. -/
  | cfgWrite (slot : Nat) (image : List Byte)
  /-- R619: the read-back matched. -/
  | cfgWriteComplete (ok : Bool)
  /-- R569. -/
  | ringCreate (slot : Nat)
  /-- R569. -/
  | ringDelete (slot : Nat)
  /-- R596. -/
  | resetRing (slot : Nat)
  /-- R569. -/
  | dmaWindowSet (slot : Nat)
  /-- R206. -/
  | railOn (slot : Nat)
  /-- R324. -/
  | railOff (slot : Nat)
  /-- R214. -/
  | railSetVoltage (slot : Nat)
  /-- R622. -/
  | railQuery (slot : Nat)
  /-- R328. -/
  | railClear (slot : Nat)
  /-- R338. -/
  | swOn (slot : Nat)
  /-- R344. -/
  | swOff (slot : Nat)
  /-- R366. -/
  | swClear (slot : Nat)
  /-- R384. -/
  | seqRun (slot : Nat)
  /-- R392. -/
  | seqAbort (slot : Nat)
  /-- R623. -/
  | seqResetPulse (slot : Nat)
  /-- R411. -/
  | seqFaultAck (slot : Nat)
  /-- R458. -/
  | chgStart (slot : Nat)
  /-- R463. -/
  | chgStop (slot : Nat)
  /-- R470. -/
  | pathClear (slot : Nat)
  /-- R457: byte 24 at 1. -/
  | batIsolate (slot : Nat)
  /-- R457: byte 24 at 0. -/
  | batReconnect (slot : Nat)
  /-- R485. -/
  | gaugeSetFull (slot : Nat)
  /-- R494. -/
  | gaugeSave (slot : Nat)
  /-- R499. -/
  | gaugeNewBattery (slot : Nat)
  /-- R488. -/
  | gaugeSpectro (slot : Nat)
  /-- R224. -/
  | forecastPost (slot : Nat)
  /-- R239. -/
  | forecastCancel (slot : Nat)
  /-- R264. -/
  | capSet (slot : Nat)
  /-- R624. -/
  | recRead (slot : Nat)
  /-- R714. -/
  | recTrigger (slot : Nat)
  /-- R613. -/
  | recTraceRead (slot : Nat)
  /-- R759. -/
  | maintStart (slot : Nat)
  /-- R752. -/
  | maintStop (slot : Nat)
  /-- R754. -/
  | selftestChannel (result : SelfTest)
  /-- R755: converter, offset found; `none` where the input was not idle. -/
  | adcCalConverter (conv : Nat) (offset : Option Int)
  /-- R752. -/
  | logCompactSector
  /-- R756. -/
  | safePoint
  /-- R756. -/
  | swapWaitExpiry
  /-- R757. -/
  | dryrunStep
  /-- R549. -/
  | tdmRetire (slot : Nat)
  /-- R549. -/
  | tdmRejoin (slot : Nat)
  /-- R669. -/
  | drayCap (slot : Nat)
  /-- R670. -/
  | drayForecast (slot : Nat)
  /-- R406. -/
  | drayStage (slot : Nat)
  /-- R727: slot, and the bank its DMA read returned. -/
  | fwWrite (slot : Nat) (bank : List Byte)
  /-- R727. -/
  | fwWriteComplete
  /-- R628. -/
  | brakeTighten (slot : Nat)
  /-- R747. -/
  | exitFloor (slot : Nat)
  /-- R743. -/
  | floorEnter
  /-- R748. -/
  | floorExit
  /-- R746: engine, CRC verified. -/
  | engineReload (e : Nat) (ok : Bool)
  /-- R741. -/
  | hostLinkLoss
  /-- R58: engine, stage 1–3, cycles used. -/
  | frameOverrun (e slice cycles : Nat)
  /-- R59. -/
  | backgroundOverrun (e cycles : Nat)
  /-- R28. -/
  | singleBitError
  /-- R30. -/
  | doubleBitError (region : SramRegion)
  /-- R83: relock time in ns. -/
  | xtalFail (relockNs : Nat)
  /-- R84. -/
  | xtalRestored
  /-- R96: domain, stall in ns, register offset. -/
  | domainStall (dom ns off : Nat)
  /-- R779: offset of the _LO register read. -/
  | loReadLatch (off : Nat)
  /-- R782. -/
  | fieldForward
  /-- R776. -/
  | fieldBridgeFlushClear
  /-- R776: value written to GLB_HIF_EVENT. -/
  | hifEventClear (w : Word)
  /-- R776: offset, value. -/
  | registerWrite (off : Nat) (w : Word)
  /-- R138. -/
  | setupLock
  /-- R142: value written to GLB_CTRL. -/
  | warmResetRequest (w : Word)
  /-- R142: value written to GLB_CTRL. -/
  | coldResetRequest (w : Word)
  /-- R139. -/
  | autolock
  /-- R140. -/
  | nohostLock
  /-- R729: value written to ENG_ROLLBACK_CMD. -/
  | rollbackAdvance (w : Word)
  /-- R708: value written to REC_CURSOR. -/
  | recCursorWrite (w : Word)
  /-- R710. -/
  | recSnap
  /-- R709. -/
  | windowFetchDone
  /-- R765: value written to GLB_TEST. -/
  | testUnlock (w : Word)
  /-- R765: value written to GLB_TEST. -/
  | testLock (w : Word)
  /-- R766. -/
  | benchLow
  /-- R113. -/
  | vaonRise
  /-- R113. -/
  | v33Good
  /-- R107: levels of ROLE1, ROLE0 and TDM_SIDE. -/
  | strapLatch (role1 role0 side : Bool)
  /-- R113. -/
  | v18Good
  /-- R125: the reference in use, the flash's page-program time in µs, whether it supports erase suspend, device time. -/
  | bootStart (refSrc : Nat) (pageUs : Nat) (eraseSuspend : Bool) (t : Nat)
  /-- R114: VCORE in mV at the timeout. -/
  | coreStartRetry (vcoreMv : Nat)
  /-- R130: boot time so far, µs. -/
  | cfgImageLoad (bootUs : Nat)
  /-- R132: function bit. -/
  | functionReady (f : Nat)
  /-- R134: function bit, cause. -/
  | funcFail (f cause : Nat)
  /-- R137. -/
  | autoProgStart
  /-- R126. -/
  | pcieConfigReady
  /-- R142. -/
  | warmReset
  /-- R142: LAST code of R148 (0x0, 0x1 or 0x2). -/
  | coldReset (cause : Nat)
  /-- R142. -/
  | fieldMainReset
  /-- R143. -/
  | pcieReset
  /-- R142. -/
  | pcieLinkUp
  /-- R119: VAON in mV. -/
  | vaonLoss (mv : Nat)
  /-- R701. -/
  | stagingFlushed
  /-- R635. -/
  | waybillWrite
  /-- R658, R659: port (0 uplink, 1 downlink), device time of the burst's first SFD. -/
  | drayTransmit (port sfd : Nat)
  /-- R662: header, PREV_SFD, leader's state, joined bits, flag byte 10, device time of the SFD. -/
  | beacon (h : DrayHdr) (prevSfd : Nat) (leaderState : Nat) (joined : BitVec 8) (flags : BitVec 8) (stamp : Nat)
  /-- R75. -/
  | alignLock
  /-- R76. -/
  | holdover
  /-- R665: header, the caps for nodes 1–7 in mW. -/
  | cap (h : DrayHdr) (caps : List Nat)
  /-- R666. -/
  | report (h : DrayHdr) (p : DrayUp)
  /-- R671: header, T (aligned), ΔI mA, RISE µs, WINDOW µs, rail. -/
  | forecast (h : DrayHdr) (t : Nat) (di : Int) (rise window rail : Nat)
  /-- R672: header, stage, and the upward payload where the message came up. -/
  | stage (h : DrayHdr) (stage : Nat) (up : Option DrayUp)
  /-- R668. -/
  | alarm (h : DrayHdr) (p : DrayUp)
  /-- R668: header, entries (node ID, SEQ acknowledged). -/
  | ack (h : DrayHdr) (entries : List (Nat × Nat))
  /-- R654: port. -/
  | drayCrcDiscard (port : Nat)
  /-- R676. -/
  | nodeLoss (n : Nat)
  /-- R677. -/
  | drayUplinkLoss
  /-- R653. -/
  | idConflictClear (n : Nat)
  /-- R693: record code. -/
  | tokenRefill (code : Nat)
  /-- R698. -/
  | flashPageWrite
  /-- R698. -/
  | partialPageFlush
  /-- R715. -/
  | traceFreeze
  /-- R716: the read-back verified, write time in ms. -/
  | traceWritten (ok : Bool) (ms : Nat)
  /-- R111. -/
  | alwaysOnStart
  /-- R401: length of the low that ended, µs. -/
  | holdSegmentEnd (lowUs : Nat)
  /-- R740: the scrub found no double-bit error. -/
  | scrubComplete (ok : Bool)
  /-- R716. -/
  | eraseAheadComplete
  deriving DecidableEq, Repr

end Sys2Proof
end

