-- ==== Sys2Proof/Config.lean ====
section
/-! DEFINITION. What the spec leaves to the part, and the free values: constants with no body, so that nothing in the
model can lean on a value the spec does not give. Each is named in notes/assumptions. -/

namespace Sys2Proof.Config

/-- A fresh unconstrained rational: the argument is the model's own counter of free values (assumption 3). -/
opaque freeRat : Nat → Rat

/-- A fresh unconstrained word (assumption 3). -/
opaque freeWord : Nat → BitVec 32

/-- Which neighbour of an exact quantity a register shows where the spec gives no rounding (assumption 4): the place of
the rounding, then numerator and denominator. `true` is the upper neighbour. -/
opaque roundUp : Nat → Int → Nat → Bool

/-- What a field reads after a write of a value its table calls reserved: register offset, bit, value written
(assumption 5). -/
opaque reservedField : Nat → Nat → Nat → Nat

/-- SHA-256 of a byte string, uninterpreted (assumption 6). -/
opaque sha256 : List Byte → BitVec 256

/-- ECDSA P-256: public key, digest, signature; uninterpreted (assumption 6). -/
opaque ecdsaOk : List Byte → BitVec 256 → List Byte → Bool

/-- Hash of the firmware public key in OTP (R127). -/
opaque otpFwKeyHash : BitVec 256

/-- Hash of the configuration public key in OTP (R130). -/
opaque otpCfgKeyHash : BitVec 256

/-- The 16-byte digest of an engine's carried state (R517): its content is not stated (assumption 7). Engine, counter. -/
opaque engineDigest : Nat → Nat → BitVec 128

/-- Whether the standby's recomputed outputs and completions equal the block's (R523): the 512 output bytes are not laid
out (assumption 7). -/
opaque recomputeEqual : Nat → Bool

/-- The set-up digest of R511 over the register file's entries (assumption 7). -/
opaque setupDigest : List (Nat × BitVec 32) → BitVec 128

/-- Unique device number (R785), from the NV store. -/
opaque uid : BitVec 64

/-- MAC address (R785), from the NV store. -/
opaque mac : BitVec 48

/-- Silicon stepping (GLB_ID.STEP). -/
opaque stepping : BitVec 8

/-- The reading the temperature corrections of R288 settle on, per circuit: factory coefficients in OTP (assumption 3). -/
opaque compCorrection : Nat → Int → Rat

end Sys2Proof.Config
end

