-- ==== Sys2Proof/Machine/State.lean ====
section
/-! DEFINITION. The state of the device as plain data: every register, FIFO, buffer, counter, mode and pin the spec
names, grouped by the unit that owns it (R31), and the queue of waiting commands. INVENTORY.md lists each with its rule
and reset value. -/

namespace Sys2Proof.Machine

/-- FRM_ALIGN_STATUS.STATE. -/
inductive AlignState where
  | free | acquiring | locked | holdover
  deriving DecidableEq, Repr, Inhabited

/-- Frames, device time, clocks and engine watchdog (spec/02_frame_timing.md). -/
structure Clk where
  devTime : Nat := 0
  strobe : Nat := 0
  alignOfs : Int := 0
  ofsSet : Bool := false
  count : BitVec 32 := 0
  epoch : BitVec 32 := 0
  pos : Nat := 0
  /-- The frame that ended last: its number, epoch and Sample strobe. -/
  lastCount : BitVec 32 := 0
  lastEpoch : BitVec 32 := 0
  lastStrobe : Nat := 0
  /-- Tick of the last epoch boundary's work. -/
  epTick : Nat := 0
  /-- Frames evaluated since cold reset: the model's own count, for durations in frames. -/
  tick : Nat := 0
  /-- A frame has begun since the last boot. -/
  begun : Bool := false
  /-- The epoch boundary's work has committed the frame at position 99 and begun the next, whose sample set is yet to
  come (R67): the model's own. -/
  opened : Bool := false
  wallOfs : Int := 0
  /-- Wall offsets set in this frame, in order, with their tag slots (R79). -/
  wallNew : List (Int × Nat) := []
  refSrc : Nat := 0
  /-- The reference in use before a crystal failure (R84). -/
  refWas : Nat := 0
  xtalOk : Bool := false
  engLock : Bool := false
  ptuLock : Bool := false
  pcieLock : Bool := false
  d2dLock : Bool := false
  fbComp : Bool := false
  xtalGood : Nat := 0
  alignState : AlignState := .free
  alignRate : Int := 0
  alignErr : Int := 0
  lockRun : Nat := 0
  noBeacon : Nat := 0
  ovrTotal : Nat := 0
  ovrHist : List (Nat × Nat) := []
  overran : BitVec 16 := 0
  overranCtl : BitVec 16 := 0
  overranEpoch : BitVec 16 := 0
  halted : BitVec 16 := 0
  missRun : Nat := 0
  missTotal : Nat := 0
  goodSamples : Nat := 0
  resampleTotal : Nat := 0
  resampleEpoch : Nat := 0
  resampleFirst : Nat := 0
  streamRepl : Nat := 0
  streamReplTotal : Nat := 0
  streamReplFirst : Nat := 0
  deriving DecidableEq, Repr, Inhabited

/-- Supplies, boot and resets (spec/03, spec/04). -/
inductive Supply where
  | off | aon | v33 | v18 | core | boot | giveUp
  deriving DecidableEq, Repr, Inhabited

/-- Where hibernate entry stands (R150). -/
inductive HibState where
  | none | offProg | h1 | asleep
  deriving DecidableEq, Repr, Inhabited

structure Sys where
  variant : Variant := .a4832
  supply : Supply := .off
  coreEn : Bool := false
  coreTries : Nat := 0
  coreMv : Nat := 0
  strapsLatched : Bool := false
  strapRole : BitVec 2 := 0
  strapSide : Bool := false
  role : Role := .branch
  sideB : Bool := false
  conflict : Bool := false
  booted : Bool := false
  recovery : Bool := false
  configured : Bool := false
  ready : BitVec 11 := 0
  fail : BitVec 11 := 0
  skipped : BitVec 11 := 0
  /-- Device time at boot start. -/
  bootDev : Nat := 0
  /-- The RING function has come up (R132); its READY bit also needs the link (R142). -/
  ringUp : Bool := false
  /-- Completions discarded by the last reset (RESET_CAUSE). -/
  lostCpl : Nat := 0
  perstTick : Nat := 0
  readyAllTick : Option Nat := none
  pcieCfg : Bool := false
  linkUp : Bool := false
  linkEver : Bool := false
  lock : Bool := false
  autoDone : Bool := false
  resetLast : Nat := 0
  warmCount : Nat := 0
  warmPending : Option Nat := none
  /-- Tick at which the warm reset was asked for. -/
  warmTick : Nat := 0
  coldPending : Bool := false
  hib : HibState := .none
  /-- HIBERNATE descriptors that wait for H1. -/
  hibSlots : List Nat := []
  hibOffProg : Bool := false
  hibCount : Nat := 0
  hibTick : Nat := 0
  wakePend : Option Nat := none
  wakeRun : Nat := 0
  vaonMv : Nat := 0
  vaonLost : Bool := false
  vaonLostAt : Nat := 0
  v33Mv : Nat := 0
  v18Mv : Nat := 0
  running : BitVec 7 := 1
  live : BitVec 7 := 1
  bridgeFlush : Bool := false
  bridgePending : Bool := false
  bridgeDom : Nat := 0
  flushCnt : Nat := 0
  stallMax : Nat := 0
  signedOnly : Bool := false
  rollback : BitVec 64 := 0
  rollbackLeft : Nat := 256
  bootSession : BitVec 16 := 0
  deriving DecidableEq, Repr, Inhabited

/-- One image slot of the configuration (R130), firmware banks (R723) and the DEVICE section in force. -/
structure Cfg where
  slotA : List Byte := []
  slotB : List Byte := []
  bankA : List Byte := []
  bankB : List Byte := []
  runningB : Bool := false
  otherValid : Bool := false
  otherReason : Nat := 0
  fwVersion : Nat := 0
  otherVersion : Nat := 0
  journalB : Bool := false
  journalOk : Bool := true
  imageSeq : Nat := 0
  imageCrc : BitVec 32 := 0
  autolock : Bool := false
  autolockEpochs : Nat := 0
  seqSect : List Byte := []
  rateSect : List Byte := []
  floorRail : List (Nat × Bool) := List.replicate 16 (0, false)
  floorSw : BitVec 24 := 0
  vaonLossMv : Nat := 8000
  wakeSrc : BitVec 8 := 1
  autoProg : Nat := 0xFF
  offProg : Nat := 0xFF
  wakeMa : Nat := 50
  nohostMs : Nat := 1000
  /-- A CFG_WRITE or FW_WRITE under way: its slot, whether it is firmware, the other-half flag, the bytes (R620). -/
  wr : Option (Nat × Bool × Bool × List Byte) := none
  deriving DecidableEq, Repr, Inhabited

/-- GAUGE_STATUS.STATE. -/
inductive GaugeSt where
  | init | counting | resting | rested | spectro
  deriving DecidableEq, Repr, Inhabited

/-- GAUGE_STATUS.LEARN. -/
inductive LearnSt where
  | idle | armed | aborted
  deriving DecidableEq, Repr, Inhabited

/-- One gauge slot's content, as the fields of R492 (the encoder `gaugeSlotBytes` gives the bytes). -/
structure GSlot where
  seq : BitVec 32
  qFull : Int
  qDesign : Int
  qRem : Int
  soc : Nat
  cycles : Nat
  dischg : Int
  learnCount : Nat
  learned : Bool
  socValid : Bool
  disagree : Bool
  emptyV : Bool
  tWrite : Int
  timeWrite : Nat
  ztab : List Nat
  deriving DecidableEq, Repr, Inhabited

/-- The battery gauge (spec/12). Charges are in µAh; the accumulator in µA·ms. -/
structure Gauge where
  /-- No working state since cold reset: bring-up loads a slot (R497). -/
  fresh : Bool := true
  st : GaugeSt := .init
  acc : Int := 0
  accTaken : Int := 0
  last : Int := 0
  qRem : Rat := 0
  qFull : Nat := 60000000
  dischg : Rat := 0
  cycles : Nat := 0
  socValid : Bool := false
  emptyV : Bool := false
  disagree : Bool := false
  hold1 : Bool := false
  fullDecl : Bool := false
  learn : LearnSt := .idle
  qLearn : Rat := 0
  /-- Charge into the battery since the declaration, and since empty was confirmed. -/
  chgSince : Rat := 0
  emptyIn : Rat := 0
  learned : Bool := false
  learnCount : Nat := 0
  emptyRun : Nat := 0
  restRun : Nat := 0
  restDone : Bool := false
  vComp : Rat := 0
  socOcv : Rat := 0
  vSum : Nat := 0
  vN : Nat := 0
  /-- Epoch-average V_bat of the last epoch, mV. -/
  vEp : Rat := 0
  zR : Int := 0
  zX : Int := 0
  ztab : List Nat := List.replicate 128 0
  spWait : Nat := 0
  spSlot : Option Nat := none
  spF : Nat := 0
  spTick : Nat := 0
  spI0 : Int := 0
  spT0 : Int := 0
  spSum : Int := 0
  spN : Nat := 0
  spBad : Bool := false
  slotA : Option GSlot := none
  slotB : Option GSlot := none
  /-- Why a slot is not valid: 1 CRC, 2 format (R506). -/
  whyA : Nat := 2
  whyB : Nat := 2
  /-- A write under way: into slot B, its trigger, its content. -/
  writing : Option (Bool × Nat × GSlot) := none
  again : Option Nat := none
  saveSlots : List Nat := []
  saveNext : List Nat := []
  lastResult : Nat := 0
  writes : Nat := 0
  wbWait : Nat := 0
  wbQ : Rat := 0
  /-- A write waits for the recorder's flush after VAON loss (R496). -/
  shutWait : Bool := false
  /-- The battery has been MISSING since it was last in service (R499). -/
  wasMissing : Bool := false
  /-- Milliseconds slept, to be accounted for at bring-up after a wake (R500). -/
  wakeMs : Option Nat := none
  deriving DecidableEq, Repr, Inhabited

/-- TDM_STATUS.STATE (R507). -/
inductive TState where
  | init | waitLink | single | active | solo | joining | shadow | orphan | faulty | retired
  deriving DecidableEq, Repr, Inhabited

/-- The Tandem link and twin state (spec/13). -/
structure Tdm where
  st : TState := .init
  linkUp : Bool := false
  peerSideB : Bool := false
  downs : Nat := 0
  /-- Misses and CRC failures: since cold reset, in a row, in the epoch, and the epoch's first. -/
  misses : Nat := 0
  crcFails : Nat := 0
  missRun : Nat := 0
  missEpoch : Nat := 0
  crcEpoch : Nat := 0
  missFirst : Nat := 0
  mirrored : Bool := false
  peer : Nat := 0
  cause : Nat := 0
  /-- The unresolved mismatch: frames, first frame, engines; and the equal comparisons in a row (R529 to R532). -/
  misRun : Nat := 0
  misFirst : Nat := 0
  misMask : BitVec 16 := 0
  misFrames : Nat := 0
  /-- Frames without an equal comparison (R531), and whether they have made the mismatch unresolved. -/
  noEq : Nat := 0
  misOver : Bool := false
  /-- The resync installed last: engines, frame, bytes (R530). -/
  resMask : BitVec 16 := 0
  resFrame : Nat := 0
  resBytes : Nat := 0
  resyncs : Nat := 0
  resyncHist : List Nat := []
  equalRun : Nat := 0
  skipCmp : Bool := false
  resyncReq : BitVec 16 := 0
  resyncSend : BitVec 16 := 0
  takeovers : Nat := 0
  yields : Nat := 0
  yieldReq : Nat := 0
  fLast : Nat := 0
  fLastTake : Nat := 0
  /-- The mirror, newest block first (R519), and the block the active froze last (R514). -/
  mirror : List StateBlock := []
  sent : Option StateBlock := none
  acked : BitVec 32 := 0
  evid : Nat := 0
  lossTick : Option Nat := none
  /-- A takeover is due: 1 yield, 2 evidence, 3 self-check (R551). -/
  takePend : Nat := 0
  soloHold : Bool := false
  soloUntil : Nat := 0
  joinTick : Nat := 0
  joinReady : Bool := false
  joinPasses : Nat := 0
  joinBytes : Nat := 0
  autoJoinAt : Option Nat := none
  rejoinSlots : List Nat := []
  retireSlots : List Nat := []
  /-- The active asks its peer to join, or takes it out of service, with its next block (R549). -/
  joinSend : Bool := false
  retireSend : Bool := false
  promotePend : Bool := false
  drillOut : Nat := 0
  drillDev : Nat := 0
  drillUnit : Nat := 0
  drillPhase : Nat := 0
  drillHold : Nat := 0
  drillStart : Nat := 0
  /-- Held switches' currents summed over the mirrored frames, and their number (R528). -/
  swSum : List Int := []
  swN : Nat := 0
  selfCheck : Bool := false
  /-- The standby's own PHn_FLT runs and latches (R525). -/
  ownFlt : List Nat := List.replicate 32 0
  ownLatch : BitVec 32 := 0
  /-- What the next status block reports: a phase or a held switch that failed here (R547). -/
  ownFault : Option (Nat × Nat) := none
  /-- The status block of the frame (R515). -/
  status : Option StatusBlock := none
  /-- Rails with every phase in by a recall of the shadow's own, with its tick (R524). -/
  shRecall : List (Nat × Nat) := []
  deriving DecidableEq, Repr, Inhabited

/-- RING_STATUS.STATE. -/
inductive RSt where
  | disabled | active | error
  deriving DecidableEq, Repr, Inhabited

/-- One ring (R564, R607). Its configuration registers stand in the register file. -/
structure Ring where
  st : RSt := .disabled
  errCause : Nat := 0
  phase : Bool := true
  prod : Nat := 0
  cons : Nat := 0
  doorbell : Word := 0
  errInfo : Word := 0
  taken : Nat := 0
  written : Nat := 0
  /-- The configuration in force: type CQ, size log2, binding, vector, base, COAL_CNT, COAL_FR, IRQ_EN. -/
  cq : Bool := false
  log2 : Nat := 4
  bind : Nat := 0
  vec : Nat := 0
  base : Nat := 0
  coalCnt : Nat := 1
  coalFr : Nat := 0
  irqEn : Bool := true
  unsig : Nat := 0
  unsigTick : Nat := 0
  /-- Ticks of the entries written in the last 4 frames (R521). -/
  recentW : List Nat := []
  /-- Entries pending at a takeover whose completions carry TAKEOVER (R537). -/
  tkLeft : Nat := 0
  deriving DecidableEq, Repr, Inhabited

/-- A decided completion (R578). `tag` is bytes 4–5 of the descriptor; `slot` is none for one that failed intake. -/
structure Cpl where
  tag : BitVec 16
  status : Nat
  ring : Nat
  irqNow : Bool
  takeover : Bool
  frame : BitVec 32
  result : Word
  slot : Option Nat
  tick : Nat
  deriving DecidableEq, Repr, Inhabited

/-- What the endpoint has sent to the host, in order: posted writes and MSI-X messages (R552, R635); a message carries its
vector and the vector's table entry, address in bits 63–0 and data in bits 95–64 (R558). -/
inductive Posted where
  | mem (addr : Nat) (bytes : List Byte)
  | msix (vec : Nat) (entry : BitVec 96)
  deriving DecidableEq, Repr

/-- A DMA window (R559). -/
structure Win where
  base : Nat := 0
  pages : Nat := 0
  rd : Bool := false
  wr : Bool := false
  deriving DecidableEq, Repr, Inhabited

/-- The host interface (spec/14). -/
structure Hif where
  bme : Bool := false
  d3 : Bool := false
  msixEn : Bool := false
  fmask : Bool := false
  vecMask : BitVec 64 := 0xFFFFFFFFFFFFFFFF
  vecPend : BitVec 64 := 0
  /-- The MSI-X table's address and data words (R558). -/
  msixTab : List (BitVec 96) := List.replicate 64 0
  wins : List Win := List.replicate 8 {}
  rings : List Ring := List.replicate 64 {}
  tags : List Tag := List.replicate 128 {}
  order : Nat := 0
  decided : List Cpl := []
  posted : List Posted := []
  event : BitVec 4 := 0
  takenNow : Nat := 0
  takenEpoch : Nat := 0
  writtenEpoch : Nat := 0
  /-- Ring and intake order of each use whose completion was decided in the present frame (R592, R593). -/
  decLog : List (Nat × Nat) := []
  /-- Round-robin intake (R580): where the frame's order of the other rings starts, whether the frame has visited one of
  them, and the ring being visited with the descriptors taken in the visit. -/
  rrStart : Nat := 1
  rrSeen : Bool := false
  visit : Option (Nat × Nat) := none
  discarded : Nat := 0
  latchHi : Word := 0
  readData : Word := 0
  scratch : Word := 0
  /-- Completions marked for another slot's repeat (R617): original slot, repeat slot. -/
  repeats : List (Nat × Nat) := []
  runIds : List RunId := []
  /-- Descriptors taken in for the next frame, and for the present one, for the state block (R517). -/
  intakeNow : List (Nat × RawDesc) := []
  intakeCur : List (Nat × RawDesc) := []
  silence : Nat := 0
  linkDown : Nat := 0
  deriving DecidableEq, Repr, Inhabited

/-- The Waybill builder (spec/16). -/
structure Way where
  en : Bool := false
  base : Nat := 0
  vec : Nat := 0
  irqEn : Bool := false
  staleEp : Nat := 10
  st : Nat := 0
  cause : Nat := 0
  gen : Nat := 0
  genWritten : Nat := 0
  /-- The image held for writing: generation, build frame, bytes. -/
  held : Option (Nat × BitVec 32 × List Byte) := none
  skipped : Nat := 0
  first : Bool := true
  /-- The next image is the first after a takeover (R639). -/
  tkFirst : Bool := false
  /-- The content of the build frame, without the header's generation and CPL_MARK (R633). -/
  snap : List Byte := []
  deriving DecidableEq, Repr, Inhabited

/-- What a receiver keeps for a source node on a port (R673). -/
structure Track where
  port : Nat
  node : Nat
  session : Nat
  epoch : Nat
  seq : Nat
  deriving DecidableEq, Repr, Inhabited

/-- A led node as its leader sees it. -/
structure Node where
  joined : Bool := false
  mac : BitVec 48 := 0
  mac2 : Option (BitVec 48) := none
  mac2Silent : Nat := 0
  silent : Nat := 0
  heard : Bool := false
  hostCap : Nat := 0
  /-- DRAY_CAP in flight: slot, and the EPOCH of the first CAP that carried it once sent. -/
  capSlots : List (Nat × Option Nat) := []
  stage : Option Nat := none
  deriving DecidableEq, Repr, Inhabited

/-- A downward message waiting to be sent, with the frame it arose in: a FORECAST (slot, first epoch sent, SEQs used) or a
STAGE. -/
inductive DrayQ where
  | fc (slot node t : Nat) (di : Int) (rise window rail : Nat) (since : Nat) (firstEp : Option Nat) (seqs : List Nat)
  | st (stage : Nat) (slot : Option Nat) (since : Nat)
  deriving DecidableEq, Repr

/-- A vehicle entry (R644–R646). -/
structure VEntry where
  joinedEver : Bool := false
  lost : Bool := false
  epoch : Nat := 0
  subj : Nat := 0
  summary : List Byte := []
  deriving DecidableEq, Repr, Inhabited

/-- A Drayline frame the device has sent: port, TYPE, DST, SEQ, SESSION, EPOCH, FLAGS, payload. -/
structure DraySent where
  port : Nat
  type : Nat
  dst : Nat
  seq : Nat
  session : Nat
  epoch : Nat
  flags : BitVec 8
  payload : List Byte
  deriving DecidableEq, Repr, Inhabited

/-- An own or relayed ALARM pending acknowledgement: subject, cause bits, SEQs used, summary. -/
structure AlarmQ where
  subject : Nat
  cause : Nat
  seqs : List Nat
  summary : List Byte
  subjEpoch : Nat
  since : Nat
  deriving DecidableEq, Repr, Inhabited

/-- Drayline (spec/17). -/
structure Dray where
  upState : Nat := 0
  downState : Nat := 0
  upPlca : Bool := false
  dnPlca : Bool := false
  fallback : Bool := false
  session : BitVec 16 := 0
  downSeq : Nat := 0
  upSeq : Nat := 0
  stale : Nat := 0
  staleEpoch : Nat := 0
  crc : Nat := 0
  crcEpoch : List Nat := [0, 0]
  crcFirst : Nat := 0
  skip : Nat := 0
  skipEpoch : Nat := 0
  skipType : Nat := 0
  skipFirst : Nat := 0
  beaconEp : Nat := 0
  tracks : List Track := []
  nodes : List Node := List.replicate 8 {}
  upJoined : Bool := false
  sessionAdv : Bool := false
  /-- The last BEACON received: its stamp and EPOCH (R662). -/
  lastStamp : Option Nat := none
  lastEp : Nat := 0
  /-- A new leader session waits for its first valid BEACON (R77). -/
  alignNew : Bool := false
  /-- Aligned time at the SFD of the previous BEACON sent. -/
  prevSfd : Nat := 0
  /-- The alarm conditions of the last frame; PGOOD is low at reset. -/
  prevBits : BitVec 8 := 8
  /-- Frames the perturbation unit holds, with the tick of their release (R767). -/
  heldTx : List (Nat × DraySent) := []
  upSilent : Nat := 0
  capEpoch : Nat := 0
  fcAck : Option Nat := none
  queue : List DrayQ := []
  /-- Stages to send up: stage, slot, frame. ALARMs to acknowledge: node, SEQ, frame. -/
  upStages : List (Nat × Option Nat × Nat) := []
  ackQ : List (Nat × Nat × Nat) := []
  alarms : List AlarmQ := []
  rot : Nat := 0
  /-- Composed at the build frame, waiting for the epoch: caps, and the own summary. -/
  capsOut : List Nat := [0, 0, 0, 0, 0, 0, 0]
  /-- Cap values in the last CAP sent. -/
  capsSent : List Nat := [0, 0, 0, 0, 0, 0, 0]
  upDue : Bool := false
  downDue : Bool := false
  ownSummary : List Byte := []
  /-- FRM_EPOCH of the frame in which they were composed. -/
  buildEp : Nat := 0
  /-- The epoch has carried a valid BEACON on the uplink. -/
  upHeard : Bool := false
  vehicle : List VEntry := List.replicate 56 {}
  sent : List DraySent := []
  rxUp : Nat := 0
  rxDn : Nat := 0
  deriving DecidableEq, Repr, Inhabited

/-- A record (R684). -/
structure Record where
  code : Nat
  flags : BitVec 8
  source : Nat
  seq : BitVec 32
  time : Nat
  p0 : Word
  p1 : Word
  p2 : Word
  p3 : Word
  deriving DecidableEq, Repr, Inhabited

/-- A code's token bucket (R693). -/
structure Bucket where
  code : Nat
  tokens : Nat
  refillIn : Option Nat
  supp : Nat
  suppTime : Nat
  deriving DecidableEq, Repr, Inhabited

/-- REC_TRACE_STATUS.STATE. -/
inductive TrSt where
  | off | running | frozen | writing
  deriving DecidableEq, Repr, Inhabited

/-- One frame-trace entry: its frame, validity (R30) and 32 channel values of 16 bits (R711). -/
structure TrEntry where
  tick : Nat
  frame : BitVec 32
  valid : Bool
  vals : List (BitVec 16)
  deriving DecidableEq, Repr, Inhabited

/-- A trace slot in flash (R719). -/
structure TrSlot where
  seq : BitVec 32
  kind : Nat
  code : Nat
  trigFrame : BitVec 32
  trigTime : Nat
  trigSeq : BitVec 32
  bootSeq : BitVec 32
  chans : List Word
  entries : List TrEntry
  deriving DecidableEq, Repr, Inhabited

/-- A trigger under way. -/
structure TrTrig where
  kind : Nat
  code : Nat
  tick : Nat
  frame : BitVec 32
  time : Nat
  seq : BitVec 32
  slots : List Nat
  deriving DecidableEq, Repr, Inhabited

/-- The recorder (spec/18). -/
structure Rec where
  next : BitVec 32 := 0
  any : Bool := false
  hold : List Record := []
  floorHold : List Record := []
  staging : List Record := []
  stageTick : List Nat := []
  log : List Record := []
  flashSeq : BitVec 32 := 0xFFFFFFFF
  oldest : BitVec 32 := 0
  flushedShut : Bool := true
  buckets : List Bucket := []
  global : Nat := 256
  pendSum : List Record := []
  suppressed : Nat := 0
  suppEpoch : Nat := 0
  lost : Nat := 0
  lostNow : Nat := 0
  lost2 : Nat := 0
  lost3 : Nat := 0
  flashSlow : Bool := false
  pageUs : Nat := 0
  winBusy : Bool := false
  /-- The window's entries, `none` where it reads zero. -/
  window : List (Option Record) := []
  cursor : BitVec 32 := 0
  snapValid : Bool := false
  snapSeq : BitVec 32 := 0
  trSt : TrSt := .off
  trSlot : Nat := 0
  trNewest : Option Nat := none
  trProg : Nat := 0
  trIgnored : Nat := 0
  trBuf : List TrEntry := []
  trTrig : Option TrTrig := none
  trSlots : List (Option TrSlot) := List.replicate 10 none
  trErased : Bool := true
  /-- The channel selection the buffer's entries were written with. -/
  trChans : List Word := []
  bootSeq : BitVec 32 := 0
  /-- PROT_CROWBAR_CNT and SW_SHORT_CNT (R330, R374). -/
  crowbars : Nat := 0
  shorts : Nat := 0
  deriving DecidableEq, Repr, Inhabited

/-- The Brake unit, capping, thermal and floor state (spec/07, spec/19). -/
structure Brake where
  inFloor : Bool := false
  floorPend : Bool := false
  /-- The frame in which the pending floor cause was found. -/
  pendTick : Nat := 0
  standing : BitVec 8 := 0
  atEntry : BitVec 8 := 0
  floorTick : Nat := 0
  /-- EXIT_FLOOR descriptors that wait for the next boundary, and the frame of their application. -/
  exitSlots : List Nat := []
  exitTick : Nat := 0
  clipEpoch : Nat := 0
  clipTotal : Nat := 0
  clipEngines : BitVec 16 := 0
  ovrEngines : BitVec 16 := 0
  reload : BitVec 16 := 0
  reloadTick : Nat := 0
  engRun : BitVec 16 := 0
  linkLost : Bool := false
  deriving DecidableEq, Repr, Inhabited

/-- The whole machine. -/
structure State where
  sys : Sys := {}
  clk : Clk := {}
  cfg : Cfg := {}
  /-- Set-up and RW register fields as accepted (they read back at once, R776): offset and value, offsets rising,
  registers at their reset value not listed. -/
  regs : List (Nat × Word) := []
  /-- The same registers as they are in force (R776, R174). -/
  live : List (Nat × Word) := []
  rails : List Rail := List.replicate 16 {}
  phases : List Phase := List.replicate 32 {}
  sws : List Switch := List.replicate 24 {}
  seq : Seq := {}
  path : Path := {}
  gauge : Gauge := {}
  tdm : Tdm := {}
  hif : Hif := {}
  way : Way := {}
  dray : Dray := {}
  rcd : Rec := {}
  brake : Brake := {}
  cap : Cap := {}
  maint : Maint := {}
  /-- The sample set of the present frame. -/
  smp : Sample := default
  /-- The model's own counter of free values (assumption 3): not the spec's. -/
  freeCtr : Nat := 0
  /-- The commands waiting, first in, first out. -/
  pending : List Instr := []
  deriving DecidableEq, Repr

/-- Why the machine stops with a fault. No row of the table ends in one: the spec names no fault that stops the device.
The one constructor keeps the type inhabited and is raised by no meaning (safe). -/
inductive Fault where
  | unreachable
  deriving DecidableEq, Repr

/-- Why a command has no meaning. Raised only by an arm of `exec` not written yet (safe). -/
inductive Refusal where
  | notModelled (mnemonic : String)
  deriving DecidableEq, Repr

/-- The machine right after cold reset (R142, R103): every output in its reset state, supplies down, nothing listed in
flash. Values the spec does not give are named in assumptions 8 and 9. -/
def State.reset : State := {}

end Sys2Proof.Machine
end

