-- ==== Sys2Proof/Machine/Operands.lean ====
section
/-! DEFINITION. Operand forms: the fields of a descriptor (R576, R587, R588, R593 and the PARAMS of spec/15), the little
endian byte forms of R12, CRC-32C, and the set-up and RW register fields of every block with their access types, reset
values and legal ranges (the field tables of spec/05 to spec/21). -/

namespace Sys2Proof.Machine

/-! ### Bytes -/

/-- The low `n` bytes of `v`, least significant first (R12). -/
def leBytes : Nat → Nat → List Byte
  | 0, _ => []
  | n + 1, v => BitVec.ofNat 8 v :: leBytes n (v / 256)

/-- The number a little-endian byte string spells (R12). -/
def leNat : List Byte → Nat
  | [] => 0
  | b :: bs => b.toNat + 256 * leNat bs

/-- Bytes `a`, `a+1`, … of a byte string as one number; bytes beyond its end count as 0. -/
def bytesAt (l : List Byte) (a n : Nat) : Nat := leNat ((l.drop a).take n)

/-- Two's complement of an integer in `w` bits, as a number. -/
def twos (w : Nat) (i : Int) : Nat := (i % (2 ^ w : Nat)).toNat

/-- A `w`-bit number read as signed. -/
def signedOf (w : Nat) (n : Nat) : Int :=
  if n % 2 ^ w < 2 ^ (w - 1) then (n % 2 ^ w : Nat) else ((n % 2 ^ w : Nat) : Int) - (2 ^ w : Nat)

/-- One bit of CRC-32C (reflected polynomial 0x82F63B78). -/
def crcBit (c : BitVec 32) : BitVec 32 :=
  if c.getLsbD 0 then (c >>> 1) ^^^ 0x82F63B78#32 else c >>> 1

/-- One byte of CRC-32C. -/
def crcByte (c : BitVec 32) (b : Byte) : BitVec 32 :=
  crcBit (crcBit (crcBit (crcBit (crcBit (crcBit (crcBit (crcBit (c ^^^ b.setWidth 32))))))))

/-- CRC-32C (Castagnoli) of a byte string (spec/00, Standards). -/
def crc32c (l : List Byte) : BitVec 32 := ~~~(l.foldl crcByte 0xFFFFFFFF#32)

/-! ### Descriptors (R576) -/

/-- `n` bytes of a descriptor from byte `a`, little-endian. -/
def descField (d : RawDesc) (a n : Nat) : Nat := d.toNat / 256 ^ a % 256 ^ n

/-- The descriptor's bytes in order. -/
def descBytes (d : RawDesc) : List Byte := leBytes 64 d.toNat

def descOpcode (d : RawDesc) : Nat := descField d 0 2
def descFlags (d : RawDesc) : Nat := descField d 2 1
def descKind (d : RawDesc) : Nat := descField d 3 1
/-- Bytes 4–5. -/
def descTag (d : RawDesc) : BitVec 16 := BitVec.ofNat 16 (descField d 4 2)
def descIndex (d : RawDesc) : Nat := descField d 6 2
def descNotBefore (d : RawDesc) : Nat := descField d 8 8
def descDeadline (d : RawDesc) : Nat := descField d 16 8
def descAfter (d : RawDesc) : Nat := descField d 56 4
def descCrc (d : RawDesc) : BitVec 32 := BitVec.ofNat 32 (descField d 60 4)
/-- FLAGS bit 0 (R587). -/
def descIrqNow (d : RawDesc) : Bool := descFlags d % 2 == 1
/-- FLAGS bit 1 (R592). -/
def descFence (d : RawDesc) : Bool := descFlags d / 2 % 2 == 1
/-- Slot number of a tag (R588). -/
def tagSlot (t : Nat) : Nat := t % 128
/-- Generation of a tag (R588). -/
def tagGen (t : Nat) : Nat := t / 256 % 16
/-- Whether CRC-32C over bytes 0–59 equals bytes 60–63 (R583 check 1). -/
def descCrcOk (d : RawDesc) : Bool := crc32c ((descBytes d).take 60) == descCrc d

/-- TARGET_KIND an opcode takes (spec/15); two rows accept more than one. -/
def opcodeKinds (op : Nat) : List Nat :=
  match op with
  | 0x0110 | 0x0111 | 0x0112 => [5]
  | 0x0113 => [6]
  | 0x0201 | 0x0202 | 0x0203 | 0x0204 | 0x0205 | 0x0701 | 0x0702 => [1]
  | 0x0301 | 0x0302 | 0x0303 => [3]
  | 0x0401 => [4]
  | 0x0C01 | 0x0C02 => [7]
  | 0x0D02 => [0, 1, 3]
  | _ => [0]

/-- The opcodes of spec/15 (R612). -/
def definedOpcodes : List Nat :=
  [0x0101, 0x0102, 0x0103, 0x0104, 0x0110, 0x0111, 0x0112, 0x0113,
   0x0201, 0x0202, 0x0203, 0x0204, 0x0205, 0x0301, 0x0302, 0x0303,
   0x0401, 0x0402, 0x0403, 0x0404, 0x0501, 0x0502, 0x0503, 0x0504,
   0x0601, 0x0602, 0x0603, 0x0604, 0x0701, 0x0702, 0x0801,
   0x0901, 0x0902, 0x0903, 0x0A01, 0x0A02, 0x0B01, 0x0B02,
   0x0C01, 0x0C02, 0x0C03, 0x0D01, 0x0D02, 0x0D03]

/-- How many units of a TARGET_KIND the full device has (R586). -/
def kindRange (k : Nat) : Nat :=
  match k with
  | 0 => 1 | 1 => 16 | 2 => 32 | 3 => 24 | 4 => 4 | 5 => 64 | 6 => 8 | 7 => 8 | _ => 0

/-- The PARAMS bits an opcode assigns, as (first bit, width) within the descriptor; every other PARAMS bit is reserved
(R611). -/
def paramBits (op : Nat) : List (Nat × Nat) :=
  let b (n len : Nat) : Nat × Nat := (8 * n, 8 * len)
  match op with
  | 0x0101 => [b 24 4]
  | 0x0103 => [b 24 8]
  | 0x0104 | 0x0D01 => [b 24 4, b 32 8]
  | 0x0110 => [b 24 8, (8 * 32, 1), b 33 1, (8 * 34, 6), (8 * 35, 6), b 36 1, b 37 1, (8 * 38, 1)]
  | 0x0113 => [b 24 8, b 32 4, (8 * 36, 2)]
  | 0x0201 => [b 24 2]
  | 0x0203 => [b 24 4]
  | 0x0205 => [b 24 4]
  | 0x0401 | 0x0601 => [b 24 2]
  | 0x0403 => [(8 * 24, 4), b 26 2, b 28 2]
  | 0x0501 => [b 24 6]
  | 0x0504 => [b 24 1]
  | 0x0604 => [b 24 1, b 26 2]
  | 0x0701 => [b 24 16]
  | 0x0801 => [b 24 4]
  | 0x0901 => [b 24 6, b 32 8]
  | 0x0902 => [b 24 4]
  | 0x0903 => [b 24 1, b 28 4, b 32 8, b 40 4]
  | 0x0A01 => [b 24 1, b 26 2, b 28 4]
  | 0x0A02 => [b 24 1]
  | 0x0C01 => [b 24 4]
  | 0x0C02 => [b 24 17]
  | 0x0C03 => [b 24 2]
  | 0x0D02 => [b 24 1, b 28 4]
  | _ => []

/-- The assigned bits of PARAMS as a mask over the descriptor. -/
def paramMask (op : Nat) : Nat :=
  (paramBits op).foldl (fun m p => m ||| ((2 ^ p.2 - 1) * 2 ^ p.1)) 0

/-- PARAMS (bytes 24–55) as a mask over the descriptor. -/
def paramsAll : Nat := (2 ^ 256 - 1) * 2 ^ 192

/-- Check 2 of R583: every reserved bit of FLAGS, TAG, AFTER_TAG, TARGET_KIND and PARAMS is zero. PARAMS of an undefined
opcode assign nothing that could be judged, so only its header is judged here (R611, R612). -/
def descReservedOk (d : RawDesc) : Bool :=
  descFlags d < 4 && descField d 4 2 % 256 < 128 && descField d 4 2 < 4096 && descKind d < 8 &&
  (if descAfter d < 2 ^ 31 then descAfter d == 0
   else descAfter d % 2 ^ 31 % 256 < 128 && descAfter d % 2 ^ 31 < 4096) &&
  (!(definedOpcodes.contains (descOpcode d)) ||
   d.toNat &&& paramsAll &&& paramMask (descOpcode d) == d.toNat &&& paramsAll)

/-! ### Variants and absent units (R1, R6) -/

def Variant.phases : Variant → Nat
  | .a4832 => 32 | .t4824 => 24 | .b4816 => 16
def Variant.rails : Variant → Nat
  | .b4816 => 8 | _ => 16
def Variant.sws : Variant → Nat
  | .b4816 => 12 | _ => 24
/-- Power path, charger and gauge (R1). -/
def Variant.hasPath : Variant → Bool
  | .a4832 => true | _ => false
def Variant.hasTdm : Variant → Bool
  | .b4816 => false | _ => true
def Variant.hasDown : Variant → Bool
  | .b4816 => false | _ => true
def Variant.code : Variant → Nat
  | .a4832 => 0 | .t4824 => 1 | .b4816 => 2
/-- PCIe device ID and GLB_ID.DEVICE (R552). -/
def Variant.devId : Variant → Nat
  | .a4832 => 0x4832 | .t4824 => 0x4824 | .b4816 => 0x4816

/-- Whether an offset belongs to a unit the variant lacks (R6, R202, R293, R331, R375, R419, R469, R504, R550, R750,
R784). -/
def absentReg (v : Variant) (off : Nat) : Bool :=
  let rails := v.rails; let sws := v.sws
  (0x1180 ≤ off && off < 0x11E0 && sws ≤ (off - 0x1180) / 4) ||
  (0x2000 ≤ off && off < 0x3000 && rails ≤ (off - 0x2000) / 0x100) ||
  (0x3000 ≤ off && off < 0x3800 && v.phases ≤ (off - 0x3000) / 0x40) ||
  (0x3800 ≤ off && off < 0x3C00 && rails ≤ (off - 0x3800) / 0x40) ||
  (0x4000 ≤ off && off < 0x4C00 && sws ≤ (off - 0x4000) / 0x80) ||
  (0x5100 ≤ off && off < 0x5140 && rails ≤ (off - 0x5100) / 4) ||
  (0x6000 ≤ off && off < 0x7000 && !v.hasPath) ||
  (0x7000 ≤ off && off < 0x8000 && !v.hasTdm) ||
  (0xC100 ≤ off && off < 0xC200 && rails ≤ (off - 0xC100) / 16) ||
  (0xC200 ≤ off && off < 0xC2C0 && sws ≤ (off - 0xC200) / 8) ||
  (0xC300 ≤ off && off < 0xC340 && rails ≤ (off - 0xC300) / 4) ||
  (0xC380 ≤ off && off < 0xC3E0 && sws ≤ (off - 0xC380) / 4) ||
  (0xF300 ≤ off && off < 0xF400 && !v.hasPath) ||
  (0xF500 ≤ off && off < 0xF600 && !v.hasDown) ||
  (0xF600 ≤ off && off < 0x10000 && !v.hasTdm)

/-! ### Register fields -/

/-- Access of a writable field (R18); the two tightening directions of R628. -/
inductive Acc where
  | rw | rl | rtLow | rtHigh
  deriving DecidableEq, Repr

/-- A writable field: place, width, reset value, legal ranges (none listed: every value), access. -/
structure Fld where
  lo : Nat
  w : Nat
  reset : Nat
  ok : List (Nat × Nat)
  acc : Acc
  deriving DecidableEq, Repr

/-- An RL field. -/
def rl (lo w reset : Nat) (ok : List (Nat × Nat) := []) : Fld := ⟨lo, w, reset, ok, .rl⟩
/-- An RW field. -/
def rw' (lo w reset : Nat) (ok : List (Nat × Nat) := []) : Fld := ⟨lo, w, reset, ok, .rw⟩

/-- Offsets 0x00–0xFF of a rail (R200, R243, R291). -/
def railFields (v : Variant) (n o : Nat) : List Fld :=
  if o = 0x00 then [rl 0 2 (if v.hasPath then 0 else 2) [(if v.hasPath then 0 else 1, 2)], rl 2 4 0, rl 6 1 0, rl 7 1 1,
    rl 8 4 1 [(1, 8)]]
  else if o = 0x04 then [rl 0 12 500 [(150, 2500)]]
  else if o = 0x08 then [rl 0 16 48000 [(3000, 60000)], rl 16 16 1024 [(256, 16384)]]
  else if o = 0x0C then [rl 0 16 15000 [(2000, 60000)], rl 16 8 15 [(0, 50)], rl 24 4 3 [(0, 8)]]
  else if o = 0x10 then [rl 0 20 100]
  else if o = 0x14 then [rl 0 20 100000]
  else if o = 0x18 then [rl 0 8 30 [(5, 100)], rl 8 8 30 [(5, 100)], rl 16 8 40 [(20, 200)]]
  else if o = 0x1C then [rl 0 1 0, rl 4 4 2, rl 8 8 10 [(1, 100)], rl 16 16 50 [(1, 10000)]]
  else if 0x20 ≤ o ∧ o < 0x40 then [rl 0 16 0, rl 16 16 0]
  else if o = 0x40 then [rl 0 8 16, rl 8 8 125 [(0, 200)], rl 16 8 5]
  else if o = 0x80 then [rl 0 16 0 [(0, 0), (300, 16000)]]
  else if o = 0x84 then [rl 0 16 10 [(1, 500)], rl 16 16 5 [(1, 500)]]
  else if o = 0x88 then [rl 0 8 5 [(1, 200)]]
  else if o = 0x8C then [rl 0 8 4 [(1, 20)], rl 8 8 50 [(10, 100)], rl 16 8 50 [(0, 200)], rl 24 1 1, rl 25 1 1]
  else if o = 0xC0 then [rl 0 16 0 [(0, 10000)], rl 16 8 30 [(0, 50)]]
  else if o = 0xC4 then (if n % 2 = 0 then [rl 0 1 0] else []) ++ [rl 8 8 50 [(1, 99)], rl 16 8 20]
  else if o = 0xC8 then [rl 0 1 0, rl 16 16 0]
  else []

/-- PROT registers of a rail (R330). -/
def protFields (o : Nat) : List Fld :=
  if o = 0x00 then [rl 0 8 50 [(10, 200)], rl 8 8 80 [(20, 250)], rl 16 8 10 [(1, 100)]]
  else if o = 0x04 then [rl 0 8 50 [(10, 200)], rl 8 8 100 [(20, 250)], rl 16 8 10 [(1, 255)]]
  else if o = 0x08 then [rl 0 16 0, rl 16 16 0]
  else if o = 0x0C then [rl 0 16 0, rl 16 8 10 [(1, 255)]]
  else if o = 0x10 then [rl 0 8 125 [(60, 150)], rl 8 8 140 [(65, 155)], rl 16 8 100 [(1, 255)]]
  else if o = 0x14 then [rl 0 2 0 [(0, 1)], rl 2 2 1 [(0, 1)], rl 4 2 1 [(0, 1)], rl 6 2 0 [(0, 1)], rl 8 4 2 [(1, 15)],
    rl 12 4 1 [(1, 8)]]
  else if o = 0x18 then [rl 0 8 20 [(1, 255)], rl 8 8 50 [(10, 90)], rl 16 8 5 [(1, 50)]]
  else if o = 0x1C then [rl 0 4 5, rl 8 8 99 [(1, 255)], rl 16 16 100 [(1, 10000)]]
  else if o = 0x20 then [rl 0 1 1, rl 8 8 10 [(1, 60)], rl 16 16 2000 [(1, 65535)]]
  else if o = 0x24 then [rl 0 16 200 [(50, 16000)]]
  else []

/-- SW registers of a channel (R373). -/
def swFields (v : Variant) (o : Nat) : List Fld :=
  if o = 0x00 then [rl 0 2 (if v.hasPath then 0 else 2) [(if v.hasPath then 0 else 1, 2)], rl 2 4 0, rl 6 1 0, rl 7 1 0,
    rl 8 4 5 [(1, 15)], rl 12 4 2 [(1, 15)], rl 16 1 1]
  else if o = 0x04 then [rl 0 16 1000 [(200, 5000)], rl 16 16 48000 [(6000, 60000)]]
  else if o = 0x08 then [rl 0 16 0, rl 16 16 0]
  else if o = 0x0C then [rl 0 16 100 [(1, 65535)], rl 16 8 20 [(10, 100)]]
  else if o = 0x10 then [rl 0 16 50 [(1, 500)], rl 16 16 10000 [(100, 65535)]]
  else if o = 0x14 then [rl 0 4 5, rl 8 8 99 [(1, 255)], rl 16 16 100 [(1, 10000)]]
  else if o = 0x18 then [rl 0 16 2000 [(100, 65535)], rl 16 16 4000 [(0, 10000)]]
  else if o = 0x1C then [rl 0 16 50 [(1, 10000)], rl 16 16 100 [(10, 65535)]]
  else if o = 0x20 then [rl 0 16 2500 [(1, 60000)], rl 16 16 1000 [(1, 65535)]]
  else if o = 0x24 then [rl 0 16 256 [(64, 512)], rl 16 16 0 [(0, 1600), (63936, 65535)]]
  else if o = 0x28 then [rl 0 8 125 [(40, 175)], rl 8 8 140 [(40, 175)], rl 16 8 160 [(40, 175)], rl 24 8 100 [(40, 175)]]
  else []

/-- FRM registers of capping and temperature (R292). -/
def frmFields (v : Variant) (off : Nat) : List Fld :=
  if off = 0x1100 then [rl 0 2 (if v.hasPath then 0 else 1) [(if v.hasPath then 0 else 1, 1)], rl 8 8 100 [(1, 100)],
    rl 16 8 20 [(1, 200)], rl 24 8 10 [(1, 200)]]
  else if off = 0x1104 then [rl 0 8 5 [(1, 20)], rl 8 8 5 [(1, 20)], rl 16 8 3 [(1, 20)], rl 24 8 10 [(1, 100)]]
  else if off = 0x1108 then
    [rl 0 2 2 [(0, 2)], rl 2 1 0, rl 8 2 2 [(0, 2)], rl 10 1 0, rl 16 2 2 [(0, 2)], rl 18 1 0, rl 24 2 2 [(0, 2)], rl 26 1 0]
  else if off = 0x110C then [rl 0 32 10000000 [(100000, 20000000)]]
  else if off = 0x1110 then [rl 0 8 115 [(60, 145)], rl 8 8 140 [(65, 150)], rl 16 8 20 [(10, 100)], rl 24 8 125 [(60, 150)]]
  else if off = 0x1150 then [rl 0 v.sws 0]
  else if 0x1180 ≤ off ∧ off < 0x11E0 then [rl 0 16 0]
  else []

/-- SEQ registers (R418). -/
def seqFields (v : Variant) (off : Nat) : List Fld :=
  if off = 0x5010 then [rl 0 1 0, rl 1 1 0]
  else if off = 0x5020 then [rl 0 v.rails 0]
  else if off = 0x5024 then [rl 0 v.sws 0]
  else if off = 0x5028 then [rl 0 1 0, rl 8 8 10]
  else if off = 0x5030 then [rl 0 1 1, rl 1 1 1, rl 2 1 1, rl 3 1 0, rl 4 1 1, rl 5 1 1, rl 6 1 0, rl 7 1 1, rl 8 1 1]
  else if off = 0x5040 then [rl 0 4 15, rl 4 4 0, rl 16 16 20 [(1, 1000)]]
  else if off = 0x5048 then [rl 0 1 1, rl 4 4 8 [(2, 15)]]
  else if 0x5100 ≤ off ∧ off < 0x5140 then
    [rl 0 8 50 [(5, 200)], rl 8 8 50 [(5, 200)], rl 16 8 5 [(1, 50)], rl 24 8 10 [(1, 255)]]
  else []

/-- PATH registers (R469). -/
def pathFields (off : Nat) : List Fld :=
  if off = 0x6000 then [rl 0 16 36000 [(30000, 48000)], rl 16 16 52000 [(48000, 58000)]]
  else if off = 0x6004 then [rl 0 16 33000 [(20000, 44000)], rl 16 16 58000 [(53000, 60000)]]
  else if off = 0x6008 then [rl 0 16 100 [(10, 10000)], rl 16 8 20 [(5, 255)], rl 24 8 1 [(1, 50)]]
  else if off = 0x600C then [rl 0 16 400 [(100, 5000)], rl 16 16 250 [(50, 5000)]]
  else if off = 0x6010 then [rl 0 8 95 [(92, 100)], rl 8 1 1, rl 9 1 0, rl 10 1 1, rl 11 1 1, rl 16 16 30]
  else if off = 0x6014 then [rl 0 16 10500 [(9000, 14000)], rl 16 16 9000 [(8000, 11000)]]
  else if off = 0x6018 then [rl 0 8 10 [(0, 50)], rl 8 8 70 [(40, 90)], rl 16 8 60, rl 24 8 20 [(5, 100)]]
  else if off = 0x601C then [rl 0 16 2000 [(10, 2000)], rl 16 16 250 [(100, 1000)]]
  else if off = 0x6020 then [rl 0 16 600 [(10, 600)], rl 16 16 14600 [(8000, 16800)]]
  else if off = 0x6024 then [rl 0 8 0 [(0, 20), (216, 255)], rl 8 8 45 [(20, 60)], rl 16 16 720]
  else if off = 0x6028 then [rl 0 16 1500 [(200, 10000)], rl 16 8 10 [(1, 50)], rl 24 8 5 [(1, 100)]]
  else if off = 0x602C then [rl 0 16 1000 [(100, 10000)], rl 16 16 0 [(0, 1440)]]
  else if off = 0x6030 then [rl 0 16 3000 [(10, 3000)]]
  else []

/-- The reset OCV table (R505), grid points 0–15, mV. -/
def ocvReset : List Nat :=
  [10000, 12400, 12800, 12950, 13000, 13050, 13100, 13120, 13150, 13180, 13200, 13220, 13250, 13300, 13350, 13600]

/-- GAUGE registers (R505). -/
def gaugeFields (off : Nat) : List Fld :=
  if off = 0x6800 then [rl 0 32 60000000 [(1000000, 500000000)]]
  else if off = 0x6804 then [rl 0 16 11000 [(8000, 13000)], rl 16 8 100 [(1, 255)]]
  else if off = 0x6808 then [rl 0 16 100 [(10, 1000)], rl 16 16 30 [(1, 600)]]
  else if off = 0x680C then [rl 0 8 50 [(0, 100)], rl 8 8 20 [(0, 100)], rl 16 8 0 [(0, 25), (236, 255)], rl 24 8 45 [(20, 60)]]
  else if off = 0x6810 then [rl 0 4 3 [(0, 9)], rl 8 8 20 [(1, 20)], rl 16 8 20 [(4, 255)], rl 24 8 10]
  else if off = 0x6814 then [rl 0 16 50 [(10, 2000)], rl 16 16 5000 [(100, 65535)]]
  else if 0x6818 ≤ off ∧ off < 0x6838 then
    [rl 0 16 (ocvReset.getD ((off - 0x6818) / 2) 0), rl 16 16 (ocvReset.getD ((off - 0x6818) / 2 + 1) 0)]
  else if off = 0x6838 then [rl 0 16 60 [(10, 1440)], rl 16 8 24 [(1, 255)]]
  else if off = 0x683C then [rl 0 32 0 [(0, 100000)]]
  else []

/-- RING registers of ring `r`: RW on rings 0 and 1, RL on the others (R569, R607). -/
def ringFields (r o : Nat) : List Fld :=
  let f (lo w reset : Nat) (ok : List (Nat × Nat)) : Fld := ⟨lo, w, reset, ok, if r < 2 then .rw else .rl⟩
  if o = 0x00 then [f 12 20 0 []]
  else if o = 0x04 then [f 0 32 0 []]
  else if o = 0x08 then
    (if r < 2 then [] else [f 0 1 0 []]) ++ [f 1 4 4 [(4, 12)]] ++ (if r = 0 then [] else [f 8 6 0 []]) ++ [f 16 6 0 []]
  else if o = 0x0C then [f 0 8 1 [(1, 255)], f 8 8 0 [], f 16 1 1 []]
  else []

/-- DRAY registers (R680). -/
def drayFields (off : Nat) : List Fld :=
  if off = 0xA000 then [rl 0 3 0, rl 3 1 1, rl 4 1 1]
  else if off = 0xA004 then [rl 0 16 150 [(0, 2000)]]
  else if off = 0xA008 then [rl 0 8 3 [(2, 50)], rl 8 8 20 [(3, 255)], rl 16 2 0 [(0, 2)]]
  else if off = 0xA00C then [rl 0 32 0 [(0, 0), (100000, 20000000)]]
  else if 0xA044 ≤ off ∧ off < 0xA060 then [rl 0 8 0 [(0, 100)]]
  else []

/-- Brake limits and the link policy (R749, R777). -/
def brakeFields (off : Nat) : List Fld :=
  if off = 0xC048 then [rl 0 2 0 [(0, 2)], rl 16 16 100 [(10, 60000)]]
  else if 0xC100 ≤ off ∧ off < 0xC200 then
    if off % 16 = 0 then [⟨0, 16, 0, [], .rtLow⟩, ⟨16, 16, 0, [], .rtHigh⟩]
    else if off % 16 = 4 then [⟨0, 32, 0, [], .rtLow⟩]
    else if off % 16 = 8 then [⟨0, 16, 0, [], .rtLow⟩]
    else []
  else if 0xC200 ≤ off ∧ off < 0xC2C0 then [⟨0, 32, 0, [], .rtLow⟩]
  else if off = 0xC2C0 then [⟨0, 6, 0, [(1, 32)], .rtLow⟩]
  else []

/-- TEST registers (R769). -/
def testFields (off : Nat) : List Fld :=
  if off = 0xE000 then [rw' 0 7 0]
  else if off = 0xE004 then [rw' 0 32 0]
  else if off = 0xE008 then [rw' 0 11 0 [(0, 2000)]]
  else if off = 0xE00C then [rw' 0 8 0 [(0, 200)], rw' 8 6 0]
  else if off = 0xE010 then [rw' 0 6 0, rw' 8 7 0 [(0, 99)]]
  else if off = 0xE014 then [rw' 0 2 0, rw' 2 2 0, rw' 8 8 0]
  else if off = 0xE018 then [rw' 0 1 0, rw' 8 4 0, rw' 16 8 0]
  else if off = 0xE01C then [rw' 0 1 0, rw' 8 8 0, rw' 16 1 0]
  else if off = 0xE020 then [rw' 0 3 0 [(0, 4)], rw' 8 5 0 [(0, 16)]]
  else []

/-- The writable fields of the register at a BAR0 offset; none for an RO, absent or unassigned offset. Registers whose
writes are a row of their own (GLB_CTRL, GLB_TEST, the windows, RING_CTRL, the command registers) are not here. -/
def regFields (v : Variant) (off : Nat) : List Fld :=
  if off % 4 ≠ 0 || absentReg v off then []
  else if off = 0x0038 then [rw' 0 32 0]
  else if off = 0x0200 then [rw' 0 6 0, rw' 8 4 15]
  else if off < 0x2000 then frmFields v off
  else if off < 0x3000 then railFields v ((off - 0x2000) / 0x100) (off % 0x100)
  else if off < 0x3800 then (if off % 0x40 = 0 then [rl 0 16 1000 [(50, 20000)], rl 16 8 50 [(25, 100)]] else [])
  else if off < 0x3C00 then protFields ((off - 0x3800) % 0x40)
  else if off < 0x4000 then []
  else if off < 0x4C00 then swFields v (off % 0x80)
  else if off < 0x5000 then []
  else if off < 0x6000 then seqFields v off
  else if off < 0x6800 then pathFields off
  else if off < 0x7000 then gaugeFields off
  else if off < 0x8000 then
    (if off = 0x7000 then [rl 0 8 15 [(10, 30)], rl 8 4 3 [(2, 8)], rl 12 4 3 [(1, 8)], rl 16 1 1, rl 17 1 1,
      rl 24 8 10 [(1, 50)]] else [])
  else if off < 0x9000 then ringFields ((off - 0x8000) / 0x40) (off % 0x40)
  else if off < 0xA000 then
    (if off = 0x9000 then [rw' 0 1 0, rw' 12 20 0]
     else if off = 0x9004 then [rw' 0 32 0]
     else if off = 0x9008 then [rw' 0 6 0, rw' 6 1 0, rw' 8 8 10 [(2, 100)]] else [])
  else if off < 0xB000 then drayFields off
  else if off < 0xC000 then
    (if off = 0xB024 then [rl 0 1 1]
     else if 0xB080 ≤ off ∧ off < 0xB100 then [rl 0 8 0 [(0, 15)], rl 8 8 0] else [])
  else if off < 0xD000 then brakeFields off
  else if off < 0xE000 then
    (if off = 0xD004 then [rl 0 16 300 [(10, 2000)]] else if off = 0xD008 then [rl 0 16 1000 [(1, 60000)]] else [])
  else if off < 0xF000 then testFields off
  else []

/-- The reset value of a register: its fields at their reset values (R749: Brake limits come from the image). -/
def regReset (v : Variant) (off : Nat) : Nat :=
  (regFields v off).foldl (fun a f => a + f.reset * 2 ^ f.lo) 0

/-- A set-up register: one with an RL or RT field, other than GLB_CTRL and the RING block (R774), judged by the full
device's map (R775). -/
def isSetup (off : Nat) : Bool :=
  !(0x8000 ≤ off && off < 0x9000) && (regFields .a4832 off).any (fun f => f.acc != .rw)

/-- A value in a sparse register list, offsets rising, registers at their reset value not listed. -/
def regLookup (v : Variant) : List (Nat × Word) → Nat → Nat
  | [], off => regReset v off
  | (o, w) :: rest, off => if o = off then w.toNat else regLookup v rest off

/-- Sets a register in a sparse list, keeping the canonical form. -/
def regInsert (v : Variant) (off : Nat) (w : Word) : List (Nat × Word) → List (Nat × Word)
  | [] => if w.toNat = regReset v off then [] else [(off, w)]
  | (o, x) :: rest =>
    if off < o then (if w.toNat = regReset v off then (o, x) :: rest else (off, w) :: (o, x) :: rest)
    else if off = o then (if w.toNat = regReset v off then rest else (off, w) :: rest)
    else (o, x) :: regInsert v off w rest

/-- The canonical form: offsets rising and no register listed at its reset value. -/
def regWf (v : Variant) : List (Nat × Word) → Bool
  | [] => true
  | [(o, w)] => w.toNat != regReset v o
  | (o, w) :: (o', w') :: rest => w.toNat != regReset v o && o < o' && regWf v ((o', w') :: rest)

/-- A register as it is in force (R776). -/
def State.cfgv (s : State) (off : Nat) : Nat := regLookup s.sys.variant s.live off
/-- A field of a register in force. -/
def State.cfgf (s : State) (off lo w : Nat) : Nat := s.cfgv off / 2 ^ lo % 2 ^ w
/-- A bit of a register in force. -/
def State.cfgb (s : State) (off lo : Nat) : Bool := s.cfgf off lo 1 == 1
/-- A signed field of a register in force. -/
def State.cfgi (s : State) (off lo w : Nat) : Int := signedOf w (s.cfgf off lo w)
/-- A register as accepted: what a read of it returns (R776). -/
def State.regv (s : State) (off : Nat) : Nat := regLookup s.sys.variant s.regs off
/-- A rail's register field in force. -/
def State.railf (s : State) (n o lo w : Nat) : Nat := s.cfgf (0x2000 + 0x100 * n + o) lo w
/-- A rail's PROT field in force. -/
def State.protf (s : State) (n o lo w : Nat) : Nat := s.cfgf (0x3800 + 0x40 * n + o) lo w
/-- A switch's field in force. -/
def State.swf (s : State) (n o lo w : Nat) : Nat := s.cfgf (0x4000 + 0x80 * n + o) lo w

end Sys2Proof.Machine
end

