-- ==== Sys2Proof/Machine/Ops.lean ====
section
/-! DEFINITION. The named operations every family shares: reading and updating units, free values and rounding, records
and the frame trace's trigger (R684–R717), MSI-X and device events (R600–R603), tag slots and completions (R578–R599),
and the application of a held descriptor (R584). -/

namespace Sys2Proof.Machine

/-! ### Units -/

def State.rail (s : State) (n : Nat) : Rail := s.rails.getD n {}
def State.phase (s : State) (m : Nat) : Phase := s.phases.getD m {}
def State.sw (s : State) (n : Nat) : Switch := s.sws.getD n {}
def State.ring (s : State) (r : Nat) : Ring := s.hif.rings.getD r {}
def State.tag (s : State) (k : Nat) : Tag := s.hif.tags.getD k {}
def State.modRail (s : State) (n : Nat) (f : Rail → Rail) : State := { s with rails := s.rails.modify n f }
def State.modPhase (s : State) (m : Nat) (f : Phase → Phase) : State := { s with phases := s.phases.modify m f }
def State.modSw (s : State) (n : Nat) (f : Switch → Switch) : State := { s with sws := s.sws.modify n f }
def State.modRing (s : State) (r : Nat) (f : Ring → Ring) : State :=
  { s with hif := { s.hif with rings := s.hif.rings.modify r f } }
def State.modTag (s : State) (k : Nat) (f : Tag → Tag) : State :=
  { s with hif := { s.hif with tags := s.hif.tags.modify k f } }
/-- Rails, switches and phases the variant has. -/
def State.railIdx (s : State) : List Nat := List.range s.sys.variant.rails
def State.swIdx (s : State) : List Nat := List.range s.sys.variant.sws
def State.phaseIdx (s : State) : List Nat := List.range s.sys.variant.phases

/-- `f` folded over a list of indices. -/
def State.each (s : State) (l : List Nat) (f : State → Nat → State) : State := l.foldl f s

/-- The engine that owns a rail, and the engine that owns a switch (R31). -/
def railEng (n : Nat) : Nat := n / 2
def swEng (n : Nat) : Nat := 8 + n / 12

/-- An integer as a 32-bit record parameter. -/
def i32 (x : Int) : Nat := twos 32 x
def lo32 (x : Nat) : Nat := x % 2 ^ 32
def hi32 (x : Nat) : Nat := x / 2 ^ 32 % 2 ^ 32

/-- Saturating increment of a counter of `w` bits. -/
def satInc (w n : Nat) : Nat := if n + 1 < 2 ^ w then n + 1 else 2 ^ w - 1
def satAdd (w n k : Nat) : Nat := min (n + k) (2 ^ w - 1)

/-- Bits of a mask, as indices below `n`. -/
def bitsOf (n m : Nat) : List Nat := (List.range n).filter (fun i => m.testBit i)
/-- A list of indices as a mask. -/
def maskOf (l : List Nat) : Nat := l.foldl (fun a i => a ||| 2 ^ i) 0

def setBit {w : Nat} (b : BitVec w) (i : Nat) : BitVec w := b ||| BitVec.ofNat w (2 ^ i)
def clearBit {w : Nat} (b : BitVec w) (i : Nat) : BitVec w := b &&& ~~~(BitVec.ofNat w (2 ^ i))

/-! ### Rounding and free values -/

/-- A rational shown as an integer where the spec gives no rounding: either neighbour (assumption 4). -/
def roundQ (site : Nat) (q : Rat) : Int :=
  if q.den = 1 then q.num else q.floor + (if Config.roundUp site q.num q.den then 1 else 0)

/-- As `roundQ`, negative results shown as 0. -/
def roundN (site : Nat) (q : Rat) : Nat := (roundQ site q).toNat

/-- The next free rational (assumption 3). -/
def State.freeQ (s : State) : Rat := Config.freeRat s.freeCtr
/-- Advances the counter of free values. -/
def State.freeStep (s : State) : State := { s with freeCtr := s.freeCtr + 1 }

/-- `q` held between two bounds; a lower bound above the upper gives the lower. -/
def clampQ (lo hi q : Rat) : Rat := if q ≤ lo then lo else if hi ≤ q then hi else q

/-- A free value held between two bounds. -/
def State.freeIn (s : State) (lo hi : Rat) : Rat := clampQ lo hi s.freeQ

/-! ### Time -/

/-- Aligned time at the Sample strobe (R72). -/
def State.aligned (s : State) : Int := (s.clk.strobe : Int) + s.clk.alignOfs
/-- The present frame's number. -/
def State.frame (s : State) : Nat := s.clk.count.toNat
def State.epochNo (s : State) : Nat := s.clk.epoch.toNat
/-- Frames per millisecond and per second. -/
def framesMs (n : Nat) : Nat := 100 * n
def framesS (n : Nat) : Nat := 100000 * n

/-! ### The twin's part (R507) -/

/-- The states in which a twin commands the shelf. -/
def State.commands (s : State) : Bool :=
  match s.tdm.st with
  | .single | .active | .solo => true
  | _ => false
/-- Whether the twin stands by for another. -/
def State.isStandby (s : State) : Bool := s.tdm.st == .shadow || s.tdm.st == .orphan || s.tdm.st == .joining
/-- Whether the twin recomputes the active's work from its blocks (R523). -/
def State.recomputes (s : State) : Bool := s.tdm.st == .shadow || s.tdm.st == .joining
/-- Whether its pins drive anything: phases at mid and gates at source in the other states. -/
def State.drives (s : State) : Bool := s.commands || s.tdm.st == .shadow
/-- An active whose peer is in SHADOW yields instead of acting on its own (R534). -/
def State.canYield (s : State) : Bool := s.tdm.st == .active && s.tdm.peer == 6
/-- The Sample strobe of the frame whose work is done: at a standby, the block's (R523). -/
def State.evalStrobe (s : State) : Nat :=
  if s.recomputes then
    ((s.clk.strobe : Int) - 10000 * signedOf 32 (s.clk.count - BitVec.ofNat 32 s.tdm.fLast).toNat).toNat
  else s.clk.strobe

/-! ### Readiness -/

def fREC : Nat := 0
def fBRAKE : Nat := 1
def fSEQ : Nat := 2
def fRAIL : Nat := 3
def fSW : Nat := 4
def fPATH : Nat := 5
def fGAUGE : Nat := 6
def fRING : Nat := 7
def fTDM : Nat := 8
def fUP : Nat := 9
def fDOWN : Nat := 10
def State.isReady (s : State) (f : Nat) : Bool := s.sys.ready.getLsbD f
/-- Ready, FAIL or skipped (R132, R133). -/
def State.isSettled (s : State) (f : Nat) : Bool :=
  s.sys.ready.getLsbD f || s.sys.fail.getLsbD f || s.sys.skipped.getLsbD f
/-- Boot has finished and frames run. -/
def State.running (s : State) : Bool := s.sys.supply == .boot && s.sys.booted

/-! ### Records (R684–R703) -/

/-- Index of a code's entry in the RATE_LIMIT section. -/
def rateIndex (code : Nat) : Nat := code / 256 % 16 * 64 + code % 64

/-- A code's RATE_LIMIT entry; without a section, R692's. -/
def State.rateEntry (s : State) (code : Nat) : Nat :=
  if s.cfg.rateSect.isEmpty then
    16 + 10 * 2 ^ 8 + (if code = 0x0304 ∨ code = 0x0601 ∨ code = 0x0805 ∨ code = 0x0102 then 2 ^ 24 else 0)
  else bytesAt s.cfg.rateSect (4 * rateIndex code) 4
def State.burst (s : State) (code : Nat) : Nat := s.rateEntry code % 256
def State.refillEpochs (s : State) (code : Nat) : Nat := s.rateEntry code / 256 % 65536
def State.trigBit (s : State) (code : Nat) : Bool := s.rateEntry code / 2 ^ 24 % 2 == 1

/-- The per-epoch summary codes (R697). -/
def summaryCodes : List Nat :=
  [0x0108, 0x0109, 0x0204, 0x030C, 0x0406, 0x0505, 0x0604, 0x060A, 0x0809, 0x0A03, 0x0A07, 0x0E03]
/-- Codes exempt from the per-code buckets (R696). -/
def isExempt (code : Nat) : Bool := code == 0x0B01 || code == 0x0B02 || summaryCodes.contains code

/-- Of a code of R696: positions of its resource, of its counts and of its epoch parameter. -/
def mergeShape (code : Nat) : Option Nat × List Nat × Option Nat :=
  match code with
  | 0x0108 => (some 1, [0], some 2)
  | 0x0109 => (none, [0], some 1)
  | 0x0204 => (some 0, [1], some 3)
  | 0x030C => (some 0, [1], some 3)
  | 0x0406 => (some 0, [1, 2], some 3)
  | 0x0505 => (none, [0], some 2)
  | 0x0604 => (none, [0], some 2)
  | 0x060A => (none, [0, 1], some 2)
  | 0x0809 => (none, [0, 1], some 2)
  | 0x0A03 => (some 0, [1], some 2)
  | 0x0A07 => (some 0, [1], some 2)
  | 0x0E03 => (none, [0, 1, 2], some 3)
  | 0x0B01 => (some 0, [1], none)
  | 0x0B02 => (some 1, [0], none)
  | _ => (none, [], none)

def Record.param (r : Record) (i : Nat) : Word :=
  match i with | 0 => r.p0 | 1 => r.p1 | 2 => r.p2 | _ => r.p3
def Record.resource (r : Record) : Word :=
  match (mergeShape r.code).1 with | none => 0 | some i => r.param i
/-- A later record merged into a waiting one of the same code and resource (R696). -/
def Record.merge (old new : Record) : Record :=
  let sh := mergeShape old.code
  let v (i : Nat) : Word :=
    if sh.2.1.contains i then old.param i + new.param i
    else if sh.2.2 = some i then new.param i else old.param i
  { old with p0 := v 0, p1 := v 1, p2 := v 2, p3 := v 3 }

def State.bucket (s : State) (code : Nat) : Bucket :=
  (s.rcd.buckets.find? (·.code = code)).getD ⟨code, s.burst code, none, 0, 0⟩
/-- Sets a code's bucket, codes rising. -/
def insBucket (b : Bucket) : List Bucket → List Bucket
  | [] => [b]
  | x :: xs => if b.code < x.code then b :: x :: xs else if b.code = x.code then b :: xs else x :: insBucket b xs
def State.setBucket (s : State) (b : Bucket) : State :=
  { s with rcd := { s.rcd with buckets := insBucket b s.rcd.buckets } }

/-- How many records staging may hold: 512, or after VAON loss what the remaining time can program (R698, R701). -/
def State.stagingRoom (s : State) : Nat :=
  if s.sys.vaonLost then
    min 512 (8 * ((38400000 - (s.clk.devTime - s.sys.vaonLostAt)) / (1000 * max 1 s.rcd.pageUs)))
  else 512

/-- Admission: the next SEQ, then staging; a full staging loses the record (R687, R698, R702). -/
def State.admitRec (s : State) (r : Record) : State :=
  if s.rcd.staging.length < s.stagingRoom then
    { s with rcd := { s.rcd with
        staging := s.rcd.staging ++ [{ r with seq := s.rcd.next }], stageTick := s.rcd.stageTick ++ [s.clk.tick],
        next := s.rcd.next + 1, any := true
        bootSeq := if r.code = 0x0020 then s.rcd.next else s.rcd.bootSeq } }
  else if s.sys.vaonLost then
    { s with rcd := { s.rcd with lost := satInc 32 s.rcd.lost, lost3 := s.rcd.lost3 + 1 } }
  else { s with rcd := { s.rcd with lost := satInc 32 s.rcd.lost, lostNow := s.rcd.lostNow + 1 } }

/-- An occurrence without a token is counted against its code (R693). -/
def State.suppress (s : State) (code time : Nat) : State :=
  let b := s.bucket code
  let s := s.setBucket { b with supp := b.supp + 1, suppTime := if b.supp = 0 then time else b.suppTime }
  { s with rcd := { s.rcd with suppressed := satInc 32 s.rcd.suppressed, suppEpoch := s.rcd.suppEpoch + 1 } }

/-- Adds an exempt record to the pending set, merging, in the order of code then resource (R696). -/
def insPend (r : Record) : List Record → List Record
  | [] => [r]
  | x :: xs =>
    if r.code = x.code ∧ r.resource = x.resource then x.merge r :: xs
    else if r.code < x.code ∨ (r.code = x.code ∧ r.resource.toNat < x.resource.toNat) then r :: x :: xs
    else x :: insPend r xs

/-- The global bucket (R695), and for exempt codes the pending set (R696). -/
def State.passGlobal (s : State) (r : Record) : State :=
  if s.rcd.global = 0 then { s with rcd := { s.rcd with pendSum := insPend r s.rcd.pendSum } }
  else { s with rcd := { s.rcd with global := s.rcd.global - 1 } }.admitRec r

/-- The per-code bucket, then the global one (R693, R695). -/
def State.passBuckets (s : State) (r : Record) : State :=
  if isExempt r.code then s.passGlobal r
  else if s.burst r.code ≠ 0 ∧ (s.bucket r.code).tokens = 0 then s.suppress r.code r.time
  else if s.rcd.global = 0 then s.suppress r.code r.time
  else
    let s := if s.burst r.code = 0 then s else
      let b := s.bucket r.code
      s.setBucket { b with tokens := b.tokens - 1 }
    { s with rcd := { s.rcd with global := s.rcd.global - 1 } }.admitRec r

/-- FLAGS of a record produced now (R684). -/
def State.recFlags (s : State) (hw sum : Bool) : BitVec 8 :=
  let stby := s.tdm.st == .joining || s.tdm.st == .shadow || s.tdm.st == .orphan
  BitVec.ofNat 8 ((if hw then 1 else 0) + (if sum then 4 else 0) + (if stby then 8 else 0) + (if s.brake.inFloor then 16 else 0))

/-- Codes held while the device is in the safe floor (R329, R370): records of rail and switch protection. -/
def heldInFloor (code : Nat) : Bool := code / 256 == 3 || code / 256 == 4

/-- A record is produced: held before REC is ready (R703), rail and switch protection's in the safe floor until its exit
(R329, R370), else judged by the buckets. -/
def State.produce (s : State) (r : Record) : State :=
  if s.isReady fREC then
    if s.brake.inFloor && heldInFloor r.code then
      { s with rcd.floorHold := s.rcd.floorHold ++ [{ r with flags := r.flags ||| 2 }] }
    else s.passBuckets r
  else if s.rcd.hold.length < 64 then
    { s with rcd := { s.rcd with hold := s.rcd.hold ++ [{ r with flags := r.flags ||| 2 }] } }
  else { s with rcd := { s.rcd with lost := satInc 32 s.rcd.lost, lost2 := s.rcd.lost2 + 1 } }

def mkRecord (s : State) (hw sum : Bool) (t code src : Nat) (ps : List Nat) : Record :=
  let p (i : Nat) : Word := BitVec.ofNat 32 (ps.getD i 0)
  { code := code, flags := s.recFlags hw sum, source := src, seq := 0, time := t, p0 := p 0, p1 := p 1, p2 := p 2, p3 := p 3 }

/-- A trigger of the frame trace (R714, R717). The trace's own records trigger nothing (assumption 22). -/
def State.traceTrigger (s : State) (kind code : Nat) (slots : List Nat) : State :=
  if s.rcd.trSt = .off then s
  else if s.rcd.trTrig.isSome then
    ({ s with rcd := { s.rcd with trIgnored := satInc 16 s.rcd.trIgnored } }).produce
      (mkRecord s false false s.clk.strobe 0x0B05 0x15 [kind, code, s.frame, s.rcd.trSlot])
  else
    let slot := match s.rcd.trNewest with | none => 0 | some k => (k + 1) % 10
    ({ s with rcd := { s.rcd with
        trSlot := slot
        trTrig := some {
          kind := kind, code := code, tick := s.clk.tick, frame := s.clk.count, time := s.clk.strobe,
          seq := s.rcd.next, slots := slots } } }).produce
      (mkRecord s false false s.clk.strobe 0x0B03 0x15 [kind, code, s.frame, slot])

/-- An occurrence of a code: the record, then the trace's trigger where its TRIGGER bit is set (R714). -/
def State.occur (s : State) (r : Record) : State :=
  let s := s.produce r
  if s.trigBit r.code && r.code / 256 != 0x0B then s.traceTrigger 1 r.code [] else s

/-- A record stamped with the frame's Sample strobe (R689). -/
def State.emit (s : State) (code src : Nat) (ps : List Nat) : State :=
  s.occur (mkRecord s false false s.clk.strobe code src ps)
/-- A record of a hardware action, stamped with the time its comparator fired (R39). -/
def State.emitHw (s : State) (t code src : Nat) (ps : List Nat) : State := s.occur (mkRecord s true false t code src ps)
/-- A summary, stamped with its first occurrence (R697). -/
def State.emitSum (s : State) (t code src : Nat) (ps : List Nat) : State := s.occur (mkRecord s false true t code src ps)
/-- A record stamped with device time at production (boot ROM, R689). -/
def State.emitBoot (s : State) (code : Nat) (ps : List Nat) : State :=
  s.occur (mkRecord s false false s.clk.devTime code 0x14 ps)

/-! ### Host interface: messages and events -/

/-- DMA and messages run while Bus Master Enable is set and the function is not in D3hot (R553). -/
def State.dmaOn (s : State) : Bool := s.hif.bme && !s.hif.d3 && s.sys.linkUp
/-- An MSI-X message, or the pending bit of a masked vector (R603). -/
def State.signal (s : State) (vec : Nat) : State :=
  if !s.hif.msixEn then s
  else if s.hif.fmask || s.hif.vecMask.getLsbD vec then { s with hif := { s.hif with vecPend := setBit s.hif.vecPend vec } }
  else if s.dmaOn then { s with hif := { s.hif with posted := s.hif.posted ++ [.msix vec (s.hif.msixTab.getD vec 0)] } }
  else { s with hif := { s.hif with vecPend := setBit s.hif.vecPend vec } }
/-- A device event (R602): 0 TAKEOVER, 1 RING_ERROR, 2 FLOOR_ENTER, 3 FLOOR_EXIT. -/
def State.hifEvent (s : State) (b : Nat) : State :=
  if s.hif.event.getLsbD b then s
  else
    let s := { s with hif := { s.hif with event := setBit s.hif.event b } }
    if s.cfgb 0x0200 (8 + b) then s.signal (s.cfgf 0x0200 0 6) else s
/-- A posted write of bytes to host memory. -/
def State.postMem (s : State) (addr : Nat) (bytes : List Byte) : State :=
  { s with hif := { s.hif with posted := s.hif.posted ++ [.mem addr bytes] } }

/-- Whether `len` bytes from `addr` lie wholly within one window of the asked direction (R559, R560). -/
def State.inWindow (s : State) (write : Bool) (addr len : Nat) : Bool :=
  s.hif.wins.any fun w => w.pages ≠ 0 && (if write then w.wr else w.rd) && w.base ≤ addr &&
    addr + len ≤ w.base + 4096 * w.pages

/-! ### Tags and completions -/

/-- Puts a decided completion behind those of its frame and of earlier ones (R597). -/
def insCpl (c : Cpl) : List Cpl → List Cpl
  | [] => [c]
  | d :: ds => if c.tick < d.tick then c :: d :: ds else d :: insCpl c ds
/-- The frame a completion is decided in: at a standby, the block's (R523). -/
def State.decFrame (s : State) : BitVec 32 :=
  match s.tdm.st with
  | .joining | .shadow => BitVec.ofNat 32 s.tdm.fLast
  | _ => s.clk.count

/-- The completion of one use of a slot: decided, or discarded after a PCIe reset (R143, R578). -/
def State.completeOne (s : State) (k status result : Nat) : State :=
  let t := s.tag k
  if t.st = .held ∨ t.st = .applied then
    let s := { s with hif := { s.hif with decLog := s.hif.decLog ++ [(t.ring, t.order)] } }
    if t.discard then
      ({ s with hif := { s.hif with discarded := s.hif.discarded + 1 } }).modTag k fun t => { t with st := .free, discard := false }
    else
      let c : Cpl := {
        tag := descTag t.desc, status := status, ring := t.ring, irqNow := descIrqNow t.desc, takeover := t.tk,
        frame := s.decFrame, result := BitVec.ofNat 32 result, slot := some k, tick := s.clk.tick }
      ({ s with hif := { s.hif with decided := insCpl c s.hif.decided } }).modTag k fun t =>
        { t with st := .decided }
  else s

/-- Decides a completion, keeps its outcome with the RUN_ID it ran under (R616), and completes its repeats with it
(R617). -/
def State.complete (s : State) (k status result : Nat) : State :=
  let s := s.completeOne k status result
  let s := { s with hif.runIds := s.hif.runIds.map fun (r : RunId) =>
      if r.slot = k && !r.done then { r with done := true, status := status, result := BitVec.ofNat 32 result } else r }
  let reps := (s.hif.repeats.filter (·.1 = k)).map (·.2)
  let s := s.each reps fun s r => s.completeOne r status result
  { s with hif := { s.hif with repeats := s.hif.repeats.filter (·.1 ≠ k) } }

/-- The same for each slot of a list. -/
def State.completeAll (s : State) (ks : List Nat) (status result : Nat) : State :=
  s.each ks fun s k => s.complete k status result

/-- An error completion of R583 or R584, with DESC_REJECT (R604). -/
def State.reject (s : State) (k status result : Nat) : State :=
  let t := s.tag k
  (s.complete k status result).emit 0x0901 14 [t.ring, (descTag t.desc).toNat, status, descOpcode t.desc]

def stDONE : Nat := 0x00
def stSUPERSEDED : Nat := 0x01
def stABORTED : Nat := 0x02
def stDEADLINE : Nat := 0x03
def stBADPARAM : Nat := 0x11
def stABSENT : Nat := 0x14
def stLIMIT : Nat := 0x15
def stMAINT : Nat := 0x16
def stNOTREADY : Nat := 0x17
def stLOCKED : Nat := 0x18
def stFLOOR : Nat := 0x20

/-- The engine that applies a descriptor (R805). -/
def applyEngine (op index kind : Nat) : Nat :=
  match op / 256 with
  | 0x02 | 0x07 => railEng index
  | 0x03 => swEng index
  | 0x04 => 10
  | 0x05 => 11
  | 0x06 => 12
  | 0x08 => 13
  | 0x09 | 0x0B => 15
  | 0x0D => if op = 0x0D02 ∧ kind = 1 then railEng index else if op = 0x0D02 ∧ kind = 3 then swEng index else 14
  | _ => 14

/-- Descriptors accepted in the safe floor (R584). -/
def floorExempt (op : Nat) : Bool := op / 256 == 1 || op / 256 == 9 || op == 0x0D03 || op == 0x0B01

/-- Whether a held descriptor is to be applied in the present frame: NOT_BEFORE (R590), DEADLINE (R591), FENCE (R592),
AFTER_TAG (R593). -/
def State.tagDue (s : State) (k : Nat) : Bool :=
  let t := s.tag k
  t.intakeAt ≤ s.evalStrobe && descNotBefore t.desc ≤ s.evalStrobe &&
  (descDeadline t.desc == 0 || s.evalStrobe ≤ descDeadline t.desc) &&
  (!descFence t.desc ||
    (s.hif.tags.all (fun u => !((u.st == .held || u.st == .applied) && u.ring == t.ring && u.order < t.order)) &&
     s.hif.decLog.all (fun p => !(p.1 == t.ring && p.2 < t.order)))) &&
  (match t.after with
   | none => true
   | some (j, o) =>
     !(((s.tag j).st == .held || (s.tag j).st == .applied) && (s.tag j).order == o) &&
     s.hif.decLog.all (fun p => p.2 != o))

/-- The host-memory span an operation names: address, length, whether it is written (R562). -/
def hostSpan (op : Nat) (d : RawDesc) : Option (Nat × Nat × Bool) :=
  match op with
  | 0x0104 | 0x0D01 => some (descField d 32 8, descField d 24 4, false)
  | 0x0901 => some (descField d 32 8, 32 * descField d 28 2, true)
  | 0x0903 => some (descField d 32 8, descField d 40 4, true)
  | _ => none

/-- The checks of R584 after readiness, then the operation's own part. -/
def State.applyRest (s : State) (op k : Nat) (f : RawDesc → State → State) : State :=
  let d := (s.tag k).desc
  if (s.brake.inFloor || s.brake.floorPend) && !floorExempt op then s.reject k stFLOOR 0
  else
    match hostSpan op d with
    | some (a, n, w) => if s.inWindow w a n then f d s else s.reject k stBADPARAM 0x80000006
    | none => f d s

/-- Whether the twin applies descriptors of an opcode: it commands, or recomputes the active's work (R507, R523), which is
not the gauge's, the recorder's or the flash's; the hold after a link loss keeps targets and on/off states (R522). -/
def State.applies (s : State) (op : Nat) : Bool :=
  match s.tdm.st with
  | .single | .active => true
  | .joining | .shadow => op / 256 != 6 && op / 256 != 9 && op != 0x0104 && op != 0x0D01
  | .solo => !(s.tdm.soloHold && (op / 256 == 2 && op != 0x0204 || op / 256 == 3 || op / 256 == 4))
  | _ => false

/-- Applies the descriptor held in slot `k` in step 5 (R584): readiness, the safe floor, the window check, then the
operation's own part `f`, which sees the descriptor. `fn` names the function whose readiness governs it (R615). In firmware
recovery mode only NOP and FW_WRITE are served (R726). -/
def State.applyDesc (s : State) (op k : Nat) (fn : RawDesc → Option Nat) (f : RawDesc → State → State) : State :=
  let t := s.tag k
  if t.st = .held ∧ s.applies op = true ∧ descOpcode t.desc = op ∧ s.tagDue k = true ∧ s.running = true ∧
      s.clk.overranCtl.getLsbD (applyEngine op (descIndex t.desc) (descKind t.desc)) = false then
    if s.sys.recovery = true ∧ op ≠ 0x0101 ∧ op ≠ 0x0D01 then s.reject k stNOTREADY 1
    else if s.sys.hib ≠ .none ∧ op / 256 ≠ 1 ∧ op / 256 ≠ 9 then s.complete k stABORTED 0
    else
      match fn t.desc with
      | some b =>
        if !(s.isReady b || s.sys.skipped.getLsbD b) then
          s.reject k stNOTREADY (if s.sys.fail.getLsbD b then 1 else 0)
        else s.applyRest op k f
      | none => s.applyRest op k f
  else s

/-- Marks a descriptor applied but not ended. -/
def State.hold (s : State) (k : Nat) : State := s.modTag k fun t => { t with st := .applied }

/-- R616, R617: whether a run with this RUN_ID and target is a repeat of the one kept. -/
def State.repeatOf (s : State) (op rid target : Nat) : Option RunId :=
  if rid = 0 then none else s.hif.runIds.find? fun r => r.opcode = op && r.runId = rid && r.target = target
/-- The repeat's completion: at once with the original's outcome, or with the original (R617). -/
def State.completeRepeat (s : State) (k : Nat) (r : RunId) : State :=
  if r.done then s.complete k r.status r.result.toNat
  else { s with hif := { s.hif with repeats := s.hif.repeats ++ [(r.slot, k)] } }.hold k
/-- Keeps the RUN_ID of an accepted execution (R616). -/
def State.keepRun (s : State) (op rid target k : Nat) : State :=
  { s with hif.runIds :=
      s.hif.runIds.filter (·.opcode ≠ op) ++ [{ opcode := op, runId := rid, target := target, slot := k }] }

end Sys2Proof.Machine
end

