-- ==== Sys2Proof/Machine/RailCore.lean ====
section
/-! DEFINITION. What several families do to a rail: its phases and counts, forecasts' effects, targets, turn-on and
turn-off, parking, warnings and the Brake's clippings (spec/05, 06, 08, 19). -/

namespace Sys2Proof.Machine

/-! ### The Brake: limits, clippings, floor causes -/

def State.vmax (s : State) (n : Nat) : Nat := s.cfgf (0xC100 + 16 * n) 0 16
def State.vmin (s : State) (n : Nat) : Nat := s.cfgf (0xC100 + 16 * n) 16 16
def State.imax (s : State) (n : Nat) : Nat := s.cfgv (0xC104 + 16 * n)
def State.slewMax (s : State) (n : Nat) : Nat := s.cfgf (0xC108 + 16 * n) 0 16
def State.ipeak (s : State) (n : Nat) : Nat := s.cfgv (0xC200 + 8 * n)
def State.i2tBound (s : State) (n : Nat) : Nat := s.cfgv (0xC204 + 8 * n)
def State.phaseMax (s : State) : Nat := s.cfgf 0xC2C0 0 6

/-- A floor cause is found (R742): it stands, and outside the floor the next frame boundary enters it. -/
def State.floorCause (s : State) (bit : Nat) : State :=
  if s.brake.inFloor then { s with brake.standing := setBit s.brake.standing bit }
  else if s.brake.floorPend then { s with brake.standing := setBit s.brake.standing bit }
  else { s with brake.standing := setBit s.brake.standing bit, brake.floorPend := true, brake.pendTick := s.clk.tick }

/-- A standing floor cause clears, with its record. -/
def State.clearCause (s : State) (bit : Nat) : State :=
  if s.brake.standing.getLsbD bit then
    let st := clearBit s.brake.standing bit
    let s := { s with brake.standing := st }
    s.emit 0x0C06 0x10 [bit, s.frame, st.toNat]
  else s

/-- One clipping (R736): the record, the counts, and cause CLIP at the eighth in an epoch (R737). -/
def State.brakeClip (s : State) (unit item proposed committed eng : Nat) : State :=
  let s := s.emit 0x0C04 0x10 [unit, item, proposed, committed]
  let s := { s with
    brake.clipEpoch := satInc 8 s.brake.clipEpoch
    brake.clipTotal := satInc 24 s.brake.clipTotal
    brake.clipEngines := setBit s.brake.clipEngines eng }
  if s.brake.clipEpoch = 8 then s.floorCause 1 else s

/-- Steps 4 and 5 do not run as usual: in the floor, or a floor cause has been found (R65). OFF_PROG runs on hibernate
entry (R745). -/
def State.floorNow (s : State) : Bool := (s.brake.inFloor || s.brake.floorPend) && s.sys.hib != .offProg

/-! ### Phases and counts -/

/-- A rail's phases in interleave order (R157). -/
def State.railPhases (s : State) (n : Nat) : List Nat := s.phaseIdx.filter fun m => (s.phase m).owner = n
/-- Its phases free of a latch (R309). -/
def State.freePhases (s : State) (n : Nat) : List Nat := (s.railPhases n).filter fun m => !(s.phase m).latched
/-- Whether the pair of leader `n` exists (R251). -/
def State.pairEn (s : State) (n : Nat) : Bool := n % 2 == 0 && s.railf n 0xC4 0 1 == 1
/-- Whether a rail is the follower of a pair. -/
def State.isFollower (s : State) (n : Nat) : Bool := n % 2 == 1 && s.pairEn (n - 1)
/-- The leader of a follower, or the rail itself. -/
def State.leadOf (s : State) (n : Nat) : Nat := if s.isFollower n then n - 1 else n
/-- A rail with its follower, if it leads a pair. -/
def State.pairUnits (s : State) (n : Nat) : List Nat :=
  let l := s.leadOf n
  if s.pairEn l then [l, l + 1] else [l]

/-- A rail is on (R812): SOFT_START, STEADY or SLEWING. -/
def Rail.isOn (r : Rail) : Bool := r.st == .softStart || r.st == .steady || r.st == .slewing

/-- The speculative count in force: the larger of the entries' (R229). -/
def Rail.specCount (r : Rail) : Nat :=
  let c (e : Option Fc) : Nat := match e with | some f => if f.spec then f.count else 0 | none => 0
  max (c r.fcHost) (c r.fcLead)

/-- The count in rotation: every free phase in a recall hold, else the larger of the confirmed and speculative counts
(R193, R231). -/
def State.rotCount (s : State) (n : Nat) : Nat :=
  let r := s.rail n
  if r.recallHold then (s.freePhases n).length else max r.active r.specCount

/-- Brings a rail's phases to the counts in force: the first phases of the interleave order take part (assumption 23);
a phase that joins starts with no cycle and T_bal 0 (R176, R185), one that leaves finishes its pulse (R189). -/
def State.applyCounts (s : State) (n : Nat) : State :=
  let free := s.freePhases n
  let rot := free.take (s.rotCount n)
  let act := free.take (s.rail n).active
  s.each (s.railPhases n) fun s m => s.modPhase m fun p =>
    let inRot := rot.contains m
    { p with
      active := act.contains m
      rot := inRot
      leaving := if inRot then false else p.rot || p.leaving
      balTrim := if inRot && !p.rot then 0 else p.balTrim
      cycMean := if inRot && !p.rot then none else p.cycMean
      cycN := if inRot && !p.rot then 0 else p.cycN
      cycSum := if inRot && !p.rot then 0 else p.cycSum }

/-- Every phase of a rail to mid, out of rotation (R323). -/
def State.phasesMid (s : State) (n : Nat) : State :=
  s.each (s.railPhases n) fun s m => s.modPhase m fun p =>
    { p with active := false, rot := false, leaving := false, drive := .mid, start := none, cycMean := none }

/-- The duty ratio, and the cancellation factor K(N, D) of spec/05. -/
def kFactor (n : Nat) (d : Rat) : Rat :=
  let nd : Rat := n * d
  let m : Rat := nd.floor
  if nd * (1 - d) = 0 then 0 else (nd - m) * (m + 1 - nd) / (nd * (1 - d))

/-- The input voltage the on-time law uses, clamped (R161). -/
def State.vinUsed (s : State) (n : Nat) : Rat :=
  clampQ ((s.rail n).vref + 1000) 70000 (s.rail n).vin

/-- D = V_ref / V_in. -/
def State.duty (s : State) (n : Nat) : Rat := (s.rail n).vref / s.vinUsed n

/-- Whether a count is allowed (R183). -/
def State.countOk (s : State) (n k : Nat) : Bool :=
  k == 1 || k == (s.freePhases n).length || (s.railf n 0x0C 16 8 : Rat) ≤ 100 * kFactor k (s.duty n)

/-- The lowest allowed count above `c` whose ADD exceeds `i` mA, or the free count (R195). -/
def State.addCount (s : State) (n c : Nat) (i : Int) : Nat :=
  let a := (s.freePhases n).length
  (((List.range (a + 1)).filter fun k => c < k && k < a && s.countOk n k &&
    i < 100 * (s.railf n (0x20 + 4 * (k - 1)) 0 16 : Int)).head?).getD a

/-- The converter's phases in charging, detection and assist count against the maximum; its boost's do not (R735). -/
def State.convCount (s : State) : Nat :=
  if s.path.conv == .precharge || s.path.conv == .pulse || s.path.conv == .cc || s.path.conv == .cv || s.path.conv == .assist
  then (s.phaseIdx.filter fun m => (s.phase m).owner = 0x20).length else 0
/-- The total of committed active counts (R734). -/
def State.countTotal (s : State) : Nat := ((s.railIdx.map fun n => (s.rail n).active).sum) + s.convCount
/-- The count the Brake commits for a proposed increase: the proposed one, or the previous one with a clipping (R734). -/
def State.clipCount (s : State) (n c : Nat) : State × Nat :=
  let a := (s.rail n).active
  let total := s.countTotal + c - a
  if a < c ∧ s.phaseMax < total then (s.brakeClip 0xFF 7 total s.phaseMax (railEng n), a) else (s, c)

/-- A confirmed count change: the record, the interval's restart and the phases (R195, R196). -/
def State.setCount (s : State) (n c : Nat) : State :=
  let r := s.rail n
  let (s, c) := s.clipCount n c
  if c = r.active then s
  else
    let s := s.emit 0x0201 (railEng n) [n, r.active, c, i32 r.iout]
    (s.modRail n fun r => { r with active := c, shedSince := s.clk.tick, countChg := satInc 32 r.countChg }).applyCounts n

/-! ### Forecast entries -/

def Rail.entry (r : Rail) (lead : Bool) : Option Fc := if lead then r.fcLead else r.fcHost
def Rail.setEntry (r : Rail) (lead : Bool) (e : Option Fc) : Rail :=
  if lead then { r with fcLead := e } else { r with fcHost := e }

/-- Ends an entry without confirming it (R238): its bias goes, its speculative count goes, and a host entry's
FORECAST_POST completes with the outcome given. -/
def State.retireFc (s : State) (n : Nat) (lead : Bool) (status result : Nat) : State :=
  match (s.rail n).entry lead with
  | none => s
  | some e =>
    let s := (s.modRail n fun r => { r.setEntry lead none with
      fcRet := satInc 32 r.fcRet, specUndo := if e.spec then satInc 32 r.specUndo else r.specUndo }).applyCounts n
    match e.slot with
    | some k => s.complete k status result
    | none => s

/-- The bias in force, as a signed fraction of the law on-time (R228, R229). -/
def State.biasOf (s : State) (n : Nat) : Rat :=
  let r := s.rail n
  let on (e : Option Fc) : Option Fc := e.filter fun f => f.biasOn && !f.withdrawn
  let b : Rat := (s.railf n 0x8C 16 8 : Rat) / 1000
  let sg (f : Fc) : Rat := if 0 < f.di then b else -b
  match on r.fcHost, on r.fcLead with
  | none, none => 0
  | some f, none | none, some f => sg f
  | some f, some g =>
    if (0 < f.di) ≠ (0 < g.di) then 0 else if g.di.natAbs ≤ f.di.natAbs then sg f else sg g

/-! ### Warnings -/

/-- The warning levels (spec/08): OV and UV against V_ref in mV, OC in mA, OT in 1/16 °C. -/
def State.ovWarn (s : State) (n : Nat) : Rat := (s.rail n).vref * (1 + (s.protf n 0 0 8 : Rat) / 1000)
def State.uvWarn (s : State) (n : Nat) : Rat := (s.rail n).vref * (1 - (s.protf n 4 0 8 : Rat) / 1000)
def State.ocWarn (s : State) (n : Nat) : Int := 100 * s.protf n 8 0 16
def State.otWarn (s : State) (n : Nat) : Int := 16 * s.protf n 0x10 0 8
/-- The die temperature in use (R281): the last valid reading, or FAIL_T, in 1/16 °C. -/
def State.tdieUsed (s : State) : Int := s.cap.tUse.getD (16 * (s.cfgf 0x1110 24 8 : Int))

/-- Clears the OV, UV, OC and OT warnings of a rail that enters TURN_OFF, with their records (R299). -/
def State.clearWarns (s : State) (n : Nat) : State :=
  let r := s.rail n
  let one (s : State) (b : Bool) (kind : Nat) (v l : Int) : State :=
    if b then s.emit 0x0301 (railEng n) [n, kind + 256, i32 v, i32 l] else s
  let s := one s r.ovW 1 r.mv (roundQ 31 (s.ovWarn n))
  let s := one s r.uvW 2 r.mv (roundQ 32 (s.uvWarn n))
  let s := one s r.ocW 3 r.iout (s.ocWarn n)
  let s := one s r.otW 4 s.tdieUsed (s.otWarn n)
  s.modRail n fun r => { r with ovW := false, uvW := false, ocW := false, otW := false }

/-! ### Targets -/

/-- The slew rate a target takes: until the rail is first good, no faster than SS_SLEW (R208). -/
def State.slewFor (s : State) (n rate : Nat) : Nat :=
  if (s.rail n).wasGood then rate else min rate (s.railf n 0x84 16 16)

/-- Puts a target in force with a slew rate (R205, R213, R214, R219): the command replaced completes SUPERSEDED, the mask
starts or grows, and a reference already at the target leaves the rail steady. -/
def State.putTarget (s : State) (n target rate : Nat) : State :=
  let r := s.rail n
  let s := match r.setSlot with
    | some (k, _) => s.complete k stSUPERSEDED (r.vref + 1 / 2).floor.toNat
    | none => s
  let s := s.emit 0x0209 (railEng n) [n, r.vtarget, target, rate]
  let at' := r.vref == target
  s.each (s.pairUnits n) fun s u => s.modRail u fun r => { r with
    setSlot := none
    vtarget := target
    slew := rate
    st := if at' then (if r.st = .softStart then .softStart else .steady)
          else if r.st = .softStart then .softStart else .slewing
    mask := if at' && !r.mask then false else true
    maskLo := if r.mask then min r.maskLo target else min r.vref target
    maskHi := if r.mask then max r.maskHi target else max r.vref target
    maskEnd := if at' then (if r.mask then some (s.clk.tick + s.railf u 0x88 0 8) else none) else none }

/-- The Brake's check of a proposed target and slew rate (R734): what is committed, with one clipping for each excess. -/
def State.clipTarget (s : State) (n target rate : Nat) : State × Nat × Nat :=
  let (s, t) :=
    if s.vmax n < target then (s.brakeClip n 1 target (s.vmax n) (railEng n), s.vmax n)
    else if (s.rail n).wasGood && target < s.vmin n then (s.brakeClip n 2 target (s.vmin n) (railEng n), s.vmin n)
    else (s, target)
  if s.slewMax n < rate then (s.brakeClip n 4 rate (s.slewMax n) (railEng n), t, s.slewMax n) else (s, t, rate)

/-! ### Turn-on -/

/-- R158–R160: an input source that cannot serve. -/
def State.vinUnusable (s : State) (n : Nat) : Bool :=
  let src := s.regv (0x2000 + 0x100 * n) % 4
  let ch := s.regv (0x2000 + 0x100 * n) / 4 % 16
  (src == 0 && !s.sys.variant.hasPath) ||
  (src == 1 && (ch == n || s.sys.variant.rails ≤ ch || !(s.railPhases ch).isEmpty))

/-- R297: the levels a turn-on needs. -/
def State.protOk (s : State) (n : Nat) : Bool :=
  s.protf n 0 0 8 < s.protf n 0 8 8 && s.protf n 4 0 8 < s.protf n 4 8 8 && s.protf n 8 0 16 < s.protf n 8 16 16 &&
  s.protf n 0x10 0 8 < s.protf n 0x10 8 8 && s.railf n 0x18 0 8 + 20 ≤ s.protf n 0 8 8 &&
  s.protf n 0x0C 0 16 ≠ 0 && s.protf n 8 16 16 ≠ 0

/-- R253: what a leader's turn-on needs of its pair. -/
def State.pairOk (s : State) (n : Nat) : Bool :=
  !s.pairEn n || (!(s.railPhases (n + 1)).isEmpty && (s.rail (n + 1)).cls == (s.rail n).cls &&
    s.railf (n + 1) 0xC0 0 16 == s.railf n 0xC0 0 16)

/-- R197: the first count at which the shedding table breaks a rule. -/
def State.shedFails (s : State) (n : Nat) : Option Nat :=
  let a := (s.railPhases n).length
  let add (k : Nat) : Nat := s.railf n (0x20 + 4 * (k - 1)) 0 16
  let drop (k : Nat) : Nat := s.railf n (0x20 + 4 * (k - 1)) 16 16
  let hyst := 10 * s.railf n 0x1C 4 4
  ((List.range (a + 1)).filter fun k => 1 ≤ k &&
    ((2 ≤ k && k < a && add k ≤ drop k) || (k < a && add k < drop (k + 1) + hyst) ||
     (k + 1 < a && add (k + 1) ≤ add k) || (2 ≤ k && k < a && drop (k + 1) ≤ drop k))).head?

/-- The lowest RESULT of RAIL_ON's own BAD_PARAM causes that holds for this rail and setpoint (spec/15), or none. -/
def State.railOnCause (s : State) (n setpoint : Nat) : Option Nat :=
  let r := s.rail n
  let vboot := s.railf n 0x80 0 16
  if r.lstate ≠ .none ∨ r.crowbar = true ∨
      ((s.pairUnits n).any fun u => (s.rail u).lstate != .none || (s.rail u).crowbar) = true then some 2
  else if s.isFollower n then some 3
  else if !s.pairOk n then some 4
  else if !((s.pairUnits n).all s.protOk) then some 5
  else if (s.railPhases n).isEmpty ∨ s.vinUnusable n = true then some 6
  else if setpoint = 0 ∧ vboot = 0 then some 7
  else if setpoint ≠ 0 ∧ (setpoint < 300 ∨ 16000 < setpoint) then some 8
  else none

/-- Copies the set-up registers that a turn-on puts in force: RAIL_CFG, RAIL_FSW and RAIL_VIN (R174). -/
def State.loadRailCfg (s : State) (n : Nat) : State :=
  let put (s : State) (off : Nat) : State :=
    { s with live := regInsert s.sys.variant off (BitVec.ofNat 32 (s.regv off)) s.live }
  put (put (put s (0x2000 + 0x100 * n)) (0x2004 + 0x100 * n)) (0x2008 + 0x100 * n)

/-- One rail of a pair, or a rail alone, turns on from 0 mV toward a target (R188, R197, R206): `delay` frames pass before
the reference moves (R242). -/
def State.startUnit (s : State) (n target rate delay : Nat) : State :=
  let s := s.loadRailCfg n
  let r := s.rail n
  let s := if r.offPres then s.emit 0x0301 (railEng n) [n, 5 + 256, r.mv, s.protf n 0x24 0 16] else s
  let s := s.completeAll r.offSlots stSUPERSEDED 0
  let bad := s.shedFails n
  let s := match bad with
    | some k => s.emit 0x0208 (railEng n)
        [n, k, s.railf n (0x20 + 4 * (k - 1)) 0 16, s.railf n (0x20 + 4 * (k - 1)) 16 16]
    | none => s
  let s := s.modRail n fun r => { r with
    st := .softStart, vref := 0, vtarget := target, slew := rate, onTick := s.clk.tick + delay, onTarget := target
    wasGood := false, prebias := r.mv, demStart := true, offSlots := []
    mask := true, maskLo := 0, maskHi := target, maskEnd := none, good := false, pg := false, voltMet := false, qual := 0
    uvT := 0, ocT := 0, otT := 0, shortT := 0, offPres := false, discharging := false, disCnt := 0
    goodRun := 0, prearm := none, heldByDown := false, disByDown := false
    shedBad := bad.isSome, active := 0, shedSince := s.clk.tick, iHist := []
    recallHold := false, slewEnd := s.clk.tick, capLim := none, inside := false }
  let s := s.each (s.railPhases n) fun s m => s.modPhase m fun p =>
    if p.latched then p else { p with drive := .low, start := none, pulsesNow := 0 }
  let (s, c) := s.clipCount n (s.freePhases n).length
  (s.modRail n fun r => { r with active := c }).applyCounts n

/-- A rail, with its follower, turns on (R206, R254). The Brake's clippings come with it (R734); the committed target is
answered with the state. -/
def State.turnOn (s : State) (n target delay : Nat) : State × Nat × Bool :=
  let s0 := s
  let s := s.modRail n fun r => { r with wasGood := false }
  let (s, t, rate) := s.clipTarget n target (s.railf n 0x84 16 16)
  let s := s.emit 0x0209 (railEng n) [n, (s0.rail n).vtarget, t, rate]
  (s.each (s.pairUnits n) fun s u => s.startUnit u t rate delay, t,
    t != target || rate != s0.railf n 0x84 16 16)

/-! ### Turn-off and parking -/

/-- Parks a rail (R323): phases at mid, reference 0, comparator disarmed; RAIL_OFF completes with the frames since the
turn-off. -/
def State.park (s : State) (n : Nat) : State :=
  let r := s.rail n
  let s := s.phasesMid n
  let s := s.modRail n fun r => { r with
    st := .off, vref := 0, vtarget := 0, active := 0, discharging := false, crowbar := false, parkTick := s.clk.tick
    offSlots := [], ovLvl := 0, disByDown := false, recallHold := false, mask := false, disCnt := 0 }
  s.completeAll r.offSlots stDONE (s.clk.tick - r.offTick)

/-- What every way off ends: a RAIL_ON or RAIL_SET_VOLTAGE in progress, the forecasts, warnings, good, mask, cap limit and
counts (R216, R217, R240, R277, R299). `code` is the record the ending event produced. -/
def State.endOn (s : State) (n code : Nat) : State :=
  let r := s.rail n
  let s := match r.onSlot with | some k => s.complete k stABORTED code | none => s
  let s := match r.setSlot with | some (k, _) => s.complete k stABORTED (r.vref + 1 / 2).floor.toNat | none => s
  let s := s.retireFc n false stABORTED 0
  let s := s.retireFc n true stABORTED 0
  let s := s.clearWarns n
  s.modRail n fun r => { r with
    onSlot := none, setSlot := none, mask := false, maskEnd := none, good := false, pg := false, voltMet := false, qual := 0
    capLim := none, goodRun := 0, demStart := false, uvT := 0, ocT := 0, otT := 0, shortT := 0, recallHold := false
    heldByDown := false, peakNow := false }

/-- Discharge begins (R321): every phase at mid, and the first free one's low side on. A standby never discharges (R524). -/
def State.dischargePhases (s : State) (n : Nat) : State :=
  let s := s.phasesMid n
  match (if s.isStandby then [] else s.freePhases n) with
  | m :: _ => s.modPhase m fun p => { p with drive := .low }
  | [] => s

/-- One rail goes off through discharge and parking (R321–R324); with DIS_EN clear it is parked at once. -/
def State.offUnit (s : State) (n code : Nat) : State :=
  let r := s.rail n
  if !r.isOn then s
  else
    let s := s.endOn n code
    let s := s.modRail n fun r => { r with
      st := .turnOff, offVref := r.vref, offTick := s.clk.tick, discharging := true, disCnt := 0
      ovLvl := r.vref * (1 + (s.protf n 0 8 8 : Rat) / 1000) }
    if s.protf n 0x20 0 1 = 1 then s.dischargePhases n else s.park n

/-- A rail, with its follower, goes off (R254, R324). -/
def State.turnOff (s : State) (n code : Nat) : State := s.each (s.pairUnits n) fun s u => s.offUnit u code

/-- Phases to mid at once, without discharge (the Short action of R311). -/
def State.shortOff (s : State) (n code : Nat) : State :=
  s.each (s.pairUnits n) fun s u =>
    if !(s.rail u).isOn then s
    else ((s.endOn u code).modRail u fun r => { r with offVref := r.vref, offTick := s.clk.tick }).park u

end Sys2Proof.Machine
end

