-- ==== Sys2Proof/Machine/SwCore.lean ====
section
/-! DEFINITION. What several families do to a switch channel: the limit in force, the checks of a turn-on, the ramp, the
gate, trips and retries (spec/09), and the R211 limiting of a rail's setpoint. -/

namespace Sys2Proof.Machine

/-! ### Setpoints limited at intake -/

/-- R211: a target limited to VMIN–VMAX and a slew rate to SLEW_MAX, each with TARGET_LIMITED; and whether any was. -/
def State.limitTarget (s : State) (n target rate : Nat) : State × Nat × Nat × Bool :=
  let eng := railEng n
  let (s, t) :=
    if s.vmax n < target then (s.emit 0x020A eng [n, target, s.vmax n, 1], s.vmax n)
    else if target < s.vmin n then (s.emit 0x020A eng [n, target, s.vmin n, 2], s.vmin n)
    else (s, target)
  let (s, r) := if s.slewMax n < rate then (s.emit 0x020A eng [n, rate, s.slewMax n, 3], s.slewMax n) else (s, rate)
  (s, t, r, t != target || r != rate)

/-- Applies a setpoint with a rate, 0 standing for DEF_SLEW (R208, R209, R211, R810); answers the applied target and
whether it was limited. -/
def State.applySetpoint (s : State) (n target rate : Nat) : State × Nat × Bool :=
  let want := if rate = 0 then s.railf n 0x84 0 16 else rate
  let (s, t, r, lim) := s.limitTarget n target want
  (s.putTarget n t (s.slewFor n r), t, lim)

/-- Cancels a rail's pending retry, leaving its count (R621). -/
def State.cancelRetry (s : State) (n : Nat) : State :=
  s.modRail n fun r => if r.lstate = .retryWait then { r with lstate := .none, retryWait := 0, retryOt := false } else r

/-- A load shed in hold-up that must stay off (R441). -/
def State.holdShed (s : State) (shed : Bool) : Bool :=
  shed && (s.path.st == .handover || s.path.st == .holdup || s.path.st == .handback)

/-! ### Die temperature (R281, R282), 1/16 °C -/

def State.failT (s : State) : Int := 16 * (s.cfgf 0x1110 24 8 : Int)
/-- The temperature in use: the last valid reading, or FAIL_T. -/
def State.tdieNow (s : State) : Int := s.tdieUsed
/-- The epoch average of FRM_TDIE; FAIL_T while the sensor is FAILED, and before the first average what R281 gives the
frame (log 40). -/
def State.tdieEpoch (s : State) : Int := if s.cap.sensor = 2 then s.failT else s.cap.tEpoch.getD s.tdieNow

/-! ### The channel -/

/-- ILIM in mA. -/
def State.swIlim (s : State) (n : Nat) : Nat := 100 * s.swf n 8 0 16
/-- A level of SW_TLEV in °C: bit 0 T_WARN, 8 T_FOLD, 16 T_MAX, 24 T_RESTART. -/
def State.swLev (s : State) (n lo : Nat) : Rat := s.swf n 0x28 lo 8

/-- V_bus in mV, none while the source is unusable (R335). -/
def State.swBus (s : State) (n : Nat) : Option Nat :=
  match s.swf n 0 0 2 with
  | 0 => if s.sys.variant.hasPath then some s.smp.busMv else none
  | 1 =>
    let r := s.swf n 0 2 4
    if r < s.sys.variant.rails && (s.rail r).isOn then some (s.rail r).mv else none
  | _ => some (s.swf n 4 16 16)

/-- T_b in °C (R352). -/
def State.swTb (s : State) (n : Nat) : Rat :=
  (s.swf n 0x24 0 16 : Rat) / 256 * ((s.tdieEpoch : Rat) / 16) + (s.cfgi (0x4024 + 0x80 * n) 16 16 : Rat) / 16

/-- The foldback limit in mA (R355). -/
def State.swFoldMa (s : State) (n : Nat) : Rat :=
  let d := s.swLev n 16 - s.swLev n 8
  let slope : Rat := if d = 0 then 0 else (s.swLev n 16 - (s.sw n).tj) / d
  s.swIlim n * max ((s.swf n 0x0C 16 8 : Rat) / 100) slope

/-- L before the Brake's check (R336). -/
def State.swAsked (s : State) (n : Nat) : Rat :=
  let c := s.sw n
  let l : Rat := match c.capLim with | some m => min (s.swIlim n : Rat) m | none => s.swIlim n
  if c.fold then min l (s.swFoldMa n) else l
/-- L as the Brake commits it (R734). -/
def State.swL (s : State) (n : Nat) : Rat := min (s.swAsked n) (s.ipeak n)

/-- The lowest failed check of R338 in force, or none. -/
def State.swCheck (s : State) (n : Nat) : Option Nat :=
  let c := s.sw n
  let ilim := s.swf n 8 0 16
  let sth := s.swf n 8 16 16
  let slew := s.swf n 0x10 0 16
  let bus := s.swBus n
  if s.swf n 0 6 1 = 1 ∧ c.seated = false then some 1
  else if c.st = .retryWait ∨ c.st = .latched then some 2
  else if ilim = 0 ∨ s.ipeak n < 100 * ilim ∨ 5 * sth < 6 * ilim ∨ 1000000 < sth * s.swf n 4 0 16 ∨
      ¬(s.swLev n 24 < s.swLev n 0 ∧ s.swLev n 0 ≤ s.swLev n 8 ∧ s.swLev n 8 < s.swLev n 16) then some 3
  else match bus with
    | none => some 4
    | some b =>
      if b < 6000 ∨ 60000 < b then some 4
      else if slew * s.swf n 0x10 16 16 < b then some 5
      else if s.swLev n 24 ≤ c.tj then some 6
      else none

/-- The channel's gate goes to source, with the pump and any pre-arm (R344, R346, R359). -/
def Switch.gateOff (c : Switch) : Switch :=
  { c with gateOn := false, pump := false, rampTick := none, prearm := none, good := false, stbyHold := false,
           capLim := none, goodRun := 0, vgLow := 0, inside := false }

/-- Ends a turn-on or operation: the gate goes to source, the state becomes `nst`, and a waiting SW_ON completes
ABORTED_DISABLED with the code of the record that ended it (R343). -/
def State.swEnd (s : State) (n : Nat) (nst : SwState) (code : Nat) : State :=
  let slots := (s.sw n).onSlots
  (s.modSw n fun c => { c.gateOff with st := nst, onSlots := [] }).completeAll slots stABORTED code

/-- The ramp begins at this frame's latch, from the source voltage to V_bus (R340). -/
def State.swRamp (s : State) (n : Nat) : State :=
  let b := (s.swBus n).getD 0
  s.modSw n fun c => { c with rampTick := some s.clk.tick, rampFrom := c.srcMv, rampBus := b, gateOn := true, gateLow := false }

/-- A turn-on is applied (R339): with a confirmed pre-arm the ramp begins at this latch, else the pump starts now and the
ramp follows in the next frame. A waiting SW_OFF completes SUPERSEDED (R344). -/
def State.swTurnOn (s : State) (n : Nat) (retry prearmed : Bool) : State :=
  let offs := (s.sw n).offSlots
  let s := s.modSw n fun c => { c with
    st := .ramp, pump := true, gateLow := false, prearm := none, turnTick := s.clk.tick, isRetry := retry, wasGood := false
    offSlots := [], good := false, vgLow := 0, rampTick := none, goodRun := 0 }
  let s := s.completeAll offs stSUPERSEDED 0
  if prearmed then s.swRamp n else s

/-- SW_OFF by descriptor, step or policy (R344): RAMP and ON go to OFF, a retry is cancelled, UNSEATED goes to OFF. -/
def State.swTurnOff (s : State) (n code : Nat) : State :=
  match (s.sw n).st with
  | .ramp | .on => s.swEnd n .off code
  | .retryWait => s.modSw n fun c => { c with st := .off, retryLeft := 0, retryOver := 0 }
  | .unseated => s.modSw n fun c => { c with st := .off }
  | _ => s

/-- The ramp's target has reached V_bus in the sample set, and the source is at 98 % of it (R341). The ramp's start and the
target's arrival count from the latch at 0.94 of a frame (R53). -/
def State.rampReady (s : State) (n : Nat) : Bool :=
  let c := s.sw n
  match c.rampTick with
  | some r =>
    let slew := s.swf n 0x10 0 16
    c.st == .ramp && slew != 0 &&
    (94 : Rat) + 100 * ((c.rampBus : Rat) - c.rampFrom) / slew ≤ 100 * ((s.clk.tick : Rat) - r) && r < s.clk.tick &&
    98 * c.rampBus ≤ 100 * c.srcMv
  | none => false
/-- RAMP_TMO frames have passed without the ramp completing. -/
def State.rampLate (s : State) (n : Nat) : Bool :=
  let c := s.sw n
  match c.rampTick with
  | some r => c.st == .ramp && r + s.swf n 0x10 16 16 ≤ s.clk.tick && !s.rampReady n
  | none => false
/-- The fault timer has reached FLT_TMR (R350). -/
def State.swTimerDue (s : State) (n : Nat) : Bool :=
  let c := s.sw n
  (c.st == .ramp || c.st == .on) && s.swf n 0x0C 0 16 ≤ c.fTimer
/-- Below 7 V in two consecutive sample sets (R358). -/
def State.swPumpDue (s : State) (n : Nat) : Bool := (s.sw n).st == .on && 2 ≤ (s.sw n).vgLow
/-- The accumulator has reached the channel's I²t bound (R738). -/
def State.swI2tDue (s : State) (n : Nat) : Bool :=
  ((s.sw n).st == .ramp || (s.sw n).st == .on) && decide ((s.i2tBound n : Rat) ≤ (s.sw n).i2t)
/-- The junction is at or above T_MAX (R356). -/
def State.swHot (s : State) (n : Nat) : Bool :=
  ((s.sw n).st == .ramp || (s.sw n).st == .on) && decide (s.swLev n 16 ≤ (s.sw n).tj)

/-- SW_TRIP bits of every cause found in this frame (R360). -/
def State.swDue (s : State) (n : Nat) : Nat :=
  (if s.swTimerDue n then 2 else 0) + (if s.swHot n then 4 else 0) + (if s.swI2tDue n then 8 else 0) +
  (if s.rampLate n then 16 else 0) + (if s.swPumpDue n then 32 else 0)

/-- The recorded cause: the first found of SHORT, I2T, MODEL_OT, PUMP, RAMP, LIMIT (R360). -/
def tripCause (m : Nat) : Nat :=
  if m.testBit 0 then 0 else if m.testBit 3 then 3 else if m.testBit 2 then 2 else if m.testBit 5 then 5
  else if m.testBit 4 then 4 else 1

/-- The attempt length A (R361). -/
def State.swAttempt (s : State) (n : Nat) : Nat :=
  let c := s.sw n
  if c.isRetry || !c.wasGood then s.clk.tick + 1 - c.turnTick
  else if c.fTimer = 0 then 1 else s.clk.tick + 1 - c.fStart

/-- A trip with the causes `m` (R359–R364, R370). `t` is the comparator's time where hardware acted. A standby's held
channel is held off instead (R369). -/
def State.swTrip (s : State) (n m ma : Nat) (t : Option Nat) : State :=
  let c := s.sw n
  let bits := (s.swDue n ||| m)
  let cause := tripCause bits
  let a := s.swAttempt n
  let latch : Bool := s.swf n 0x14 0 4 ≤ c.retries
  let wait := max (s.swf n 0x14 8 8 * a) (framesMs (s.swf n 0x14 16 16))
  if c.stbyHold then
    let s := s.modSw n fun c => { c.gateOff with st := .off, stbyTrip := true }
    let s := { s with tdm.ownFault := some (2, n) }
    s.emit 0x0408 (swEng n) [n, cause, ma, s.frame]
  else
    let nst : SwState := if latch then .latched else .retryWait
    let ps := [n, cause, ma, i32 (roundQ 12 (16 * c.tj))]
    let s := match t with
      | some t => s.emitHw t 0x0401 (swEng n) ps
      | none => s.emit 0x0401 (swEng n) ps
    let s := s.swEnd n nst 0x0401
    let s := s.modSw n fun c => { c with
      cause := c.cause ||| BitVec.ofNat 8 bits, tripCnt := satInc 32 c.tripCnt, actTick := some s.clk.tick
      retryLeft := if nst = .retryWait then wait else 0, retryOver := 0 }
    if nst = .latched then s.emit 0x0403 (swEng n) [n, cause, c.retries] else s

/-- The switch good condition (R342, R811; R65 where the fault timer starts), with SW_ON's completion when it is first
met (R343). -/
def State.swJudge (s : State) (n : Nat) : State :=
  let c := s.sw n
  let g : Bool := c.st == .on && c.pumpOk && !c.limit && !(c.fTimer == 1 && c.fStart == s.clk.tick) && !s.brake.inFloor
  let s := s.modSw n fun c => { c with good := g, wasGood := c.wasGood || g }
  if g && !c.onSlots.isEmpty then
    (s.modSw n fun c => { c with onSlots := [] }).completeAll c.onSlots stDONE (s.clk.tick - c.rampTick.getD c.turnTick)
  else s

end Sys2Proof.Machine
end

