-- ==== Sys2Proof/Machine/SeqCore.lean ====
section
/-! DEFINITION. The sequencer's shared operations (spec/10): programs and steps as the SEQ section holds them, the start
and failure of a step, the endings of a program, and the outputs PGOOD, FAULT_N and RSTO. -/

namespace Sys2Proof.Machine

/-! ### Programs (R382) -/

/-- A step's fields. -/
structure Step where
  action : Nat
  target : Nat
  arg : Nat
  qual : Nat
  qtarget : Nat
  qframes : Nat
  timeout : Nat
  deriving DecidableEq, Repr, Inhabited

/-- A byte of program `p` in a SEQ section. -/
def progByte (sec : List Byte) (p o : Nat) : Nat := bytesAt sec (264 * p + o) 1
def progValid (sec : List Byte) (p : Nat) : Bool := p < 4 && progByte sec p 0 % 2 == 1
def progDown (sec : List Byte) (p : Nat) : Bool := progByte sec p 0 / 2 % 2 == 1
def progCount (sec : List Byte) (p : Nat) : Nat := progByte sec p 1
/-- Step `i` of program `p`; the timeout in frames. -/
def progStep (sec : List Byte) (p i : Nat) : Step :=
  let b (o : Nat) : Nat := progByte sec p (8 + 8 * i + o)
  { action := b 0, target := b 1, arg := b 2 + 256 * b 3, qual := b 4, qtarget := b 5, qframes := b 6,
    timeout := 100 * (b 7 % 128 * (if 128 ≤ b 7 then 100 else 1)) }

def State.progExists (s : State) (p : Nat) : Bool := progValid s.cfg.seqSect p
/-- The present step. -/
def State.curStep (s : State) : Step := progStep s.cfg.seqSect s.seq.prog s.seq.step
/-- Whether a program counts as running: from its SEQ_RUN's application (R392). -/
def State.seqBusy (s : State) : Bool := s.seq.running || s.seq.start.isSome
/-- Whether the program that counts as running is a power-down program. -/
def State.seqBusyDown (s : State) : Bool :=
  match s.seq.start with
  | some (p, _, _, _) => progDown s.cfg.seqSect p
  | none => s.seq.running && s.seq.down

/-! ### Ports (R406) -/

def State.hasUplink (s : State) : Bool := s.sys.role != .manager
def State.hasDownlink (s : State) : Bool := s.sys.role != .branch && s.sys.variant.hasDown

/-! ### SYNC (R398–R400) -/

/-- R398. -/
def State.participant (s : State) : Bool :=
  s.cfgb 0x5010 0 && s.seq.running &&
  (List.range (progCount s.cfg.seqSect s.seq.prog)).any fun i =>
    s.seq.step ≤ i && (progStep s.cfg.seqSect s.seq.prog i).action == 8
/-- R399. -/
def State.readyFor (s : State) : Nat :=
  if s.participant && s.curStep.action == 8 && s.seq.syncCount < s.curStep.arg then s.curStep.arg else s.seq.syncCount
/-- The device lets SYNC go: no participant, or ready for the next state. -/
def State.syncReady (s : State) : Bool := !s.participant || s.seq.syncCount < s.readyFor

/-! ### Outputs: PGOOD, FAULT_N, RSTO -/

/-- Rails and switches of PGOOD that are not good, as masks. -/
def State.pgNotGood (s : State) : Nat × Nat :=
  (maskOf ((bitsOf 16 (s.cfgf 0x5020 0 16)).filter fun n => !(s.rail n).pg),
   maskOf ((bitsOf 24 (s.cfgf 0x5024 0 24)).filter fun n => !(s.sw n).good))
/-- The conditions of R408 hold now. -/
def State.pgoodCond (s : State) : Bool :=
  (s.cfgf 0x5020 0 16 != 0 || s.cfgf 0x5024 0 24 != 0) && s.pgNotGood == (0, 0) &&
  (!(s.cfgb 0x5028 0 && s.sys.variant.hasPath) || s.path.good) && !s.brake.inFloor

/-- PGOOD goes to a level, with its record (R409). -/
def State.setPgood (s : State) (b : Bool) : State :=
  if s.seq.pgood = b then s
  else
    let ng := s.pgNotGood
    { s with seq.pgood := b }.emit 0x0506 10 [if b then 1 else 0, ng.1, ng.2]

/-- SEQ_FAULT_SRC (R410, R411). -/
def State.faultSrc (s : State) : Nat :=
  let bit (i : Nat) (b : Bool) : Nat := if b then 2 ^ i else 0
  bit 0 (s.railIdx.any fun n => (s.rail n).lstate == .latched) +
  bit 1 (s.railIdx.any fun n => (s.rail n).lstate == .retryWait) +
  bit 2 (s.swIdx.any fun n => (s.sw n).st == .latched) +
  bit 3 (s.swIdx.any fun n => (s.sw n).st == .retryWait) +
  bit 4 s.seq.failSrc +
  bit 5 (s.railIdx.any fun n => (s.rail n).crowbar) +
  bit 6 (s.railIdx.any fun n => (s.rail n).ovW || (s.rail n).uvW || (s.rail n).ocW || (s.rail n).otW || (s.rail n).offPres) +
  bit 7 (s.sys.variant.hasPath && s.path.fault != 0) +
  bit 8 s.seq.abortSrc

/-- FAULT_N follows its sources (R410). -/
def State.faultN (s : State) : State :=
  let src := s.faultSrc
  let low : Bool := s.brake.inFloor || src &&& s.cfgf 0x5030 0 9 != 0
  if s.seq.faultLow = low then s
  else { s with seq.faultLow := low }.emit 0x0507 10 [if low then 0 else 1, src, s.cfgf 0x5030 0 9]

/-- RSTO0_N–RSTO3_N follow their sources (R412). -/
def State.resetOuts (s : State) : State :=
  let en := s.cfgf 0x5040 0 4
  let tr := s.cfgf 0x5040 4 4
  let pulses : BitVec 4 := s.seq.pulses.foldl (fun a p => a ||| p.2.1) 0
  { s with seq.rstoLow := s.seq.stepLatch ||| pulses ||| (if s.seq.mrSource then BitVec.ofNat 4 en else 0) |||
      (if s.seq.pgood then 0 else BitVec.ofNat 4 tr) }

/-- What a change of the sources does to the outputs: PGOOD low at the first failing condition, FAULT_N, RSTO. -/
def State.supervise (s : State) : State :=
  let s := if s.seq.pgood && !s.pgoodCond then s.setPgood false else s
  s.faultN.resetOuts

/-! ### Endings (R389, R390) -/

/-- A turn-off by the sequencer of a unit named as a TARGET: the turn-off, and the cancelled retry (R344, R621). -/
def State.seqOff (s : State) (u : Nat) : State :=
  if u < 16 then
    ((s.cancelRetry u).turnOff u 0).modRail u fun r => { r with seqTick := some s.clk.tick }
  else (s.swTurnOff (u - 0x40) 0).modSw (u - 0x40) fun c => { c with seqTick := some s.clk.tick }
/-- Whether a unit named as a TARGET is on. -/
def State.unitOn (s : State) (u : Nat) : Bool :=
  if u < 16 then (s.rail u).isOn else (s.sw (u - 0x40)).st == .on || (s.sw (u - 0x40)).st == .ramp

/-- OFF_OWN in one frame: passes over units already off and turns off the first that is on (R389). -/
def State.offOwnOne (s : State) : List Nat → State
  | [] => { s with seq.offOwn := [] }
  | u :: us => if s.unitOn u then { s with seq.offOwn := us }.seqOff u else (s.seqOff u).offOwnOne us

/-- Undoes every pre-arm in force (R242). -/
def State.retirePrearm (s : State) : State :=
  let any : Bool := (s.railIdx.any fun n => (s.rail n).prearm.isSome) || (s.swIdx.any fun n => (s.sw n).prearm.isSome)
  let s := if any then s.modRail s.curStep.qtarget fun r => { r with specUndo := satInc 32 r.specUndo } else s
  let s := s.each s.railIdx fun s n => s.modRail n fun r => { r with prearm := none }
  s.each s.swIdx fun s n => s.modSw n fun c =>
    if c.prearm.isSome then { c with prearm := none, pump := false } else c

/-- A program ends (R390): the record, SEQ_LAST, SEQ_RUN's completion, and the sources of R411. -/
def State.seqEnd (s : State) (outcome cause status : Nat) : State :=
  if !s.seq.running then s
  else
    let q := s.seq
    let s := s.emit 0x0502 10 [q.prog, outcome, q.step, s.clk.tick - q.progTick]
    let s := (s.retirePrearm).each s.railIdx fun s n => s.modRail n fun r => { r with heldByDown := false }
    let okUp : Bool := outcome == 0 && !q.down
    let s := { s with
      seq.running := false
      seq.lastStep := q.step
      seq.lastOutcome := outcome
      seq.lastCause := cause
      seq.lastProg := q.prog
      seq.runSlots := []
      seq.stepFailed := false
      seq.syncDriving := false
      seq.failSrc := if outcome = 1 ∨ outcome = 2 then true else if okUp then false else q.failSrc
      seq.abortSrc := if okUp then false else q.abortSrc }
    s.completeAll q.runSlots status (q.step + 256 * outcome + 65536 * cause)

/-- A request not started yet is dropped with the ending given (R390, R392). -/
def State.dropStart (s : State) (outcome status : Nat) : State :=
  match s.seq.start with
  | some (p, _, slot, _) =>
    let s := { s with
      seq.start := none, seq.lastStep := 0, seq.lastOutcome := outcome, seq.lastCause := 0, seq.lastProg := p }
    let s := s.emit 0x0502 10 [p, outcome, 0, 0]
    match slot with | some k => s.complete k status (256 * outcome) | none => s
  | none => s

/-- The program that counts as running stops at its present step with outcome 4 (R390). -/
def State.seqStop (s : State) : State := (s.seqEnd 4 0 stABORTED).dropStart 4 stABORTED

/-- Asks for a program to start in the next frame (R384); the program that runs is replaced. -/
def State.seqRequest (s : State) (p src : Nat) (slot : Option Nat) : State :=
  let s := (s.seqEnd 3 0 stSUPERSEDED).dropStart 3 stSUPERSEDED
  { s with seq.start := some (p, src, slot, s.clk.tick) }

/-- The off sequence (R402, R416): the power-up program ends, and OFF_PROG starts in the next frame; with OFF_PROG 0xFF
every rail and switch is turned off. A running power-down program is left running (R397). Answers the program. -/
def State.offSequence (s : State) (src : Nat) : State × Nat :=
  if s.seqBusyDown then (s, 0xFF)
  else
    let s := s.seqStop
    if s.cfg.offProg = 0xFF then
      let s := s.each s.railIdx fun s n => s.turnOff n 0
      (s.each s.swIdx fun s n => s.swTurnOff n 0, 0xFF)
    else (s.seqRequest s.cfg.offProg src none, s.cfg.offProg)

/-- A failed power-up program applies its FAIL_POLICY and ends (R389). -/
def State.seqPolicy (s : State) (cause : Nat) : State :=
  let q := s.seq
  let policy := progByte s.cfg.seqSect q.prog 2
  let s := s.seqEnd 1 cause stDONE
  if policy = 1 then
    let own := q.turnedOn.reverse
    let s := s.each own fun s u => if u < 16 then s.cancelRetry u else
      s.modSw (u - 0x40) fun c => if c.st = .retryWait then { c with st := .off, retryLeft := 0 } else c
    s.offOwnOne own
  else if policy = 2 then { s with seq.start := some (progByte s.cfg.seqSect q.prog 3, 5, none, s.clk.tick) }
  else if policy = 3 then
    { s with seq.abortBurst := true, seq.syncDriving := true }.emit 0x0504 10 [6, s.seq.syncCount]
  else s

/-- A step fails (R388, R394): the record, then the policy of a power-up program; a power-down program keeps the first
cause. -/
def State.stepFail (s : State) (cause : Nat) : State :=
  if !s.seq.running then s
  else
    let s := s.emit 0x0503 10 [s.seq.prog, s.seq.step, cause, s.curStep.target]
    if s.seq.down then { s with seq.firstCause := if s.seq.firstCause = 0 then cause else s.seq.firstCause }
    else s.seqPolicy cause

/-- A fault action, trip or turn-off falls on a unit (R388): cause 3 where a fault did it and the program turned the unit
on or waits for it, cause 4 where something else turned off what the program turned on. -/
def State.seqNotify (s : State) (u : Nat) (fault : Bool) : State :=
  if !s.seq.running || s.seq.down then s
  else
    let st := s.curStep
    let waits : Bool := ((st.qual == 1 || st.qual == 2) && u < 16 && st.qtarget == u) ||
      ((st.qual == 3 || st.qual == 4) && 0x40 ≤ u && st.qtarget == u)
    if s.seq.turnedOn.contains u || (fault && waits) then s.stepFail (if fault then 3 else 4) else s

/-! ### Step start (R385) -/

/-- The failure cause of a step's own check, or none (R388). -/
def State.stepCheck (s : State) (st : Step) : Option Nat :=
  let now := some s.clk.tick
  let port : Bool :=
    (st.action == 0x0A && ((st.target == 0x70 && !s.hasDownlink) || (st.target == 0x71 && !s.hasUplink))) ||
    (st.qual == 9 && !s.hasUplink) || (st.qual == 10 && !s.hasDownlink)
  if port then some 2
  else if st.action = 1 then
    let r := s.rail st.target
    let l := s.rail (s.leadOf st.target)
    if r.isOn then
      (if st.arg = 0 ∧ s.railf st.target 0x80 0 16 = 0 then some 2
       else if st.arg ≠ 0 ∧ (st.arg < 300 ∨ 16000 < st.arg) then some 2 else none)
    else if s.holdShed r.shed then some 4
    else match s.railOnCause st.target st.arg with
      | some 2 => some (if r.actTick = now ∨ l.actTick = now then 3 else 2)
      | some _ => some 2
      | none => none
  else if st.action = 3 then
    if !(s.rail st.target).isOn ∨ st.arg < 300 ∨ 16000 < st.arg then some 2 else none
  else if st.action = 4 then
    let c := s.sw (st.target - 0x40)
    if c.st = .on ∨ c.st = .ramp then none
    else if s.holdShed c.shed then some 4
    else match s.swCheck (st.target - 0x40) with
      | some 2 => some (if c.actTick = now then 3 else 2)
      | some _ => some 2
      | none => none
  else if st.action = 9 then (if s.cfgb 0x5010 1 then none else some 2)
  else none

/-- PREARM_CONFIRMED as a pre-armed target's step starts (R237, R242). -/
def State.prearmRecord (s : State) (u : Nat) (p : Option Nat) : State :=
  match p with
  | some t => s.emit 0x0E02 10 [s.seq.prog, s.seq.step, u, s.clk.tick - t]
  | none => s

/-- A step's action (R382). -/
def State.stepAct (s : State) (st : Step) : State :=
  let own (s : State) : State := { s with seq.turnedOn := s.seq.turnedOn.filter (· ≠ st.target) ++ [st.target] }
  let disown (s : State) : State := { s with seq.turnedOn := s.seq.turnedOn.filter (· ≠ st.target) }
  match st.action with
  | 1 =>
    let n := st.target
    let tgt := if st.arg = 0 then s.railf n 0x80 0 16 else st.arg
    if (s.rail n).isOn then s.putTarget n tgt (s.slewFor n (s.rail n).slew)
    else
      let pa := (s.rail n).prearm
      own ((s.prearmRecord n pa).turnOn n tgt (if pa.isSome then 0 else 1)).1
  | 2 =>
    let wasOn := (s.rail st.target).isOn
    let s := disown (s.seqOff st.target)
    if s.seq.down && wasOn then
      s.each (s.pairUnits st.target) fun s u => s.modRail u fun r =>
        { r with disByDown := r.st == .turnOff, downStep := (s.seq.prog, s.seq.step) }
    else s
  | 3 => (s.applySetpoint st.target st.arg 0).1
  | 4 =>
    let c := s.sw (st.target - 0x40)
    if c.st = .on ∨ c.st = .ramp then s
    else own ((s.prearmRecord st.target c.prearm).swTurnOn (st.target - 0x40) false c.prearm.isSome)
  | 5 => disown (s.seqOff st.target)
  | 6 => ({ s with seq.stepLatch := setBit s.seq.stepLatch (st.target - 0x60) }).resetOuts
  | 7 => ({ s with seq.stepLatch := clearBit s.seq.stepLatch (st.target - 0x60) }).resetOuts
  | 9 => { s with seq.homePulse := true, seq.homeDone := false, seq.syncDriving := true }
  | 10 =>
    let s := { s with seq.stageSent := st.arg }
    if st.target = 0x70 then { s with dray.queue := s.dray.queue ++ [.st st.arg none s.clk.tick] }
    else { s with dray.upStages := s.dray.upStages ++ [(st.arg, none, s.clk.tick)] }
  | _ => s

/-- Starts step `i` (R385): its check, then its action. A power-down step that fails as it starts passes on in the next
frame (R394). -/
def State.startStep (s : State) (i : Nat) : State :=
  let nodes : BitVec 8 := BitVec.ofNat 8 (maskOf ((List.range 8).filter fun k => (s.dray.nodes.getD k {}).joined))
  let s := { s with
    seq.step := i, seq.qcount := 0, seq.stepTick := s.clk.tick, seq.stepFailed := false, seq.stageSet := nodes
    seq.homeDone := false }
  let st := s.curStep
  match s.stepCheck st with
  | some c => let s := s.stepFail c; if s.seq.running then { s with seq.stepFailed := true } else s
  | none => s.stepAct st

/-- The next step starts, or the program ends (R385, R390). -/
def State.seqAdvance (s : State) : State :=
  if s.seq.step + 1 < progCount s.cfg.seqSect s.seq.prog then s.startStep (s.seq.step + 1)
  else if s.seq.firstCause = 0 then s.seqEnd 0 0 stDONE
  else s.seqEnd 2 s.seq.firstCause stDONE

/-- A requested program starts its step 0 (R384). -/
def State.progStart (s : State) : State :=
  match s.seq.start with
  | some (p, src, slot, t) =>
    if t < s.clk.tick then
      let s := s.emit 0x0501 10 [p, src, s.frame]
      let down := progDown s.cfg.seqSect p
      let s := { s with
        seq.start := none
        seq.prog := p
        seq.running := true
        seq.down := down
        seq.progTick := s.clk.tick
        seq.runSlots := slot.toList
        seq.turnedOn := []
        seq.firstCause := 0 }
      let s := if down then
          s.each s.railIdx fun s n => s.modRail n fun r => { r with heldByDown := r.isOn } else s
      s.startStep 0
    else s
  | none => s

/-! ### Qualifiers (R382, R386) -/

/-- The qualifier's condition in this frame. -/
def State.qualHolds (s : State) : Bool :=
  let st := s.curStep
  match st.qual with
  | 0 => st.action != 9 || (s.seq.homeDone && s.seq.syncCount == 0)
  | 1 => (s.rail st.qtarget).good
  | 2 => (s.rail st.qtarget).st == .off || (s.rail st.qtarget).causes.getLsbD 6
  | 3 => (s.sw (st.qtarget - 0x40)).good
  | 4 => (s.sw (st.qtarget - 0x40)).gateLow
  | 5 => st.qtarget ≤ s.seq.syncCount
  | 6 => s.seq.stepTick + 100 * st.qframes ≤ s.clk.tick
  | 7 => s.path.good
  | 8 => s.pgNotGood == (0, 0)
  | 9 => match s.seq.stageUp with | some v => st.qtarget ≤ v | none => false
  | 10 => (bitsOf 8 s.seq.stageSet.toNat).all fun k =>
      match (s.dray.nodes.getD k {}).stage with | some v => st.qtarget ≤ v | none => false
  | _ => false

/-- The frames a qualifier needs: NONE and DELAY are met in their first frame. -/
def Step.need (st : Step) : Nat := if st.qual = 0 ∨ st.qual = 6 then 1 else st.qframes

/-- The frame's judgement, taken into the count as the frame ends: it grows while the condition holds and restarts where
it fails (R386). -/
def State.seqJudge (s : State) : State :=
  if s.seq.running && s.seq.stepTick < s.clk.tick && !s.seq.stepFailed then
    { s with seq.qcount := if s.qualHolds then min 255 (s.seq.qcount + 1) else 0 }
  else s

/-- The present step's qualifier is met in this frame, the frames before it counted. -/
def State.stepMet (s : State) : Bool :=
  s.seq.running && s.seq.stepTick < s.clk.tick && !s.seq.stepFailed && s.qualHolds && s.curStep.need ≤ s.seq.qcount + 1

/-- The present step's timeout has passed unmet (R387). -/
def State.stepLate (s : State) : Bool :=
  s.seq.running && !s.seq.stepFailed && s.seq.stepTick + s.curStep.timeout ≤ s.clk.tick && s.seq.stepTick < s.clk.tick &&
  !s.stepMet

/-! ### Pre-arm (R241, R242) -/

/-- The voltage of the awaited rail against a percentage of its good threshold. -/
def State.atGoodPct (s : State) (n pct : Nat) : Bool :=
  let r := s.rail n
  let lo := s.cfgf (0x5100 + 4 * n) 0 8
  (pct : Rat) * (r.vtarget * (1 - (lo : Rat) / 1000)) ≤ 100 * (r.mv : Rat)

/-- Pre-arms the next step's target (each pre-arm one speculative action of the awaited rail, R243) when the awaited rail reaches 95 % of its good threshold, and undoes it below 90 %. -/
def State.prearmStep (s : State) : State :=
  let took (s : State) (q : Nat) : State := s.modRail q fun r => { r with specAct := satInc 32 r.specAct }
  let undid (s : State) (q : Nat) : State := s.modRail q fun r => { r with specUndo := satInc 32 r.specUndo }
  let st := s.curStep
  if !s.seq.running || st.qual != 1 || progCount s.cfg.seqSect s.seq.prog ≤ s.seq.step + 1 then s
  else
    let nx := progStep s.cfg.seqSect s.seq.prog (s.seq.step + 1)
    let n := nx.target
    let up := s.atGoodPct st.qtarget 95
    let keep := s.atGoodPct st.qtarget 90
    if nx.action = 1 then
      let r := s.rail n
      if r.prearm.isSome then (if keep then s else undid (s.modRail n fun r => { r with prearm := none }) st.qtarget)
      else if up && s.railf n 0x8C 25 1 == 1 && !r.isOn then
        took (s.modRail n fun r => { r with prearm := some s.clk.tick }) st.qtarget
      else s
    else if nx.action = 4 then
      let c := s.sw (n - 0x40)
      if c.prearm.isSome then
        (if keep then s else
          undid (s.modSw (n - 0x40) fun c => { c with prearm := none, pump := false }) st.qtarget)
      else if up && s.swf (n - 0x40) 0 16 1 == 1 && c.st == .off then
        took (s.modSw (n - 0x40) fun c => { c with prearm := some s.clk.tick, pump := true }) st.qtarget
      else s
    else s

end Sys2Proof.Machine
end

