-- ==== Sys2Proof/Machine/Switch.lean ====
section
/-! DEFINITION. The switch channels (spec/09): the rows, and the work a switch engine does in a frame. -/

namespace Sys2Proof.Machine

/-! ### The frame's work -/

/-- What the sample set shows of a channel (R334, R336, R342); the gate at source is a gate-to-source reading of 0. -/
def State.swSample (s : State) (n : Nat) : State :=
  let gs := s.smp.swGsMv.getD n 0
  let i := s.smp.swMa.getD n 0
  let s := s.modSw n fun c => { c with
    ma := i, srcMv := s.smp.swSrcMv.getD n 0, gsMv := gs, limit := s.smp.swLimit.getLsbD n
    pumpOk := decide (7000 ≤ gs), gateLow := !c.gateOn && c.st != .ramp && c.prearm.isNone && gs == 0
    iEpoch := c.iEpoch + i }
  let c := s.sw n
  if c.gateLow && !c.offSlots.isEmpty then
    (s.modSw n fun c => { c with offSlots := [] }).completeAll c.offSlots stDONE 0
  else s

/-- Seat qualification (R345): whole epochs read low, and consecutive sets read high. -/
def State.swSeat (s : State) (n : Nat) : State :=
  let high := s.smp.seat.getLsbD n
  let s := s.modSw n fun c => { c with
    seatHigh := if high then c.seatHigh + 1 else 0
    epochLow := (if s.clk.pos = 0 then true else c.epochLow) && !high
    epochFrames := if s.clk.pos = 0 then 1 else c.epochFrames + 1 }
  if s.clk.pos = 99 then
    s.modSw n fun c => { c with seatLow := if c.epochLow && c.epochFrames == 100 then c.seatLow + 1 else 0 }
  else s

/-- The dissipation of R353, in W: mA² × µΩ × 10⁻¹², and mA × mV × 10⁻⁶. -/
def State.swPower (s : State) (n : Nat) : Rat :=
  let c := s.sw n
  let ron : Rat := s.swf n 0x18 0 16 * (1 + (s.swf n 0x18 16 16 : Rat) / 1000000 * (c.tj - 25))
  if c.st = .on ∧ c.limit = false then (c.ma : Rat) * c.ma * ron / 1000000000000
  else if c.st = .on ∨ (c.st = .ramp ∧ c.gateOn = true) then
    (c.ma : Rat) * max 0 (((s.swBus n).getD 0 : Rat) - c.srcMv) / 1000000
  else 0

/-- The thermal model of one frame (R352, R354): both nodes start at T_b. -/
def State.swModel (s : State) (n : Nat) : State :=
  let tb := s.swTb n
  let s := s.modSw n fun c => if c.modelInit then { c with tb := tb } else { c with tj := tb, tc := tb, tb := tb, modelInit := true }
  let c := s.sw n
  let rth1 : Rat := (s.swf n 0x1C 0 16 : Rat) / 100
  let rth2 : Rat := (s.swf n 0x20 0 16 : Rat) / 100
  let a : Rat := if s.swf n 0x1C 16 16 = 0 then 0 else 1 / (s.swf n 0x1C 16 16 : Rat)
  let b : Rat := if s.swf n 0x20 16 16 = 0 then 0 else 1 / (100 * (s.swf n 0x20 16 16 : Rat))
  let p := s.swPower n
  let k : Rat := if rth1 = 0 then 0 else rth2 / rth1
  s.modSw n fun c' => { c' with
    tj := c.tj + a * (p * rth1 - (c.tj - c.tc)), tc := c.tc + b * ((c.tj - c.tc) * k - (c.tc - tb)) }

/-- Foldback and T_WARN with their records (R355, R357). -/
def State.swTherm (s : State) (n : Nat) : State :=
  let c := s.sw n
  let t := i32 (roundQ 40 (16 * c.tj))
  let b := i32 (roundQ 41 (16 * c.tb))
  let warn : Bool := if c.tWarn then decide (s.swLev n 0 - 2 < c.tj) else decide (s.swLev n 0 < c.tj)
  let fold : Bool := decide (s.swLev n 8 < c.tj)
  let s := if warn ≠ c.tWarn then s.emit 0x0405 (swEng n) [n, if warn then 1 else 2, t, b] else s
  let s := if fold ≠ c.fold then s.emit 0x0405 (swEng n) [n, if fold then 3 else 4, t, b] else s
  s.modSw n fun c => { c with tWarn := warn, fold := fold }

/-- The fault timer and the epoch's frames in limit or foldback (R350, R351). -/
def State.swTimer (s : State) (n : Nat) : State :=
  let c := s.sw n
  let on : Bool := c.st == .ramp || c.st == .on
  let up : Bool := on && (c.limit || c.fold)
  s.modSw n fun c => { c with
    fStart := if up && c.fTimer == 0 then s.clk.tick else c.fStart
    goodRun := if up && c.fTimer == 0 then 0 else c.goodRun
    fTimer := if up then c.fTimer + 1 else c.fTimer - 1
    limFirst := if up && c.limEpoch == 0 && c.foldEpoch == 0 then s.clk.strobe - 10000 else c.limFirst
    limEpoch := if on && c.limit then c.limEpoch + 1 else c.limEpoch
    foldEpoch := if on && c.fold then c.foldEpoch + 1 else c.foldEpoch
    vgLow := if c.st == .on && decide (c.gsMv < 7000) then c.vgLow + 1 else 0
    retryOver := if c.st == .retryWait && c.retryLeft == 0 then c.retryOver + 1 else c.retryOver
    retryLeft := c.retryLeft - 1 }

/-- The accumulator of R738, which runs in every state. -/
def State.swI2t (s : State) (n : Nat) : State :=
  s.modSw n fun c => { c with
    i2t := c.i2t - c.i2t / 10000 + (c.ma : Rat) * c.ma / 1000000 / 100 }

/-- A standby's channel (R367, R368): a class S one follows the copied block, every other stays at source. -/
def State.swShadow (s : State) (n : Nat) : State :=
  let c := s.sw n
  let shown : Bool := match s.tdm.mirror.head? with
    | some b => b.swOnGood.getLsbD n
    | none => false
  let bus : Rat := (s.swBus n).getD 0
  let hold : Bool := c.cls == .s && shown && !c.stbyTrip && decide (0 < bus) && decide (95 * bus ≤ 100 * (c.srcMv : Rat))
  let s := s.modSw n fun c => { c with stbyTrip := c.stbyTrip && shown }
  if c.stbyHold then
    (if c.cls = .s ∧ shown = true then s else s.modSw n fun c => { c.gateOff with st := .off })
  else if hold then
    s.modSw n fun c => { c with st := .on, stbyHold := true, gateOn := true, gateLow := false, pump := true }
  else s

/-- Step 1 for one channel: the ramp that follows its pump start, the model, the timer, and the trip of R356. -/
def State.swStep1 (s : State) (n : Nat) : State :=
  let s := (s.swSeat n).swI2t n
  if s.brake.inFloor then s
  else
    let c := s.sw n
    let s := if c.st == .ramp && c.rampTick.isNone && decide (c.turnTick < s.clk.tick) then s.swRamp n else s
    let s := (s.swModel n).swTherm n
    let s := s.swTimer n
    let s := if s.swHot n then (s.swTrip n 4 (i32 (s.sw n).ma) none).seqNotify (0x40 + n) true else s
    if s.isStandby then s.swShadow n else s

/-- Step 3 for one channel, and the run of good frames of R365. -/
def State.swStep3 (s : State) (n : Nat) : State :=
  let s := s.swJudge n
  s.modSw n fun c => { c with goodRun := if c.good then c.goodRun + 1 else 0 }

/-! ### Rows -/

/-- RAMP_COMPLETE (R341): full enhancement, and the good condition judged at once. -/
def execRampComplete (ch : Nat) (s : State) : Host.Outcome State Fault Refusal :=
  .next (if s.rampReady ch then (s.modSw ch fun c => { c with st := .on, gateOn := true }).swJudge ch else s)

/-- A trip row's whole effect: the trip and the sequencer's notice. -/
def State.tripRow (s : State) (ch m : Nat) (t : Option Nat) (ma : Int) : State :=
  (s.swTrip ch m (i32 ma) t).seqNotify (0x40 + ch) true

/-- RAMP_TIMEOUT (R341). -/
def execRampTimeout (ch : Nat) (s : State) : Host.Outcome State Fault Refusal :=
  .next (if s.rampLate ch && !s.brake.inFloor then s.tripRow ch 16 none (s.sw ch).ma else s)

/-- SWITCH_SHORT (R349): in every state with the gate above source; the trip counted in step 1 (R39) is part of the row. -/
def execSwitchShort (ch : Nat) (ma : Int) (t : Nat) (s : State) : Host.Outcome State Fault Refusal :=
  let c := s.sw ch
  let thr : Int := 100 * s.swf ch 8 16 16
  if c.gateOn && decide (thr < ma) then
    .next (({ s with rcd.shorts := satInc 32 s.rcd.shorts }).tripRow ch 1 (some t) ma)
  else .next s

/-- SW_FAULT_TIMER_EXPIRY (R350). -/
def execSwFaultTimerExpiry (ch : Nat) (s : State) : Host.Outcome State Fault Refusal :=
  .next (if s.swTimerDue ch && !s.brake.inFloor then s.tripRow ch 2 none (s.sw ch).ma else s)

/-- SW_PUMP_TRIP (R358); an active yields for a class S channel (R534). -/
def execSwPumpTrip (ch : Nat) (s : State) : Host.Outcome State Fault Refusal :=
  .next (if s.swPumpDue ch && !s.brake.inFloor then
      (if s.canYield && (s.sw ch).cls == .s then { s with tdm.yieldReq := 4 } else s.tripRow ch 32 none (s.sw ch).ma)
    else s)

/-- BRAKE_I2T_TRIP (R738): the Brake acts in every state, the safe floor included. -/
def execBrakeI2tTrip (ch : Nat) (s : State) : Host.Outcome State Fault Refusal :=
  .next (if s.swI2tDue ch then s.tripRow ch 8 none (s.sw ch).ma else s)

/-- SW_RETRY (R362, R363). -/
def execSwRetry (ch : Nat) (s : State) : Host.Outcome State Fault Refusal :=
  let c := s.sw ch
  if c.st = .retryWait ∧ c.retryLeft = 0 ∧ c.tj < s.swLev ch 24 ∧ s.brake.inFloor = false ∧ s.holdShed c.shed = false then
    if s.swf ch 0 6 1 = 1 ∧ c.seated = false then
      .next (s.modSw ch fun c => { c with st := if s.swf ch 0 7 1 = 1 then .unseated else .off })
    else
      let a := c.turnTick
      let off := (s.clk.tick - c.actTick.getD a) / 100
      let s := s.modSw ch fun c => { c with retries := c.retries + 1 }
      let s := s.emit 0x0402 (swEng ch) [ch, c.retries + 1, off, c.retryOver / 100]
      .next (s.swTurnOn ch true false)
  else .next s

/-- SW_RETRY_COUNT_RESET (R365). -/
def execSwRetryCountReset (ch : Nat) (s : State) : Host.Outcome State Fault Refusal :=
  .next (if 10000 ≤ (s.sw ch).goodRun then s.modSw ch fun c => { c with retries := 0, cause := 0 } else s)

/-- SW_STATUS.STATE's code. -/
def SwState.code : SwState → Nat
  | .off => 0 | .ramp => 1 | .on => 2 | .retryWait => 3 | .latched => 4 | .unseated => 5

/-- SEAT_QUALIFIED (R345, R347). -/
def execSeatQualified (ch : Nat) (s : State) : Host.Outcome State Fault Refusal :=
  let c := s.sw ch
  if ch < s.sys.variant.sws ∧ c.seated = false ∧ s.swf ch 0 8 4 ≤ c.seatLow ∧ c.seatHigh = 0 then
    let en := s.swf ch 0 6 1
    let s := s.emit 0x0404 (swEng ch) [ch, 1, c.st.code, en]
    let s := s.modSw ch fun c => { c with seated := true }
    if c.st = .unseated ∧ s.brake.inFloor = false ∧ s.holdShed c.shed = false then .next (s.swTurnOn ch false false)
    else .next s
  else .next s

/-- SEAT_LOSS (R345, R346). -/
def execSeatLoss (ch : Nat) (s : State) : Host.Outcome State Fault Refusal :=
  let c := s.sw ch
  if ch < s.sys.variant.sws ∧ c.seated = true ∧ s.swf ch 0 12 4 ≤ c.seatHigh then
    let en := s.swf ch 0 6 1
    let on : Bool := c.st == .ramp || c.st == .on
    let pull : Bool := en == 1 && on && !c.stbyHold
    let nst : SwState := if s.swf ch 0 7 1 = 1 then .unseated else .off
    let s := s.emit 0x0404 (swEng ch) [ch, if pull then 3 else 2, c.st.code, en]
    let s := s.modSw ch fun c => { c with seated := false, seatLow := 0 }
    if pull then .next ((s.swEnd ch nst 0x0404).seqNotify (0x40 + ch) false)
    else if en = 1 ∧ c.st = .retryWait then
      .next (s.modSw ch fun c => { c with st := nst, retryLeft := 0, retryOver := 0 })
    else .next s
  else .next s

/-- R65: a trip or a sequencer turn-off of this frame stands against a command on the channel. -/
def State.swTaken (s : State) (n : Nat) : Bool :=
  let c := s.sw n
  c.actTick == some s.clk.tick || (c.seqTick == some s.clk.tick && !(c.st == .on || c.st == .ramp))

/-- SW_ON's own part (R338, R343, R441, R754). -/
def State.swOnOp (s : State) (k : Nat) (d : RawDesc) : State :=
  let n := descIndex d
  let c := s.sw n
  if c.st = .on then s.complete k stDONE 0
  else if c.st = .ramp then (s.modSw n fun c => { c with onSlots := c.onSlots ++ [k] }).hold k
  else if c.seqTick = some s.clk.tick ∨ c.shedTick = some s.clk.tick then s.complete k stABORTED 0
  else if s.holdShed c.shed then s.complete k stABORTED 0x0603
  else match s.swCheck n with
    | some r => s.reject k stBADPARAM r
    | none =>
      let s := s.modSw n fun c => { c with onSlots := [k] }
      (s.swTurnOn n false false).hold k

/-- SW_ON. -/
def execSwOn (slot : Nat) (s : State) : Host.Outcome State Fault Refusal :=
  .next (s.applyDesc 0x0301 slot (fun _ => some fSW) fun d s => s.swOnOp slot d)

/-- SW_OFF's own part (R344). -/
def State.swOffOp (s : State) (k : Nat) (d : RawDesc) : State :=
  let n := descIndex d
  let was := s.unitOn (0x40 + n)
  if s.swTaken n then s.complete k stABORTED 0
  else
    let s := s.swTurnOff n 0
    let s := if was then s.seqNotify (0x40 + n) false else s
    if (s.sw n).gateLow then s.complete k stDONE 0
    else (s.modSw n fun c => { c with offSlots := c.offSlots ++ [k] }).hold k

/-- SW_OFF. -/
def execSwOff (slot : Nat) (s : State) : Host.Outcome State Fault Refusal :=
  .next (s.applyDesc 0x0302 slot (fun _ => some fSW) fun d s => s.swOffOp slot d)

/-- SW_CLEAR's own part (R366): the channel goes off, keeping the causes whose condition stands. On a channel that is on
nothing is latched and it is left on. -/
def State.swClearOp (s : State) (k : Nat) (d : RawDesc) : State :=
  let n := descIndex d
  let c := s.sw n
  if c.actTick = some s.clk.tick then s.complete k stABORTED 0
  else
    let hot : Bool := decide (s.swLev n 24 ≤ c.tj)
    let all := c.cause.toNat
    let kept := if hot then all &&& 6 else 0
    let clr := all - kept
    let nst : SwState := match c.st with
      | .on => .on
      | .ramp => .ramp
      | .unseated => .unseated
      | .off => if kept ≠ 0 then .latched else .off
      | _ => if kept ≠ 0 then .latched else .off
    let s := s.modSw n fun c => { c with
      cause := BitVec.ofNat 8 kept, retries := 0, retryLeft := 0, retryOver := 0, st := nst }
    (s.emit 0x0407 (swEng n) [n, clr, kept]).complete k stDONE (clr + 256 * kept)

/-- SW_CLEAR. -/
def execSwClear (slot : Nat) (s : State) : Host.Outcome State Fault Refusal :=
  .next (s.applyDesc 0x0303 slot (fun _ => some fSW) fun d s => s.swClearOp slot d)

end Sys2Proof.Machine
end

