-- ==== Sys2Proof/Machine/Capping.lean ====
section
/-! DEFINITION. Zone power, caps and throttle outputs, the temperature sensor, derating and compensation (R261–R290): the
rows, and E13's work in a frame and at an epoch boundary. -/

namespace Sys2Proof.Machine

/-! ### Power and caps -/

/-- The zone power of the sample set in µW (R261, R812). -/
def State.zonePower (s : State) : Int :=
  if s.cfgf 0x1100 0 2 = 0 then
    (s.smp.feedMv : Int) * max 0 s.smp.feedMa + (s.smp.batMv : Int) * max 0 (-s.smp.batMa)
  else
    ((s.railIdx.filter fun n => (s.rail n).isOn).map fun n => ((s.rail n).mv : Int) * (s.rail n).iout).sum +
    ((s.swIdx.filter fun n => s.unitOn (0x40 + n)).map fun n => ((s.sw n).srcMv : Int) * (s.sw n).ma).sum

/-- P_cap: the lowest non-zero cap, mW; 0 while none is in force (R262). -/
def State.pCap (s : State) : Nat :=
  let l := [s.cap.host, s.cap.leader, s.cap.thermal].filter (· ≠ 0)
  l.foldl min (l.headD 0)

/-- The excess in % (R263). -/
def State.excess (s : State) : Rat :=
  if s.pCap = 0 then -100 else 100 * (s.cap.pAvg - s.pCap) / s.pCap

def State.capOver (s : State) : Rat := s.cfgf 0x1104 0 8

/-- Whether any load has a cap limit. -/
def State.anyCapLim (s : State) : Bool :=
  (s.railIdx.any fun n => (s.rail n).capLim.isSome) || (s.swIdx.any fun n => (s.sw n).capLim.isSome)

/-- FRM_CAP_STATUS.STAGE: 0 NONE, 1 THROTTLE, 2 GRACE, 3 REDUCE_C, 4 REDUCE_E, 5 UNMET, 6 RELEASE, 7 HOLD. -/
def State.capStageNow (s : State) : Nat :=
  if s.capOver < s.cap.x then
    (if s.cap.unmet then 5 else if s.cap.graceMet then 3 + s.cap.redCls else 2)
  else if s.anyCapLim then (if s.cap.relMet then 6 else 7)
  else if 0 < s.cap.x then 1 else 0

/-- Puts the stage in force, with CAP_STAGE at a change (R278). -/
def State.capStage (s : State) : State :=
  let n := s.capStageNow
  if n = s.cap.stage then s
  else { s with cap.stage := n }.emit 0x0F02 13 [s.cap.stage, n, i32 (roundQ 50 s.cap.pAvg), s.pCap]

/-- A THR output's class demand: 0 while disabled (R267, R268). -/
def State.thrDemand (s : State) (k : Nat) : Rat :=
  match s.cfgf 0x1108 (8 * k) 2 with
  | 0 => s.cap.duc
  | 1 => s.cap.due
  | _ => 0
/-- Its level in this frame: in PWM mode high for the first positions of the epoch, as its demand at the boundary says. -/
def State.thrLevel (s : State) (k : Nat) : Bool :=
  if s.cfgb 0x1108 (8 * k + 2) then
    (match s.cfgf 0x1108 (8 * k) 2 with
     | 0 => decide (s.clk.pos < s.cap.pwmC)
     | 1 => decide (s.clk.pos < s.cap.pwmE)
     | _ => false)
  else decide (0 < s.thrDemand k)

/-- THROTTLE_UPDATE (R261–R269, R275): E13's work in stage 3 of a frame. -/
def State.capFrame (s : State) : State :=
  if s.brake.inFloor then s
  else
    let p := s.zonePower
    let hist := (p :: s.cap.pHist).take (max 1 (s.cfgf 0x1100 8 8))
    let s := { s with
      cap.pHist := hist
      cap.pAvg := ((hist.sum : Int) : Rat) / (1000 * hist.length)
      cap.pEpoch := s.cap.pEpoch + p }
    let x := s.excess
    let d := clampQ 0 200 ((s.cfgf 0x1104 24 8 : Rat) * x)
    let ovr : Bool := decide (s.capOver < x)
    let under : Bool := decide (x ≤ -(s.cfgf 0x1104 16 8 : Rat))
    let s := { s with
      cap.x := x
      cap.duc := min 100 d
      cap.due := min 100 (max 0 (d - 100))
      cap.overAll := s.cap.overAll && ovr
      cap.underAll := s.cap.underAll && under
      cap.grace := if ovr then s.cap.grace else 0
      cap.graceMet := s.cap.graceMet && ovr
      cap.unmet := s.cap.unmet && ovr
      cap.rel := if under then s.cap.rel else 0
      cap.relMet := s.cap.relMet && under }
    let s := { s with
      cap.duty := (List.range 4).map fun k => roundN 51 (s.thrDemand k)
      cap.thrHigh := BitVec.ofNat 4 (maskOf ((List.range 4).filter fun k => s.thrLevel k)) }
    -- DEDUCED (log 42): a reduction that holds becomes HOLD at a boundary, as R279's example has it.
    if s.anyCapLim && (3 ≤ s.cap.stage && s.cap.stage ≤ 5) && !ovr && s.clk.pos != 0 then s else s.capStage

/-- E13's count of grace and release at an epoch boundary (R269, R271, R275, R276); the epoch's flags start anew. -/
def State.capEpoch (s : State) : State :=
  let s := { s with cap.pEpoch := 0 }
  if s.brake.inFloor then s
  else
    let c := s.cap
    let ovr : Bool := decide (s.capOver < c.x)
    let grace := if c.overAll then min (c.grace + 1) 255 else c.grace
    let met : Bool := c.graceMet || (c.overAll && s.cfgf 0x1100 16 8 ≤ grace)
    let rel := if c.underAll then min (c.rel + 1) 255 else 0
    let rmet : Bool := s.cfgf 0x1100 24 8 ≤ rel
    { s with
      cap.grace := grace
      cap.graceMet := met
      cap.redDue := met && ovr
      cap.rel := rel
      cap.relMet := rmet && s.anyCapLim
      cap.raiseDue := rmet && s.anyCapLim
      cap.overAll := true
      cap.underAll := true
      cap.pwmC := c.duc.floor.toNat
      cap.pwmE := c.due.floor.toNat }

/-! ### Reduction and release (R270–R278) -/

/-- A load as capping sees it: its number as a TARGET. -/
def State.capLoads (s : State) : List Nat := s.railIdx ++ s.swIdx.map (0x40 + ·)
def State.capCls (s : State) (u : Nat) : Cls := if u < 16 then (s.rail u).cls else (s.sw (u - 0x40)).cls
def State.capLimOf (s : State) (u : Nat) : Option Nat := if u < 16 then (s.rail u).capLim else (s.sw (u - 0x40)).capLim
/-- The uncapped limit, mA (R272). -/
def State.uncapped (s : State) (u : Nat) : Nat :=
  if u < 16 then min (100 * s.protf u 8 16 16) (s.imax u) else s.swIlim (u - 0x40)
/-- CAP_IMIN, mA. -/
def State.capImin (s : State) (u : Nat) : Nat :=
  100 * (if u < 16 then s.railf u 0xC8 16 16 else s.cfgf (0x1180 + 4 * (u - 0x40)) 0 16)
def State.capEn (s : State) (u : Nat) : Bool :=
  if u < 16 then s.railf u 0xC8 0 1 == 1 else s.cfgb 0x1150 (u - 0x40)
def State.capIep (s : State) (u : Nat) : Rat := if u < 16 then (s.rail u).iEp else (s.sw (u - 0x40)).iEp
def State.setCapLim (s : State) (u : Nat) (l : Option Nat) : State :=
  if u < 16 then s.modRail u fun r => { r with capLim := l } else s.modSw (u - 0x40) fun c => { c with capLim := l }

/-- R270. -/
def State.reducible (s : State) (u : Nat) : Bool :=
  s.unitOn u && s.capEn u && s.capCls u != .s && s.capImin u < (s.capLimOf u).getD (s.uncapped u)

/-- The new limit of R271, mA. -/
def State.reducedLim (s : State) (u : Nat) : Nat :=
  let l : Rat := (s.capLimOf u).getD (s.uncapped u)
  let q : Rat := (1 - (s.cfgf 0x1104 8 8 : Rat) / 100) * min l (max 0 (s.capIep u))
  max (s.capImin u) (roundN 52 q)

/-- CAP_REDUCE (R271, R273). -/
def execCapReduce (s : State) : Host.Outcome State Fault Refusal :=
  if !s.cap.redDue || s.brake.inFloor then .next s
  else
    let s := { s with cap.redDue := false }
    let of (k : Cls) : List Nat := s.capLoads.filter fun u => s.capCls u == k && s.reducible u
    let (cls, l) := if (of .c).isEmpty then (1, of .e) else (0, of .c)
    if l.isEmpty then
      if s.cap.unmet then .next s
      else
        let s := { s with cap.unmet := true }.emit 0x0F05 13
          [i32 (roundQ 53 s.cap.pAvg), s.pCap, i32 (roundQ 54 (10 * s.cap.x)), s.epochNo]
        .next s.capStage
    else
      let lims := l.map fun u => (u, s.reducedLim u)
      let atMin := (lims.filter fun p => p.2 = s.capImin p.1).length
      let s := lims.foldl (fun s p => s.setCapLim p.1 (some p.2)) s
      let s := { s with cap.redCls := cls, cap.unmet := false }
      .next (s.emit 0x0F03 13 [cls, l.length, atMin, s.epochNo]).capStage

/-- CAP_RAISE (R276). -/
def execCapRaise (s : State) : Host.Outcome State Fault Refusal :=
  if !s.cap.raiseDue || s.brake.inFloor then .next s
  else
    let s := { s with cap.raiseDue := false }
    let of (k : Cls) : List Nat := s.capLoads.filter fun u => s.capCls u == k && (s.capLimOf u).isSome
    let (cls, l) := if (of .e).isEmpty then (0, of .c) else (1, of .e)
    if l.isEmpty then .next s
    else
      let up (u : Nat) : Nat :=
        (s.capLimOf u).getD 0 + roundN 55 ((s.cfgf 0x1104 8 8 : Rat) * s.uncapped u / 100)
      let lims := l.map fun u => (u, if s.uncapped u ≤ up u then none else some (up u))
      let gone := (lims.filter fun p => p.2 = none).length
      let s := lims.foldl (fun s p => s.setCapLim p.1 p.2) s
      .next (s.emit 0x0F04 13 [cls, l.length, gone, s.epochNo]).capStage

/-- A change of the host or the leader cap, with its record (R266). -/
def State.changeCap (s : State) (lead : Bool) (mw : Nat) : State :=
  let old := if lead then s.cap.leader else s.cap.host
  let s := if lead then { s with cap.leader := mw } else { s with cap.host := mw }
  if old = mw then s else s.emit 0x0F01 13 [if lead then 1 else 0, old, mw, s.pCap]

/-- CAP_SET (R264). -/
def execCapSet (slot : Nat) (s : State) : Host.Outcome State Fault Refusal :=
  .next (s.applyDesc 0x0801 slot (fun _ => some fRAIL) fun d s =>
    let mw := descField d 24 4
    if mw ≠ 0 ∧ mw < 100000 then s.reject slot stBADPARAM 1
    else
      let s := s.changeCap false mw
      s.complete slot stDONE s.pCap)

/-! ### The temperature sensor (R281–R283) -/

/-- The frame's reading. -/
def State.tsense (s : State) : State :=
  let raw := s.smp.tdie
  let c := s.cap
  let ok : Bool := decide (-880 ≤ raw) && decide (raw ≤ 2800)
  let near (a : Int) : Bool := decide ((raw - a).natAbs ≤ 80)
  let s := { s with cap.tRaw := raw, cap.tPrevRaw := raw }
  if c.sensor = 2 then
    let v := ok && near c.tPrevRaw
    let all := (if s.clk.pos = 0 then true else c.recOk) && v
    { s with cap.recOk := all, cap.recRun := if !v then 0 else if s.clk.pos = 99 && all then c.recRun + 1 else c.recRun }
  else
    let v := ok && (match c.tLast with | some a => near a | none => true)
    let use : Option Int := if v then some raw else c.tLast
    { s with
      cap.sensor := if v then 0 else 1
      cap.tLast := use
      cap.tUse := use
      cap.invRun := if v then 0 else c.invRun + 1
      cap.tSum := c.tSum + use.getD 0
      cap.tN := if use.isSome then c.tN + 1 else c.tN }

/-- TSENSE_FAILED (R282). -/
def execTsenseFailed (s : State) : Host.Outcome State Fault Refusal :=
  let c := s.cap
  if c.sensor ≠ 2 ∧ 100 ≤ c.invRun then
    let s := s.emit 0x0F07 13 [c.sensor, 2, i32 (c.tLast.getD (-32768)), i32 c.tRaw]
    .next { s with cap.sensor := 2, cap.tUse := none, cap.tEpoch := none, cap.recRun := 0, cap.recOk := false }
  else .next s

/-- TSENSE_RECOVER (R283). -/
def execTsenseRecover (s : State) : Host.Outcome State Fault Refusal :=
  let c := s.cap
  if c.sensor = 2 ∧ 10 ≤ c.recRun then
    let s := s.emit 0x0F07 13 [2, 0, i32 c.tRaw, i32 c.tRaw]
    .next { s with
      cap.sensor := 0, cap.tLast := some c.tRaw, cap.tUse := some c.tRaw, cap.invRun := 0, cap.recRun := 0
      cap.tSum := c.tRaw, cap.tN := 1 }
  else .next s

/-! ### Derating and compensation at the epoch boundary (R284–R290) -/

/-- The epoch average of the temperatures in use. -/
def State.tdieAverage (s : State) : State :=
  let c := s.cap
  { s with
    cap.tEpoch := if c.sensor = 2 ∨ c.tN = 0 then none else some (roundQ 56 ((c.tSum : Rat) / c.tN))
    cap.tSum := 0
    cap.tN := 0 }

/-- The factor's value for a temperature in °C, before its rate limit. -/
def State.derateFor (s : State) (t : Rat) : Rat :=
  let lo : Rat := (s.cfgf 0x1110 16 8 : Rat) / 100
  let thr : Rat := s.cfgf 0x1110 0 8
  let lim : Rat := s.cfgf 0x1110 8 8
  if lim ≤ thr then 1 else clampQ lo 1 (1 - (1 - lo) * (t - thr) / (lim - thr))

/-- THERM_DERATE (R284, R285, R287). -/
def State.derate (s : State) : State :=
  if s.brake.inFloor then s
  else
    let t := s.tdieEpoch
    let f := min (s.derateFor ((t : Rat) / 16)) (s.cap.f + 1 / 50)
    let old := s.cap.f
    let therm := if f < 1 then roundN 57 ((s.cfgv 0x110C : Rat) * f) else 0
    let say : Bool := (old == 1 && f != 1) || (old != 1 && f == 1) || decide (1 / 10 ≤ |f - s.cap.fRec|)
    let s := { s with cap.f := f, cap.thermal := therm }
    if say then
      { s with cap.fRec := f }.emit 0x0F06 13 [roundN 58 (100 * old), roundN 58 (100 * f), i32 t, s.epochNo]
    else s

/-- COMPENSATION_REFRESH (R288–R290): the ADC reference moves by at most 0.02 % at once; every correction is held in HOLD
and FAILED. -/
def State.compensate (s : State) : State :=
  match s.cap.tEpoch with
  | some t =>
    if s.cap.sensor ≠ 0 then { s with cap.compHold := true }
    else
      let c (k : Nat) : Rat :=
        let want := Config.compCorrection k t
        let was := s.cap.corr.getD k 0
        if k = 3 then clampQ (was - 1 / 5000) (was + 1 / 5000) want else want
      { s with cap.corr := (List.range 4).map c, cap.compValid := true, cap.compHold := false, cap.tComp := t }
  | none => { s with cap.compHold := true }

end Sys2Proof.Machine
end

