-- ==== Sys2Proof/Machine/Seq.lean ====
section
/-! DEFINITION. Sequencer, SYNC, supervision outputs and push-button: the rows (spec/10), and step 4's work in a frame. -/

namespace Sys2Proof.Machine

/-! ### Steps -/

/-- STEP_QUALIFIED (R385, R386, R390). -/
def execStepQualified (s : State) : Host.Outcome State Fault Refusal :=
  .next (if s.stepMet && !s.floorNow then s.seqAdvance else s)

/-- STEP_TIMEOUT (R387, R388, R394). -/
def execStepTimeout (s : State) : Host.Outcome State Fault Refusal :=
  if s.stepLate && !s.floorNow then
    let down := s.seq.down
    let s := s.stepFail 1
    .next (if down then s.seqAdvance else s)
  else .next s

/-! ### SYNC (R398–R405) -/

/-- A participant that is not ready pulls SYNC low. -/
def State.syncClaim (s : State) : State :=
  { s with seq.syncDriving := s.participant && !s.syncReady, seq.syncGap := false }

/-- SYNC_RELEASE. -/
def execSyncRelease (s : State) : Host.Outcome State Fault Refusal :=
  .next (if s.seq.syncDriving && s.syncReady && !s.seq.homePulse && !s.seq.abortBurst then
    { s with seq.syncDriving := false, seq.syncGap := false } else s)

/-- SYNC_REFRESH: a holding participant lets go; R401 keeps it released until the line rises. -/
def execSyncRefresh (s : State) : Host.Outcome State Fault Refusal :=
  .next (if s.seq.syncDriving && !s.syncReady then { s with seq.syncDriving := false, seq.syncGap := true } else s)

/-- HOLD_SEGMENT_END (R401, R402): a low of at most 150 µs has ended; a holding participant pulls low again. -/
def execHoldSegmentEnd (lowUs : Nat) (s : State) : Host.Outcome State Fault Refusal :=
  if lowUs ≤ 150 then
    let s := { s with seq.syncHoldSeen := true }
    .next (if s.seq.syncGap then s.syncClaim else s)
  else .next s

/-- SYNC_ADVANCE (R400, R404): the line has been high for 20 µs after a hold segment; every participant claims. -/
def execSyncAdvance (s : State) : Host.Outcome State Fault Refusal :=
  if s.seq.syncHoldSeen && !s.seq.syncDriving then
    let s := { s with seq.syncHoldSeen := false, seq.syncEvent := 1 }
    let s := { s with
      seq.syncAdvFirst := if s.seq.syncAdv = 0 then s.clk.devTime else s.seq.syncAdvFirst
      seq.syncAdv := s.seq.syncAdv + 1 }
    let s := if s.seq.syncCount = 31 then s.emit 0x0504 10 [5, 31]
      else { s with seq.syncCount := s.seq.syncCount + 1 }
    .next { s with seq.syncDriving := s.participant, seq.syncGap := false }
  else .next s

/-- SYNC_HOME (R402). -/
def execSyncHome (lowUs : Nat) (s : State) : Host.Outcome State Fault Refusal :=
  if 200 ≤ lowUs ∧ lowUs ≤ 1000 then
    let s := { s with seq.syncCount := 0, seq.syncEvent := 2, seq.syncHoldSeen := false }
    .next (s.emit 0x0504 10 [2, 0, lowUs])
  else .next s

/-- SYNC_INVALID (R402). -/
def execSyncInvalid (lowUs : Nat) (s : State) : Host.Outcome State Fault Refusal :=
  if (150 < lowUs ∧ lowUs < 200) ∨ (1000 < lowUs ∧ lowUs < 2000) then
    .next ({ s with seq.syncEvent := 4, seq.syncHoldSeen := false }.emit 0x0504 10 [4, s.seq.syncCount, lowUs])
  else .next s

/-- SYNC_ABORT_BURST (R397, R402): acted on at 2,000 µs of low. -/
def execSyncAbortBurst (s : State) : Host.Outcome State Fault Refusal :=
  let s := s.emit 0x0504 10 [3, s.seq.syncCount, 2000]
  let s := { s with
    seq.syncCount := 0, seq.syncEvent := 3, seq.syncHoldSeen := false, seq.abortBurst := false, seq.abortSrc := true }
  let s := if s.brake.inFloor then s else (s.offSequence 2).1
  .next s.syncClaim

/-- HOME_PULSE_END (R403). -/
def execHomePulseEnd (s : State) : Host.Outcome State Fault Refusal :=
  if s.seq.homePulse then
    .next ({ s with seq.homePulse := false, seq.homeDone := true, seq.syncCount := 0, seq.syncEvent := 2 }.syncClaim)
  else .next s

/-! ### Outputs and inputs -/

/-- PGOOD_RELEASE (R408): every condition has held for PG_DELAY epochs. -/
def execPgoodRelease (s : State) : Host.Outcome State Fault Refusal :=
  .next (if !s.seq.pgood && s.pgoodCond && decide (100 * s.cfgf 0x5028 8 8 ≤ s.seq.pgRun) then
    (s.setPgood true).resetOuts else s)

/-- MR_N_ASSERT (R414). -/
def execMrNAssert (s : State) : Host.Outcome State Fault Refusal :=
  if s.seq.mrSource = false ∧ 100 ≤ s.seq.mrLow then
    let s := { s with seq.mrSource := true, seq.mrSince := s.clk.tick }
    .next (s.emit 0x0508 10 [1, s.cfgf 0x5040 0 4, 0]).resetOuts
  else .next s

/-- MR_N_END (R414). -/
def execMrNEnd (s : State) : Host.Outcome State Fault Refusal :=
  if s.seq.mrSource = true ∧ 100 + framesMs (s.cfgf 0x5040 16 16) ≤ s.seq.mrHigh then
    let s := { s with seq.mrSource := false }
    .next (s.emit 0x0508 10 [2, s.cfgf 0x5040 0 4, (s.clk.tick - s.seq.mrSince) / 100]).resetOuts
  else .next s

/-- Whether the device sleeps, where MR_N and PB_N are ignored (R417). -/
def State.asleep (s : State) : Bool := s.sys.hib == .asleep

/-- PB_PRESS (R415). -/
def execPbPress (ms : Nat) (s : State) : Host.Outcome State Fault Refusal :=
  if s.asleep = false ∧ 16 ≤ ms ∧ ms < 1000 * s.cfgf 0x5048 4 4 then
    .next ({ s with seq.presses := satInc 16 s.seq.presses, seq.pbPressed := false }.emit 0x0509 10 [1, ms, 0xFF])
  else .next s

/-- LONG_PRESS (R397, R416, R417): in the safe floor the Brake turns the floor rails and switches off. -/
def execLongPress (ms : Nat) (s : State) : Host.Outcome State Fault Refusal :=
  if s.asleep = false ∧ s.cfgb 0x5048 0 = true ∧ 1000 * s.cfgf 0x5048 4 4 ≤ ms then
    let s := { s with seq.forcedOff := true, seq.abortSrc := true }
    let (s, p) := if s.brake.inFloor then
        let s := s.each s.railIdx fun s n => s.turnOff n 0
        (s.each s.swIdx fun s n => s.swTurnOff n 0, 0xFF)
      else s.offSequence 3
    .next (s.emit 0x0509 10 [2, ms, p])
  else .next s

/-- RESET_PULSE_END (R623): the pulse of a slot has run its width. -/
def execResetPulseEnd (slot : Nat) (s : State) : Host.Outcome State Fault Refusal :=
  match s.seq.pulses.find? fun p => p.1 == slot && decide (p.2.2 ≤ s.clk.tick) with
  | some p =>
    let s := { s with seq.pulses := s.seq.pulses.filter fun q => q.1 != slot }
    .next (s.complete slot stDONE p.2.1.toNat).resetOuts
  | none => .next s

/-! ### Commands (class 0x04) -/

/-- SEQ_RUN's own part (R384, R391, R616). -/
def State.seqRunOp (s : State) (k : Nat) (d : RawDesc) : State :=
  let p := descIndex d
  let rid := descField d 24 2
  match s.repeatOf 0x0401 rid p with
  | some r => s.completeRepeat k r
  | none =>
    if !s.progExists p then s.reject k stBADPARAM 1
    else if s.seqBusyDown then s.reject k stBADPARAM 3
    else
      let s := { s with seq.forcedOff := false }
      ((s.seqRequest p 0 (some k)).hold k).keepRun 0x0401 rid p k

/-- SEQ_RUN. -/
def execSeqRun (slot : Nat) (s : State) : Host.Outcome State Fault Refusal :=
  .next (s.applyDesc 0x0401 slot (fun _ => some fSEQ) fun d s => s.seqRunOp slot d)

/-- SEQ_ABORT (R392). -/
def execSeqAbort (slot : Nat) (s : State) : Host.Outcome State Fault Refusal :=
  .next (s.applyDesc 0x0402 slot (fun _ => some fSEQ) fun _ s =>
    if s.seqBusyDown then s.reject slot stBADPARAM 3
    else
      let p := match s.seq.start with
        | some (p, _, _, _) => p
        | none => if s.seq.running then s.seq.prog else 0xFF
      s.seqStop.complete slot stDONE p)

/-- SEQ_RESET_PULSE's own part (R412, R616, R623). -/
def State.seqPulseOp (s : State) (k : Nat) (d : RawDesc) : State :=
  let mask := descField d 24 1 % 16
  let width := descField d 26 2
  let rid := descField d 28 2
  match s.repeatOf 0x0403 rid 0 with
  | some r => s.completeRepeat k r
  | none =>
    if mask = 0 ∨ width = 0 ∨ 10000 < width then s.reject k stBADPARAM 1
    else
      let s := { s with seq.pulses := s.seq.pulses ++ [(k, BitVec.ofNat 4 mask, s.clk.tick + framesMs width)] }
      ((s.hold k).keepRun 0x0403 rid 0 k).resetOuts

/-- SEQ_RESET_PULSE. -/
def execSeqResetPulse (slot : Nat) (s : State) : Host.Outcome State Fault Refusal :=
  .next (s.applyDesc 0x0403 slot (fun _ => some fSEQ) fun d s => s.seqPulseOp slot d)

/-- SEQ_FAULT_ACK (R411). -/
def execSeqFaultAck (slot : Nat) (s : State) : Host.Outcome State Fault Refusal :=
  .next (s.applyDesc 0x0404 slot (fun _ => some fSEQ) fun _ s =>
    let cleared := (if s.seq.failSrc then 16 else 0) + (if s.seq.abortSrc then 256 else 0)
    ({ s with seq.failSrc := false, seq.abortSrc := false }).complete slot stDONE cleared)

/-! ### Step 4 of the frame order (R63) -/

/-- The inputs' runs, OFF_OWN, pre-arming and PGOOD's run; the outputs follow as the frame ends. A frame that has found a floor cause
does none of the engine's part (R65). -/
def State.seqFrame (s : State) : State :=
  let s := { s with
    seq.mrLow := if s.smp.mrHigh then 0 else s.seq.mrLow + 1
    seq.mrHigh := if s.smp.mrHigh then s.seq.mrHigh + 1 else 0
    seq.pbPressed := !s.smp.pbHigh
    seq.syncLine := s.smp.syncHigh }
  if s.floorNow then s
  else
    let s := s.progStart
    let s := if s.seq.stepFailed && decide (s.seq.stepTick < s.clk.tick) then s.seqAdvance else s
    let s := if s.seq.offOwn.isEmpty then s else s.offOwnOne s.seq.offOwn
    let s := s.prearmStep
    { s with seq.pgRun := if s.pgoodCond then s.seq.pgRun + 1 else 0 }

end Sys2Proof.Machine
end

