-- ==== Sys2Proof/Machine/GaugeCore.lean ====
section
/-! DEFINITION. The end of a maintenance activity (R753), and the battery gauge's shared operations (spec/12): the
reported state of charge, learning, the NV slots, and E12's work in a frame and at an epoch boundary. -/

namespace Sys2Proof.Machine

/-! ### Ending an activity (R752, R753) -/

def State.maintOn (s : State) (c : Nat) : Bool := s.maint.running.getLsbD c

/-- An activity ends: 0 completed, 1 stopped, 2 failed; its MAINT_STOP completes. It still counts for starts of this frame
(R762). -/
def State.maintEnd (s : State) (c outcome detail : Nat) : State :=
  if !s.maintOn c then s
  else
    let run := (s.clk.tick - s.maint.startTick.getD c 0) / 100
    let stops := (s.maint.stopSlots.filter (·.1 = c)).map (·.2)
    let s := { s with
      maint.ending := if s.maint.endTick = s.clk.tick then setBit s.maint.ending c else setBit 0 c
      maint.endTick := s.clk.tick
      maint.running := clearBit s.maint.running c
      maint.lastCode := c
      maint.lastOut := outcome
      maint.stopSlots := s.maint.stopSlots.filter (·.1 ≠ c) }
    (s.emit 0x0D02 15 [c, outcome, run, detail]).completeAll stops stDONE 1

/-! ### State of charge (R477) -/

/-- The gauge counts: it exists and has come up (R497). -/
def State.gaugeOn (s : State) : Bool := s.sys.variant.hasPath && s.gauge.st != .init
/-- SOC_COUNT, 0.01 %. -/
def State.socCount (s : State) : Rat := 10000 * s.gauge.qRem / s.gauge.qFull
/-- Whether the count's row of R477 at 1.00 % governs. -/
def State.holdsOne (s : State) : Bool := s.gauge.socValid && !s.gauge.emptyV && decide (s.socCount ≤ 100)
/-- The reported state of charge, 0.01 %. -/
def State.soc (s : State) : Nat :=
  if !s.gauge.socValid then 0xFFFF
  else if s.gauge.emptyV then 0
  else if s.holdsOne then 100
  else if s.gauge.fullDecl then min (roundN 70 s.socCount) 10000
  else min (roundN 70 s.socCount) 9900
/-- The usable charge above the reserve, µAh (R481). -/
def State.usableCharge (s : State) : Rat :=
  let q := s.gauge.qRem - (s.cfgf 0x6018 0 8 : Rat) / 100 * s.gauge.qFull
  if q < 0 then 0 else q
/-- The hold-up estimate in ms (R438): unknown while GAUGE is not ready or SOC_VALID is clear, and where nothing is
drawn. -/
def State.holdEstimate (s : State) : Option Rat :=
  if !s.isReady fGAUGE || !s.gauge.socValid || decide (0 ≤ s.path.batMa) then none
  else some (s.usableCharge * 3600 / (-s.path.batMa))
/-- NTC_INVALID as the gauge sees it. -/
def State.tempBad (s : State) : Bool := s.path.ntc.isNone

/-! ### Impedance table (R491) -/

def socGrid : List Nat :=
  [0, 667, 1333, 2000, 2667, 3333, 4000, 4667, 5333, 6000, 6667, 7333, 8000, 8667, 9333, 10000]
/-- In 1/16 °C. -/
def tempGrid : List Int := [-480, -240, 0, 160, 320, 480, 720, 960]
/-- Index of the grid point nearest a value; the lower of two equally near. -/
def nearest (x : Rat) : List Rat → Nat → Nat → Rat → Nat
  | [], _, best, _ => best
  | g :: gs, i, best, d => if |x - g| < d then nearest x gs (i + 1) i |x - g| else nearest x gs (i + 1) best d
/-- Cell of the present state of charge and a temperature. -/
def State.zCell (s : State) (t : Int) : Nat :=
  16 * nearest t (tempGrid.map (fun (g : Int) => (g : Rat))) 0 0 100000 +
    nearest s.socCount (socGrid.map (fun (g : Nat) => (g : Rat))) 0 0 (10 ^ 12)
/-- R_tab in µΩ: the cell, or R_DEF where it is 0 or no temperature picks one. -/
def State.rTab (s : State) : Nat :=
  match s.path.ntc with
  | none => s.cfgf 0x6814 16 16
  | some t => let z := s.gauge.ztab.getD (s.zCell t) 0; if z = 0 then s.cfgf 0x6814 16 16 else z

/-! ### Open-circuit table (R482, R483) -/

/-- Grid point `i` of the OCV table, mV. -/
def State.ocvMv (s : State) (i : Nat) : Nat := s.cfgf (0x6818 + 4 * (i / 2)) (16 * (i % 2)) 16
/-- OCV_BAD. -/
def State.ocvBad (s : State) : Bool := (List.range 15).any fun i => decide (s.ocvMv (i + 1) ≤ s.ocvMv i)
/-- The segment that contains a reading. -/
def State.ocvSegment (s : State) (v : Rat) : Option Nat :=
  (List.range 15).find? fun i => decide ((s.ocvMv i : Rat) ≤ v) && decide (v ≤ s.ocvMv (i + 1))
/-- SOC_OCV by linear interpolation, 0.01 %. -/
def State.ocvSoc (s : State) (v : Rat) (i : Nat) : Rat :=
  let a : Rat := socGrid.getD i 0
  let b : Rat := socGrid.getD (i + 1) 0
  a + (b - a) * (v - s.ocvMv i) / ((s.ocvMv (i + 1) : Rat) - s.ocvMv i)

/-! ### NV slots (R492–R496) -/

/-- The slot's 512 bytes (R492). -/
def gaugeSlotBytes (g : GSlot) : List Byte :=
  let b (x : Bool) (i : Nat) : Nat := if x then 2 ^ i else 0
  let body : List Byte :=
    [0x50#8, 0x5A#8, 0x47#8, 0x53#8] ++ leBytes 2 1 ++ leBytes 2 512 ++ leBytes 4 g.seq.toNat ++ leBytes 4 (i32 g.qFull) ++
    leBytes 4 (i32 g.qDesign) ++ leBytes 4 (i32 g.qRem) ++ leBytes 2 g.soc ++ leBytes 2 g.cycles ++
    leBytes 4 (i32 g.dischg) ++ leBytes 4 g.learnCount ++
    leBytes 2 (b g.learned 0 + b g.socValid 1 + b g.disagree 2 + b g.emptyV 3) ++ leBytes 2 (twos 16 g.tWrite) ++
    leBytes 8 g.timeWrite ++ List.replicate 16 0 ++ g.ztab.flatMap (leBytes 2) ++ List.replicate 188 0
  body ++ leBytes 4 (crc32c body).toNat

/-- Whether `a` is newer than `b` by serial comparison (R17). -/
def serialNewer (a b : BitVec 32) : Bool := a != b && decide ((a - b).toNat < 2 ^ 31)
/-- The newest valid slot: `true` is B. -/
def State.newestSlot (s : State) : Option Bool :=
  match s.gauge.slotA, s.gauge.slotB with
  | none, none => none
  | some _, none => some false
  | none, some _ => some true
  | some a, some b => some (serialNewer b.seq a.seq)
def State.nvSlot (s : State) (b : Bool) : Option GSlot := if b then s.gauge.slotB else s.gauge.slotA
/-- The working state in the slot's format (R493), with the SLOT_SEQ a write gives it (R495). -/
def State.gaugeImage (s : State) : GSlot :=
  let g := s.gauge
  let seq : BitVec 32 := match s.newestSlot with
    | none => 0
    | some b => ((s.nvSlot b).map (·.seq)).getD 0 + 1
  { seq := seq, qFull := g.qFull, qDesign := s.cfgv 0x6800, qRem := roundQ 71 g.qRem, soc := s.soc,
    cycles := g.cycles % 65536, dischg := roundQ 72 g.dischg, learnCount := g.learnCount, learned := g.learned,
    socValid := g.socValid, disagree := g.disagree, emptyV := g.emptyV, tWrite := s.path.ntc.getD (-32768),
    timeWrite := s.clk.devTime, ztab := g.ztab }
/-- Starts a write with a trigger code: into the slot that is not the newest, or an invalid one. -/
def State.nvStart (s : State) (trig : Nat) : State :=
  let b := match s.newestSlot with | none => false | some b => !b
  { s with gauge.writing := some (b, trig, s.gaugeImage) }
/-- A trigger of R494; one that comes while a write runs causes one further write. -/
def State.nvTrigger (s : State) (trig : Nat) : State :=
  if s.gauge.writing.isSome then { s with gauge.again := some (s.gauge.again.getD trig) } else s.nvStart trig
/-- RESULT of GAUGE_SAVE: LAST_RESULT and the slot. -/
def saveResult (last slot : Nat) : Nat := last + 256 * slot
/-- The write of VAON loss (R496): once staging is flushed, with 10 ms of the 40 ms left; else skipped. -/
def State.nvShutdown (s : State) (flushed : Bool) : State :=
  if !s.gaugeOn then s
  else if flushed && decide (s.clk.devTime + 10000000 ≤ s.sys.vaonLostAt + 40000000) then
    ({ s with gauge.shutWait := false }).nvTrigger 5
  else { s with gauge.shutWait := !flushed, gauge.lastResult := if flushed then 3 else s.gauge.lastResult }

/-! ### Learning (R486, R487) -/

/-- Learning aborts, with its cause; CAP_LEARN fails with it (R753). -/
def State.learnAbort (s : State) (cause : Nat) : State :=
  if s.gauge.learn = .armed then
    let s := { s with gauge.learn := .aborted }
    (s.emit 0x0706 12 [2, roundN 73 s.gauge.qLearn, s.gauge.qFull, cause]).maintEnd 1 2 cause
  else s

/-- HOLD1 follows the row of R477; the count's first reach of 1.00 % is R478. -/
def State.holdUpdate (s : State) : State :=
  let h := s.holdsOne
  let first : Bool := h && !s.gauge.hold1
  let s := { s with gauge.hold1 := h, gauge.disagree := s.gauge.disagree || first }
  if first then s.emit 0x0704 12 [1, i32 (roundQ 74 s.socCount), roundN 75 s.gauge.vComp, roundN 73 s.gauge.qLearn]
  else s

/-- The epoch boundary (R474 to R478, R486). -/
def State.gaugeEpoch (s : State) : State :=
  if !s.gaugeOn then s
  else
    let g := s.gauge
    let d : Rat := (signedOf 48 (twos 48 (g.acc - g.accTaken)) : Rat) / 3600000
    let inn : Rat := if 0 < d then d else 0
    let out : Rat := if d < 0 then -d else 0
    let s := { s with
      gauge.accTaken := g.acc
      gauge.qRem := g.qRem + d
      gauge.dischg := g.dischg + out
      gauge.qLearn := if g.learn == LearnSt.armed then g.qLearn - d else g.qLearn
      gauge.chgSince := g.chgSince + inn
      gauge.emptyIn := g.emptyIn + inn
      gauge.emptyV := g.emptyV && !decide ((g.qFull : Rat) / 100 ≤ g.emptyIn + inn)
      gauge.vEp := if g.vN = 0 then g.vEp else (g.vSum : Rat) / g.vN
      gauge.vSum := 0
      gauge.vN := 0 }
    let s := if (s.gauge.qFull : Rat) ≤ s.gauge.dischg then
        let s := { s with gauge.cycles := s.gauge.cycles + 1, gauge.dischg := s.gauge.dischg - s.gauge.qFull }
        (s.emit 0x0707 12 [s.gauge.cycles % 65536, s.gauge.qFull, 0, 0]).nvTrigger 2
      else s
    let s := if (s.gauge.qFull : Rat) / 100 < s.gauge.chgSince then s.learnAbort 1 else s
    let s := if decide (s.socCount < (9900 : Rat)) then { s with gauge.fullDecl := false } else s
    s.holdUpdate

/-- The frame's work of E12 (R476, R482, R490). -/
def State.gaugeFrame (s : State) : State :=
  if !s.gaugeOn then s
  else
    let g := s.gauge
    let p := s.path
    let v : Rat := p.batMv - (p.batMa : Rat) * s.rTab / 1000000
    let low : Bool := decide (p.batMa.natAbs < s.cfgf 0x6808 0 16)
    let per := [100000, 50000, 20000, 10000, 5000, 2000, 1000, 500, 200, 100].getD g.spF 0
    let sum := g.spSum + p.batMa
    let whole : Bool := decide (per ≤ g.spN + 1)
    let moved : Bool := whole && decide (5 * g.spI0.natAbs * per < 100 * (sum - g.spI0 * per).natAbs)
    let tMoved : Bool := match p.ntc with | none => true | some t => decide (16 < (t - g.spT0).natAbs)
    let conv : Bool := p.conv == .cc || p.conv == .cv
    { s with
      gauge.vComp := v
      gauge.emptyRun := if v ≤ s.cfgf 0x6804 0 16 then g.emptyRun + 1 else 0
      gauge.restRun := if low then g.restRun + 1 else 0
      gauge.restDone := g.restDone && low
      gauge.st := if g.st = .spectro then .spectro else if low then (if g.restDone then .rested else .resting) else .counting
      gauge.vSum := g.vSum + p.batMv
      gauge.vN := g.vN + 1
      gauge.spWait := g.spWait + 1
      gauge.wbWait := g.wbWait + 1
      gauge.spSum := if whole then 0 else sum
      gauge.spN := if whole then 0 else g.spN + 1
      gauge.spBad := g.spBad || (g.st == .spectro && (moved || tMoved || !conv)) }

end Sys2Proof.Machine
end

