-- ==== Sys2Proof/Machine/PathCore.lean ====
section
/-! DEFINITION. The power path's shared operations: battery and converter
states, detection, shedding, the search (spec/11). -/

namespace Sys2Proof.Machine

/-! ### States -/

def BatSt.code : BatSt → Nat
  | .unknown => 0 | .missing => 1 | .detect => 2 | .ready => 3 | .shorted => 4 | .opened => 5 | .isolated => 6
  | .cut => 7 | .hot => 8
def ConvSt.code : ConvSt → Nat
  | .none => 0 | .idle => 1 | .precharge => 2 | .pulse => 3 | .cc => 4 | .cv => 5 | .assist => 6 | .boost => 7
  | .rampDown => 8
def PathSt.code : PathSt → Nat
  | .init => 0 | .feed => 1 | .handover => 2 | .holdup => 3 | .handback => 4 | .noFeed => 5

/-- The converter phase group exists (R421, R424). -/
def State.hasConv (s : State) : Bool := s.phaseIdx.any fun m => (s.phase m).owner == 0x20
/-- HANDOVER, HOLDUP or HANDBACK. -/
def State.inHoldup (s : State) : Bool := s.path.st == .handover || s.path.st == .holdup || s.path.st == .handback

/-- PATH_FAULT's standing bits follow the states (R469); SHORTFALL, CHG_FORCED and NO_HOLDUP are kept. -/
def State.pathFaults (s : State) : State :=
  let f := s.path.fault.toNat
  let b (i : Nat) (c : Bool) : Nat := if c then 2 ^ i else 0
  let ntcBad : Bool := s.path.ntc.isNone && s.path.seenRun != 0
  let v : Nat := (f &&& 352) + b 0 (s.path.bat == .shorted) + b 1 (s.path.bat == .opened) + b 2 (s.path.bat == .hot) +
    b 3 (s.path.bat == .cut) + b 4 (s.path.feedCls == 4) + b 7 ntcBad
  { s with path.fault := BitVec.ofNat 9 v }

/-- The converter's state, with CHG_STATE at a change. -/
def State.convTo (s : State) (c : ConvSt) : State :=
  let c := if s.hasConv then c else .none
  if s.path.conv = c then s
  else { s with path.conv := c }.emit 0x0607 11 [s.path.conv.code, c.code, i32 s.path.batMa, s.path.batMv]

/-- The battery's state, with BAT_STATE at a change. -/
def State.batTo (s : State) (b : BatSt) (cause : Nat) : State :=
  if s.path.bat = b then s
  else
    let old := s.path.bat
    let s := { s with path.bat := b }.emit 0x0606 11 [old.code, b.code, s.path.batMv, cause]
    if old = .ready then (s.learnAbort 2).maintEnd 1 2 0 else s

/-- CHG_V_MAX, CHG_I_MAX in mV and mA. -/
def State.chgVMax (s : State) : Nat := s.cfgf 0x6020 16 16
def State.chgIMax (s : State) : Nat := 100 * s.cfgf 0x6020 0 16

/-- The path stays without supply: NO_FEED with NO_HOLDUP. -/
def State.toNoFeed (s : State) : State :=
  let s := { s with path.st := .noFeed, path.feedGate := false, path.qual := 0 }
  { s with path.fault := setBit s.path.fault 8 }.convTo .idle

/-- The battery leaves service for a state that opens BAT_DISC (R446, R453, R455); a hold-up that it carried ends. -/
def State.batOut (s : State) (b : BatSt) (cause : Nat) : State :=
  let s := s.batTo b cause
  let slots := s.path.detSlots
  let s := { s with path.batDisc := false, path.detStep := 0, path.detSlots := [] }
  let s := s.completeAll slots stDONE b.code
  let s := if s.inHoldup then (if s.path.st = .handback then s.convTo .idle else s.toNoFeed)
    else if s.path.conv = .none then s else s.convTo .idle
  s.pathFaults

/-! ### The search (R464, R465) -/

/-- The conditions of R464. -/
def State.searchOk (s : State) : Bool :=
  s.path.st == .feed && s.path.bat == .ready && !s.brake.inFloor &&
  (s.path.conv == .idle || s.path.conv == .cc || s.path.conv == .cv)

/-- Starts a search with its dwell of the baseline. -/
def State.searchStart (s : State) (maint : Bool) : State :=
  { s with path.searching := true, path.srK := 0, path.srSlotTick := s.clk.tick, path.srMaint := maint }

/-- Ends a search: 0 found, 1 not found, 2 aborted. -/
def State.searchEnd (s : State) (result lim tested : Nat) (sag : Int) : State :=
  if !s.path.searching then s
  else
    let m := s.path.srMaint
    let s := { s with
      path.searching := false, path.srMaint := false, path.inLim := if result = 2 then s.path.inLim else lim }
    let s := s.emit 0x0609 11 [result, s.path.inLim, tested, i32 sag]
    if m then s.maintEnd 7 (if result = 2 then 2 else 0) result else s

/-! ### Detection (R454) -/

/-- Ends detection in a state, completing what waited for it. -/
def State.detEnd (s : State) (b : BatSt) (cause : Nat) : State :=
  if b = .ready then
    let s := s.batTo .ready cause
    let slots := s.path.detSlots
    let s := ({ s with path.detStep := 0, path.detSlots := [] }).convTo .idle
    (s.completeAll slots stDONE 3).pathFaults
  else s.batOut b cause

/-- Step 1, and in FEED step 2 (R454). -/
def State.detStart (s : State) (cause : Nat) : State :=
  let s := (s.batTo .detect cause).pathFaults
  let s := { s with path.batDisc := false, path.detStep := 1 }
  if s.path.batMv < 3000 then s.detEnd .shorted 1
  else if s.chgVMax + 1000 < s.path.batMv then s.detEnd .opened 2
  else
    let s := { s with path.detStep := 2 }
    if s.path.st = .feed ∧ s.hasConv = true ∧ s.brake.inFloor = false then
      { s with path.detTick := s.clk.tick }.convTo .precharge
    else s

/-! ### Shedding (R436–R442) -/

/-- A load's power, mW; a leader stands for its pair (R436). -/
def State.loadPower (s : State) (u : Nat) : Rat :=
  if u < 16 then ((s.pairUnits u).map fun k => (((s.rail k).mv : Rat) * (s.rail k).iout / 1000)).sum
  else ((s.sw (u - 0x40)).srcMv : Rat) * (s.sw (u - 0x40)).ma / 1000

/-- Loads that are on, a pair once, in the order rails before switches and lower indices first. -/
def State.loadsOn (s : State) : List Nat :=
  (s.capLoads).filter fun u => s.unitOn u && !(u < 16 && s.isFollower u)

/-- The largest of a list of loads; at equal power the first. -/
def State.largest (s : State) : List Nat → Option Nat
  | [] => none
  | u :: us => match s.largest us with
    | none => some u
    | some v => if s.loadPower u < s.loadPower v then some v else some u

/-- P_boost in mW. -/
def State.boostPower (s : State) : Rat := 92 / 100 * (s.path.batMv : Rat) * s.cfgf 0x601C 0 16 / 10

/-- Sheds one load (R440). -/
def State.shedOne (s : State) (u : Nat) : State :=
  let s :=
    if u < 16 then
      (s.turnOff u 0x0603).each (s.pairUnits u) fun s k => s.modRail k fun r => { r with shed := true, shedTick := some s.clk.tick }
    else (s.swEnd (u - 0x40) .off 0x0603).modSw (u - 0x40) fun c => { c with shed := true, shedTick := some s.clk.tick }
  ({ s with path.shedOrder := s.path.shedOrder ++ [u] }).seqNotify u false

/-- What the power test of R436 step 2 sheds, in order. `fuel` bounds the number of loads. -/
def State.powerShed (s : State) : Nat → List Nat → List Nat
  | 0, _ => []
  | fuel + 1, on =>
    let sum := (on.map s.loadPower).sum
    if sum ≤ s.boostPower then []
    else
      let of (k : Cls) : List Nat := on.filter fun u => s.capCls u == k
      match (if (of .c).isEmpty then s.largest (of .e) else s.largest (of .c)) with
      | none => []
      | some u => u :: s.powerShed fuel (on.filter (· ≠ u))

/-- Sheds a list with its record (R440), then judges the shortfall (R442). -/
def State.shedAll (s : State) (l : List Nat) (reason : Nat) : State :=
  let s0 := s
  let s := if l.isEmpty then s else
    let s := s.each l fun s u => s.shedOne u
    s.emit 0x0603 11
      [maskOf ((l.filter (· < 16)).flatMap s0.pairUnits), maskOf ((l.filter (0x40 ≤ ·)).map (· - 0x40)), reason,
       roundN 60 (s0.boostPower / 1000)]
  let on := s.loadsOn
  let held := (on.map s.loadPower).sum
  let s := { s with path.pHeld := roundQ 61 (held / 1000) }
  if s.boostPower < held ∧ on.all (fun u => s.capCls u == .s) then
    { s with path.shortfall := true, path.fault := setBit s.path.fault 5 }
  else s

/-- The shedding decision of the hand-over's frame. -/
def State.shedAtLoss (s : State) : State :=
  let on := s.loadsOn
  let c := if s.cfgb 0x6010 8 then on.filter fun u => s.capCls u == .c else []
  let rest := s.powerShed 40 (on.filter fun u => !c.contains u)
  s.shedAll (c ++ rest) (if c.isEmpty then 2 else 1)

/-- The power test repeated in each frame of HANDOVER and HOLDUP (R437). -/
def State.shedAgain (s : State) : State := s.shedAll (s.powerShed 40 s.loadsOn) 2

/-! ### Reaching FEED (R425, R451) -/

/-- The path enters FEED: SHORTFALL, NO_HOLDUP and the reserve clear, and detection that waits for FEED goes on. -/
def State.toFeed (s : State) : State :=
  let s := { s with path.st := .feed, path.shortfall := false, path.reserve := false, path.qual := 0, path.lossPend := none }
  let s := { s with path.fault := s.path.fault &&& 0x0DF#9 }
  let s := s.clearCause 4
  let s := s.convTo .idle
  if s.path.bat = .cut ∨ s.path.bat = .detect then s.detStart 0 else s

end Sys2Proof.Machine
end

