-- ==== Sys2Proof/Machine/Path.lean ====
section
/-! DEFINITION. Feed, backup battery path, charging and the input-current search (spec/11): the rows, and E11's work in a
frame. -/

namespace Sys2Proof.Machine

/-! ### The frame's work -/

/-- FEED's class of a voltage (R426). -/
def State.feedClass (s : State) (mv : Nat) : Nat :=
  if mv < s.cfgf 0x6004 0 16 then 0
  else if mv < s.cfgf 0x6000 0 16 then 1
  else if mv ≤ s.cfgf 0x6000 16 16 then 2
  else if mv ≤ s.cfgf 0x6004 16 16 then 3 else 4

/-- What the sample set shows the path (R426, R447, R453, R456). -/
def State.pathSample (s : State) : State :=
  let x := s.smp
  let p := s.path
  let good : Bool := s.feedClass x.feedMv == 2 && !x.lossFired
  let counts : Bool := p.st == .holdup || p.st == .noFeed
  let s := { s with
    path.feedMv := x.feedMv
    path.busMv := x.busMv
    path.feedMa := x.feedMa
    path.batMv := x.batMv
    path.batMa := x.batMa
    path.ntc := if -640 ≤ x.ntc ∧ x.ntc ≤ 2000 then some x.ntc else none
    path.feedCls := s.feedClass x.feedMv
    path.seenRun := if 0 < x.feedMv ∧ 0 < x.busMv then p.seenRun + 1 else 0
    path.presHigh := if x.batPresHigh then p.presHigh + 1 else 0
    path.presEpochLow := (if s.clk.pos = 0 then true else p.presEpochLow) && !x.batPresHigh
    path.qual := if counts && good then p.qual + 1 else 0
    path.qualRestarts := if counts && !good && p.qual ≠ 0 then p.qualRestarts + 1 else p.qualRestarts
    path.qualFirst := if counts && !good && p.qual ≠ 0 && p.qualRestarts = 0 then s.clk.strobe else p.qualFirst
    path.qualBest := if counts then max p.qualBest (if good then p.qual + 1 else 0) else p.qualBest
    path.resRun := if p.st = PathSt.holdup ∧ x.batMv < s.cfgf 0x6014 0 16 then p.resRun + 1 else 0
    path.cutRun := if p.st = PathSt.holdup ∧ x.batMv < s.cfgf 0x6014 16 16 then p.cutRun + 1 else 0
    path.ovRun := if p.chgOn ∧ p.vCV + 300 < x.batMv then p.ovRun + 1 else 0
    path.pulseWait := p.pulseWait + 1
    path.srWait := p.srWait + 1
    path.chgRun := if p.conv = ConvSt.cc ∨ p.conv = ConvSt.cv then p.chgRun + 1 else p.chgRun }
  let s := if s.clk.pos = 99 then { s with path.presLow := if s.path.presEpochLow then s.path.presLow + 1 else 0 } else s
  let v := s.path.vhold
  { s with
    path.busMin := min s.path.busMin x.busMv
    path.inBand := if s.path.st = PathSt.handover ∧ 99 * v ≤ 100 * x.busMv ∧ 100 * x.busMv ≤ 101 * v then s.path.inBand + 1 else 0 }

/-- The sample set carries a loss (R429, R432): FEED_LOSS is reported, and the hand-over begins or the path goes to
NO_FEED. -/
def State.takeLoss (s : State) : State :=
  match s.path.lossPend with
  | none => s
  | some (cause, mv, t) =>
    let back : Bool := s.path.st == .handback
    let ok := s.path.hoOk
    let s := s.emitHw t 0x0601 11 [cause, s.path.vpre, mv, if ok then 2 else 5]
    let s := if back then s.emit 0x0605 11 [3, s.clk.tick - s.path.lossTick, s.path.vhold] else s
    let s := { s with path.lossPend := none, path.suspended := s.path.chgOn, path.pulseWait := 0 }
    if ok then
      let s := { s with
        path.st := .handover
        path.holdCnt := satInc 32 s.path.holdCnt
        path.hoTick := s.clk.tick
        path.inBand := 0
        path.busMin := s.path.busMv
        path.detStep := if s.path.bat = .detect then 1 else 0 }
      if s.isStandby then s else s.shedAtLoss
    else s.toNoFeed

/-- The battery in service (R455): SHORTED below 3,000 mV, HOT above BAT_T_CUT, detection when it has cooled by 10 °C. -/
def State.batWatch (s : State) : State :=
  let cut : Int := 16 * s.cfgf 0x6018 8 8
  let t := s.path.ntc
  let hot : Bool := match t with | some t => decide (cut < t) | none => false
  let cool : Bool := match t with | some t => decide (t ≤ cut - 160) | none => false
  if s.path.present && hot && s.path.bat != .hot then s.batOut .hot 6
  else if s.path.bat == .hot && cool then s.detStart 6
  else if s.path.bat == .ready && decide (s.path.batMv < 3000) then s.batOut .shorted 1
  else s

/-- R461, with 2 °C of hysteresis. -/
def State.chgSuspend (s : State) : State :=
  let lo : Int := 16 * s.cfgi 0x6024 0 8
  let hi : Int := 16 * s.cfgf 0x6024 8 8
  let h : Int := if s.path.suspended then 32 else 0
  let tBad : Bool := match s.path.ntc with | some t => decide (t < lo + h) || decide (hi - h < t) | none => true
  { s with path.suspended := s.path.chgOn && (s.path.st != .feed || tBad || s.path.bat == .detect ||
      s.path.conv == .pulse || s.path.conv == .precharge) }

/-- Restores one shed load per frame in FEED (R451). -/
def State.restoreOne (s : State) : State :=
  match s.path.restoreQ with
  | [] => s
  | u :: us =>
    let s := { s with path.restoreQ := us }
    if s.path.st != .feed || s.brake.inFloor || s.unitOn u then s
    else if u < 16 then
      (if (s.railOnCause u (s.rail u).onTarget).isNone then (s.turnOn u (s.rail u).onTarget 1).1 else s)
    else if (s.swCheck (u - 0x40)).isNone then s.swTurnOn (u - 0x40) false false
    else s

/-- PATH_GOOD (R428). -/
def State.pathGood (s : State) : Bool :=
  let p := s.path
  ((p.st == .feed || p.st == .handback) && s.cfgf 0x6004 0 16 ≤ p.busMv && p.busMv ≤ s.cfgf 0x6004 16 16) ||
  (p.st == .holdup && !p.shortfall && 98 * p.vhold ≤ 100 * p.busMv && 100 * p.busMv ≤ 102 * p.vhold)

/-- Steps 1 and 3 of the path in a frame. -/
def State.pathStep (s : State) : State :=
  if !s.sys.variant.hasPath then s
  else
    let s := (s.pathSample).takeLoss
    let s := s.batWatch
    let s := if (s.path.st == .handover || s.path.st == .holdup) && !s.isStandby &&
        decide (s.path.hoTick < s.clk.tick) then s.shedAgain else s
    let s := s.chgSuspend
    let s := if s.path.searching && !s.searchOk then s.searchEnd 2 0 0 0 else s
    let s := s.restoreOne.pathFaults
    { s with path.good := s.pathGood }

/-- The zone's own draw from the feed, mA: the feed current less the converter's share. -/
def State.zoneOwn (s : State) : Rat :=
  if s.path.busMv = 0 then s.path.feedMa
  else s.path.feedMa - (s.path.batMa : Rat) * s.path.batMv / s.path.busMv

/-- Stage 3 of E11: the boost target (R430), the charger (R459, R460) and the input limit (R466). -/
def State.pathFrame (s : State) : State :=
  if !s.sys.variant.hasPath then s
  else
    let s := if (s.path.st == .feed || s.path.st == .init) && s.path.lossPend.isNone then
        let v := s.cfgf 0x6010 0 8 * s.path.busMv / 100
        { s with path.vpre := s.path.busMv, path.vhold := max 36000 (min 52000 v) }
      else s
    if s.brake.inFloor || s.isStandby then s
    else
      let run : Bool := s.path.chgOn && !s.path.suspended && s.path.st == .feed && s.path.bat == .ready &&
        (s.path.conv == .idle || s.path.conv == .cc || s.path.conv == .cv)
      let cv : Bool := decide (s.path.vCV ≤ s.path.batMv)
      let s := if run then
          let s := s.convTo (if cv then .cv else .cc)
          match s.path.chgSlot with
          | some k => ({ s with path.chgSlot := none }).complete k stDONE (if cv then 2 else 1)
          | none => s
        else if (s.path.conv == .cc || s.path.conv == .cv) && !s.path.searching then s.convTo .idle else s
      let atL : Bool := s.path.st == .feed && decide ((s.path.inLim : Int) < s.path.feedMa)
      let assist : Bool := s.cfgb 0x6010 11 && s.path.bat == .ready && decide (s.cfgf 0x6014 0 16 < s.path.batMv) &&
        decide ((s.path.inLim : Rat) < s.zoneOwn)
      let s := if atL && assist && s.path.conv != .assist then s.convTo .assist
        else if s.path.conv == .assist && !s.maintOn 1 && !assist then s.convTo .idle else s
      { s with
        path.atLimit := atL
        path.limFirst := if atL && s.path.limFrames = 0 then s.clk.strobe else s.path.limFirst
        path.limFrames := if atL then s.path.limFrames + 1 else s.path.limFrames
        path.asstFrames := if s.path.conv == .assist then s.path.asstFrames + 1 else s.path.asstFrames }

/-! ### Feed loss to hand-back -/

/-- FEED_LOSS (R429, R431, R450): the field die's own part, at once; the sample set carries it to the next frame. -/
def execFeedLoss (cause feedMv t : Nat) (s : State) : Host.Outcome State Fault Refusal :=
  let p := s.path
  let real : Bool := (cause == 1 && decide (feedMv < s.cfgf 0x6004 0 16)) || cause == 2 ||
    (cause == 3 && decide (s.cfgf 0x6004 16 16 < feedMv))
  if s.sys.variant.hasPath && (p.st == .feed || p.st == .handback) && p.lossPend.isNone && real then
    let ok : Bool := s.hasConv && (p.bat == .ready || (p.bat == .detect && p.detStep == 4)) && p.batDisc
    let s := s.searchEnd 2 0 0 0
    let s := s.maintEnd 1 2 0
    let s := if s.path.conv = .boost ∨ s.path.conv = .rampDown then s else s.convTo .idle
    .next { s with
      path.lossPend := some (cause, feedMv, t), path.feedGate := false, path.hoOk := ok, path.lossTick := s.clk.tick
      gauge.spBad := true }
  else .next s

/-- CONVERTER_BOOST (R431). -/
def execConverterBoost (s : State) : Host.Outcome State Fault Refusal :=
  .next (if s.path.hoOk && (s.path.lossPend.isSome || s.path.st == .handover) then s.convTo .boost else s)

/-- HANDOVER_END (R433). -/
def execHandoverEnd (s : State) : Host.Outcome State Fault Refusal :=
  let p := s.path
  let steady : Bool := decide (10 ≤ p.inBand)
  if p.st = .handover ∧ (steady = true ∨ p.lossTick + 200 ≤ s.clk.tick) then
    let s := s.emit 0x0602 11
      [if steady then 0 else 1, s.clk.tick - p.lossTick, p.busMin, p.pHeld.toNat]
    let s := { s with path.st := .holdup, path.qual := 0, path.resRun := 0, path.cutRun := 0 }
    .next (if steady then s else { s with path.shortfall := true, path.fault := setBit s.path.fault 5 })
  else .next s

/-- FEED_QUALIFIED (R448). -/
def execFeedQualified (s : State) : Host.Outcome State Fault Refusal :=
  if framesMs (s.cfgf 0x6008 0 16) ≤ s.path.qual then
    match s.path.st with
    | .noFeed => .next ({ s with path.feedGate := true }.toFeed).pathFaults
    | .holdup =>
      let s := { s with path.feedGate := true, path.st := .handback, path.hbTick := s.clk.tick, path.qual := 0 }
      .next ((s.emit 0x0605 11 [1, s.clk.tick - s.path.lossTick, s.path.vhold]).convTo .rampDown)
    | _ => .next s
  else .next s

/-- HANDBACK_END (R449, R451). -/
def execHandbackEnd (s : State) : Host.Outcome State Fault Refusal :=
  let p := s.path
  if p.st = .handback ∧ p.lossPend = none ∧ p.hbTick + framesMs (s.cfgf 0x6008 24 8) ≤ s.clk.tick then
    let s := s.emit 0x0605 11 [2, s.clk.tick - p.lossTick, p.vhold]
    let rev := p.shedOrder.reverse
    let q := (rev.filter fun u => s.capCls u == .e) ++ (rev.filter fun u => s.capCls u != .e)
    let s := s.each s.railIdx fun s n => s.modRail n fun r => { r with shed := false }
    let s := s.each s.swIdx fun s n => s.modSw n fun c => { c with shed := false }
    let s := { s with path.shedOrder := [], path.restoreQ := if s.cfgb 0x6010 9 then q else [] }
    let s := s.toFeed
    .next (if s.cfgb 0x6010 10 && s.searchOk && !s.path.searching then s.searchStart false else s).pathFaults
  else .next s

/-- RESERVE_REACHED (R443). -/
def execReserveReached (s : State) : Host.Outcome State Fault Refusal :=
  let p := s.path
  let soc := s.cfgf 0x6018 0 8
  let low : Bool := decide (100 ≤ p.resRun) || (s.isReady fGAUGE && s.gauge.socValid && decide (s.soc < 100 * soc))
  if p.st = .holdup ∧ p.reserve = false ∧ low = true then
    let s := s.emit 0x060B 11 [p.batMv, s.soc / 100, s.clk.tick - p.hoTick]
    .next ({ s with path.reserve := true }.floorCause 4)
  else .next s

/-- BAT_CUTOFF (R446). -/
def execBatCutoff (s : State) : Host.Outcome State Fault Refusal :=
  if s.path.st = .holdup ∧ 10 ≤ s.path.cutRun then
    let s := s.emit 0x060C 11 [s.path.batMv, s.clk.tick - s.path.hoTick]
    .next (s.batOut .cut 8)
  else .next s

/-! ### Battery presence and detection -/

/-- BAT_PRESENT (R453, R454). -/
def execBatPresent (s : State) : Host.Outcome State Fault Refusal :=
  if s.sys.variant.hasPath && !s.path.present && decide (1 ≤ s.path.presLow) then
    let s := if s.gauge.wasMissing then { s with gauge.socValid := false, gauge.hold1 := false, gauge.wasMissing := false } else s
    .next ({ s with path.present := true }.detStart 5)
  else .next s

/-- BAT_MISSING (R453). -/
def execBatMissing (s : State) : Host.Outcome State Fault Refusal :=
  if s.sys.variant.hasPath && s.path.bat != .missing && decide (10 ≤ s.path.presHigh) then
    .next ({ s with path.present := false, path.presLow := 0, gauge.wasMissing := true }.batOut .missing 5)
  else .next s

/-- PRECHARGE_END (R454 steps 2 to 4). -/
def execPrechargeEnd (reached : Bool) (s : State) : Host.Outcome State Fault Refusal :=
  let p := s.path
  if p.detStep = 2 ∧ p.conv = .precharge then
    if reached then
      let s := { s with path.batDisc := true, path.detStep := 4, path.detTick := s.clk.tick, path.detMv := s.path.batMv }
      .next (s.convTo .pulse)
    else if p.detTick + framesMs (s.cfgf 0x6018 24 8) ≤ s.clk.tick then .next (s.detEnd .shorted 3)
    else .next s
  else .next s

/-- DETECTION_PULSE_END (R454 step 4, R455). -/
def execDetectionPulseEnd (s : State) : Host.Outcome State Fault Refusal :=
  let p := s.path
  if (p.detStep = 4 ∨ p.detStep = 5) ∧ p.conv = .pulse ∧ p.detTick + 1000 ≤ s.clk.tick then
    .next (if p.detMv + 500 < p.batMv then s.detEnd .opened 4 else s.detEnd .ready 4)
  else .next s

/-- PERIODIC_PULSE (R455). -/
def execPeriodicPulse (s : State) : Host.Outcome State Fault Refusal :=
  let p := s.path
  let per := s.cfgf 0x6018 16 8
  if per ≠ 0 ∧ framesS per ≤ p.pulseWait ∧ p.st = .feed ∧ p.bat = .ready ∧ p.conv = .idle ∧ s.brake.inFloor = false ∧
      p.searching = false then
    let s := { s with path.pulseWait := 0, path.detStep := 5, path.detTick := s.clk.tick, path.detMv := p.batMv }
    .next (s.convTo .pulse)
  else .next s

/-! ### Charging -/

/-- A CHG_START that waits for regulation ends with an outcome. -/
def State.chgSlotEnd (s : State) (status result : Nat) : State :=
  match s.path.chgSlot with
  | some k => ({ s with path.chgSlot := none }).complete k status result
  | none => s

/-- CHG_FORCED_STOP (R462). -/
def execChgForcedStop (s : State) : Host.Outcome State Fault Refusal :=
  let p := s.path
  let tmax := s.cfgf 0x6024 16 16
  let cause := if 10 ≤ p.ovRun then 1 else if tmax ≠ 0 ∧ framesS (60 * tmax) ≤ p.chgRun then 2
    else if p.bat ≠ .ready then 3 else 0
  if p.chgOn = true ∧ cause ≠ 0 then
    let s := s.emit 0x0608 11 [cause, p.batMv, i32 (p.ntc.getD (-32768)), p.chgRun / 6000000]
    let s := { s with path.chgOn := false, path.suspended := false, path.fault := setBit s.path.fault 6 }
    let s := if s.path.conv = .cc ∨ s.path.conv = .cv then s.convTo .idle else s
    .next (s.chgSlotEnd stABORTED 0x0608)
  else .next s

/-- CHG_START's own part (R458, R460, R753). -/
def State.chgStartOp (s : State) (k : Nat) (d : RawDesc) : State :=
  let i := signedOf 32 (descField d 24 4)
  let v := descField d 28 2
  if !s.hasConv then s.reject k stBADPARAM 1
  else if s.path.bat ≠ .ready then s.reject k stBADPARAM 2
  else if i < 1000 ∨ (s.chgIMax : Int) < i ∨ v < 8000 ∨ s.chgVMax < v then s.reject k stBADPARAM 4
  else
    let cl := s.maintOn 1
    let s := s.maintEnd 1 1 0
    let s := if cl && s.path.conv == .assist then s.convTo .idle else s
    let s := s.chgSlotEnd stSUPERSEDED 0
    let s := ({ s with
      path.iCC := i, path.vCV := v, path.chgOn := true, path.chgRun := 0, path.ovRun := 0
      path.fault := clearBit s.path.fault 6 }).chgSuspend
    if s.path.suspended then s.complete k stDONE 3
    else ({ s with path.chgSlot := some k }).hold k

/-- CHG_START. -/
def execChgStart (slot : Nat) (s : State) : Host.Outcome State Fault Refusal :=
  .next (s.applyDesc 0x0501 slot (fun _ => some fPATH) fun d s => s.chgStartOp slot d)

/-- CHG_STOP (R463). -/
def execChgStop (slot : Nat) (s : State) : Host.Outcome State Fault Refusal :=
  .next (s.applyDesc 0x0502 slot (fun _ => some fPATH) fun _ s =>
    let was := s.path.chgOn
    let s := { s with path.chgOn := false, path.suspended := false, path.fault := clearBit s.path.fault 6 }
    let s := if s.path.conv = .cc ∨ s.path.conv = .cv then s.convTo .idle else s
    (s.chgSlotEnd stABORTED 0).complete slot stDONE (if was then 1 else 0))

/-- PATH_CLEAR (R470). -/
def execPathClear (slot : Nat) (s : State) : Host.Outcome State Fault Refusal :=
  .next (s.applyDesc 0x0503 slot (fun _ => some fPATH) fun _ s =>
    if s.inHoldup then s.reject slot stBADPARAM 3
    else
      let f := s.path.fault
      let s := { s with path.fault := clearBit s.path.fault 6 }
      let s := if s.path.bat = .shorted ∨ s.path.bat = .opened ∨ s.path.bat = .cut then s.detStart 0 else s
      s.complete slot stDONE (f &&& ~~~s.path.fault).toNat)

/-- BAT_ISOLATE with byte 24 not 0 (R457). -/
def execBatIsolate (slot : Nat) (s : State) : Host.Outcome State Fault Refusal :=
  let b := descField (s.tag slot).desc 24 1
  .next (if b = 0 then s else s.applyDesc 0x0504 slot (fun _ => some fPATH) fun _ s =>
    if 1 < b then s.reject slot stBADPARAM 1
    else if s.inHoldup then s.reject slot stBADPARAM 3
    else
      let was := s.path.bat.code
      (s.batOut .isolated 7).complete slot stDONE was)

/-- BAT_ISOLATE with byte 24 at 0: the reversing form (R457, R618). -/
def execBatReconnect (slot : Nat) (s : State) : Host.Outcome State Fault Refusal :=
  let b := descField (s.tag slot).desc 24 1
  .next (if b ≠ 0 then s else s.applyDesc 0x0504 slot (fun _ => some fPATH) fun _ s =>
    if s.inHoldup then s.reject slot stBADPARAM 3
    else if s.path.bat ≠ .isolated then s.complete slot stDONE 0
    else (({ s with path.detSlots := s.path.detSlots ++ [slot] }).hold slot).detStart 7)

/-! ### The search -/

/-- SEARCH_DWELL_END (R464, R465). -/
def execSearchDwellEnd (feedMv : Nat) (feedMa : Int) (lastMv : Nat) (convMa : Int) (s : State) :
    Host.Outcome State Fault Refusal :=
  let p := s.path
  let step := s.cfgf 0x602C 0 16
  let inMax := 100 * s.cfgf 0x6030 0 16
  if p.searching = true ∧ p.srSlotTick + 100 * s.cfgf 0x6028 24 8 ≤ s.clk.tick then
    let own := feedMa - convMa
    let tested : Int := p.srI0 + p.srK * step
    let sag : Int := (p.srV0 : Int) - lastMv
    let top : Bool := decide ((s.chgIMax : Int) ≤ p.batMa) || decide (s.chgVMax ≤ p.batMv)
    let next (s : State) : State := { s with path.srOwn := own, path.srSlotTick := s.clk.tick }
    if p.srK = 0 then
      let s := next { s with path.srV0 := feedMv, path.srI0 := feedMa, path.srK := 1 }
      .next (if top then s.searchEnd 1 inMax feedMa.toNat 0 else s)
    else if step < (own - p.srOwn).natAbs then .next (s.searchEnd 2 0 tested.toNat sag)
    else if (s.cfgf 0x6028 0 16 : Int) ≤ sag then
      .next (s.searchEnd 0 ((tested - step) * (100 - s.cfgf 0x6028 16 8) / 100).toNat tested.toNat sag)
    else if top then .next (s.searchEnd 1 inMax tested.toNat sag)
    else .next (next { s with path.srK := p.srK + 1 })
  else .next s

/-- SEARCH_PERIOD (R464). -/
def execSearchPeriod (s : State) : Host.Outcome State Fault Refusal :=
  let per := s.cfgf 0x602C 16 16
  .next (if per ≠ 0 ∧ framesS (60 * per) ≤ s.path.srWait ∧ s.searchOk = true ∧ s.path.searching = false then
    ({ s with path.srWait := 0 }).searchStart false else s)

end Sys2Proof.Machine
end

