-- ==== Sys2Proof/Machine/Gauge.lean ====
section
/-! DEFINITION. The battery gauge's rows (spec/12). -/

namespace Sys2Proof.Machine

/-- GAUGE_SAMPLE (R472): 1 ms of charge into the front end's 48-bit accumulator. -/
def execGaugeSample (ma : Int) (s : State) : Host.Outcome State Fault Refusal :=
  .next (if s.sys.variant.hasPath && s.sys.running.getLsbD 3 then
    { s with gauge.last := ma, gauge.acc := signedOf 48 (twos 48 (s.gauge.acc + 1000 * ma)) } else s)

/-- EMPTY_CONFIRMED (R476, R479, R487). -/
def execEmptyConfirmed (s : State) : Host.Outcome State Fault Refusal :=
  let g := s.gauge
  if s.gaugeOn && !g.emptyV && decide (s.cfgf 0x6804 16 8 ≤ g.emptyRun) then
    let n := s.socCount
    let early : Bool := decide (100 < n)
    let kind := if g.hold1 then 3 else if early then 2 else (Config.freeWord s.freeCtr).toNat
    let s := s.freeStep
    let s := s.emit 0x0704 12
      [kind, i32 (roundQ 74 n), roundN 75 g.vComp, if g.learn = .armed then roundN 73 g.qLearn else 0]
    let s := { s with
      gauge.qRem := 0
      gauge.socValid := true
      gauge.emptyV := true
      gauge.emptyIn := 0
      gauge.hold1 := false
      gauge.fullDecl := false
      gauge.disagree := g.disagree || (early && !g.hold1) }
    if g.learn = .armed then
      let q := g.qLearn
      let ok : Bool := decide (8 * (g.qFull : Rat) ≤ 10 * q) && decide (10 * q ≤ 12 * (g.qFull : Rat)) &&
        decide (10 * q ≤ 12 * (s.cfgv 0x6800 : Rat))
      let s := { s with gauge.learn := .idle }
      let s := s.emit 0x0706 12 [if ok then 0 else 1, roundN 73 q, g.qFull, 0]
      let s := if ok then
          ({ s with
            gauge.qFull := roundN 73 q, gauge.learned := true, gauge.learnCount := satInc 32 g.learnCount }).nvTrigger 1
        else s
      .next (s.maintEnd 1 0 (if ok then 0 else 1))
    else .next (s.maintEnd 1 0 1)
  else .next s

/-- OCV_CORRECT (R482 to R484): at the boundary after REST_MIN minutes, once in a rest. -/
def execOcvCorrect (s : State) : Host.Outcome State Fault Refusal :=
  let g := s.gauge
  if s.gaugeOn && decide (framesS (60 * s.cfgf 0x6808 16 16) ≤ g.restRun) && !g.restDone && decide (s.clk.pos = 0) &&
      !s.brake.inFloor && g.st != .spectro then
    let s := { s with gauge.restDone := true, gauge.st := .rested }
    let mv := roundN 76 g.vEp
    let tOk : Bool := match s.path.ntc with
      | none => false
      | some t => decide (16 * s.cfgi 0x680C 16 8 ≤ t) && decide (t ≤ 16 * (s.cfgf 0x680C 24 8 : Int))
    if !tOk then .next (s.emit 0x0703 12 [2, mv, 0, 0])
    else if s.ocvBad then .next (s.emit 0x0703 12 [3, mv, 0, 0])
    else
      let seg := s.ocvSegment g.vEp
      let flat : Bool := match seg with
        | none => false
        | some i => decide (s.ocvMv (i + 1) - s.ocvMv i < s.cfgf 0x680C 8 8)
      if flat then .next (s.emit 0x0703 12 [1, mv, 0, 0])
      else
        let o : Rat := match seg with | some i => s.ocvSoc g.vEp i | none => s.freeIn 0 10000
        let s := s.freeStep
        let w := if g.socValid then s.cfgf 0x680C 0 8 else 100
        let before := s.soc
        let target : Rat := o / 10000 * g.qFull
        let s := { s with
          gauge.socOcv := o
          gauge.qRem := g.qRem + (w : Rat) / 100 * (target - g.qRem)
          gauge.socValid := true
          gauge.disagree := false }
        let s := { s with gauge.hold1 := s.holdsOne }
        .next (s.emit 0x0702 12 [before, roundN 77 o, s.soc, w])
  else .next s

/-! ### Spectroscopy -/

def specHz : List Nat := [1, 2, 5, 10, 20, 50, 100, 200, 500, 1000]

/-- The conditions of R488. -/
def State.specOk (s : State) : Bool :=
  (s.path.conv == .cc || s.path.conv == .cv) && decide (100 * s.cfgf 0x6814 0 16 ≤ s.path.batMa.natAbs) &&
  !s.path.searching && !s.tempBad && s.gauge.socValid && !s.isStandby && !s.brake.inFloor
/-- Starts a measurement (R489). -/
def State.spectroBegin (s : State) (f : Nat) (slot : Option Nat) : State :=
  { s with
    gauge.st := .spectro
    gauge.spF := f
    gauge.spTick := s.clk.tick
    gauge.spI0 := s.path.batMa
    gauge.spT0 := s.path.ntc.getD 0
    gauge.spSum := 0
    gauge.spN := 0
    gauge.spBad := false
    gauge.spWait := 0
    gauge.spSlot := slot }

/-- SPECTRO_START (R488). -/
def execSpectroStart (s : State) : Host.Outcome State Fault Refusal :=
  let per := s.cfgf 0x6810 24 8
  let f := s.cfgf 0x6810 0 4
  .next (if s.gaugeOn && s.specOk && s.gauge.st != .spectro && decide (per ≠ 0) && decide (f < 10) &&
      decide (framesS (60 * per) ≤ s.gauge.spWait) then s.spectroBegin f none else s)

/-- A cell after an accepted R (R491): a value its 16 bits cannot hold is not stated. -/
def State.cellNext (s : State) (cell : Nat) (r : Int) : Nat :=
  let q : Rat := if cell = 0 then r else cell + ((r - cell : Int) : Rat) / 4
  let n := if q - q.floor = 1 / 2 then roundQ 78 q else (q + 1 / 2).floor
  if 0 ≤ n ∧ n < 65536 then n.toNat else (Config.freeWord s.freeCtr).toNat % 65536

/-- SPECTRO_RESULT (R490, R491): after SPEC_CYC periods, or at once where the measurement is rejected. -/
def execSpectroResult (r x : Int) (s : State) : Host.Outcome State Fault Refusal :=
  let g := s.gauge
  let hz := specHz.getD g.spF 0
  let len := s.cfgf 0x6810 16 8 * (100000 / hz)
  if s.gaugeOn && g.st == .spectro && (g.spBad || decide (g.spTick + len ≤ s.clk.tick)) then
    let t := s.path.ntc.getD 0
    let k := s.zCell t
    let cell := if g.spBad then 0xFFFF else k
    let s := { s with gauge.st := .counting, gauge.spSlot := none }
    let s := if g.spBad then s else
      ({ s with
        gauge.zR := r, gauge.zX := x, gauge.ztab := g.ztab.set k (s.cellNext (g.ztab.getD k 0) r) }).freeStep
    let s := s.emit 0x0708 12 [hz, i32 r, i32 x, cell]
    .next (match g.spSlot with | some sl => s.complete sl stDONE cell | none => s)
  else .next s

/-! ### NV store -/

/-- NV_WRITE (R494, R495): the write ends, verified or not. -/
def execNvWrite (ok : Bool) (s : State) : Host.Outcome State Fault Refusal :=
  match s.gauge.writing with
  | none => .next s
  | some (b, trig, im) =>
    let res := if ok then 1 else 2
    let slots := s.gauge.saveSlots
    let now : Option GSlot := if ok then some im else none
    let s := { s with
      gauge.writing := none
      gauge.slotA := if b then s.gauge.slotA else now
      gauge.slotB := if b then now else s.gauge.slotB
      gauge.whyA := if b then s.gauge.whyA else 1
      gauge.whyB := if b then 1 else s.gauge.whyB
      gauge.lastResult := res
      gauge.writes := satInc 16 s.gauge.writes
      gauge.wbWait := 0
      gauge.wbQ := s.gauge.qRem
      gauge.saveSlots := s.gauge.saveNext
      gauge.saveNext := [] }
    let s := s.emit 0x0709 12 [if b then 1 else 0, im.seq.toNat, res, trig]
    let s := s.completeAll slots stDONE (saveResult res (if b then 1 else 0))
    .next (match s.gauge.again with
      | some t => ({ s with gauge.again := none }).nvStart t
      | none => s)

/-- NV_WRITE_PERIODIC (R494, R496, R502). -/
def execNvWritePeriodic (s : State) : Host.Outcome State Fault Refusal :=
  if s.gaugeOn && decide (framesS (60 * s.cfgf 0x6838 0 16) ≤ s.gauge.wbWait) && decide (s.gauge.qRem ≠ s.gauge.wbQ) &&
      !s.brake.inFloor && s.gauge.writing.isNone then
    .next (if s.sys.vaonLost then { s with gauge.lastResult := 3, gauge.wbWait := 0 } else s.nvStart 6)
  else .next s

/-- A host's save: its slot waits for the write it causes. -/
def State.nvSave (s : State) (k : Nat) : State :=
  if s.sys.vaonLost then ({ s with gauge.lastResult := 3 }).complete k stDONE (saveResult 3 2)
  else if s.gauge.writing.isSome then
    (({ s with gauge.saveNext := s.gauge.saveNext ++ [k] }).hold k).nvTrigger 3
  else (({ s with gauge.saveSlots := s.gauge.saveSlots ++ [k] }).hold k).nvTrigger 3

/-! ### Hibernate -/

/-- The length of hibernate in ms and the charge accounted for it (R500). -/
def State.gaugeWake (s : State) (ms : Nat) : State :=
  if !s.gaugeOn then s
  else
    let g := s.gauge
    if s.cfg.wakeSrc.getLsbD 1 then
      s.emit 0x070A 12 [ms, i32 (roundQ 79 ((signedOf 48 (twos 48 (g.acc - g.accTaken)) : Rat) / 3600000)), 0, 0]
    else
      let q : Rat := (s.cfgv 0x683C : Rat) * ms / 3600000
      let long : Bool := decide (3600000 * s.cfgf 0x6838 16 8 < ms)
      let s := { s with gauge.qRem := g.qRem - q, gauge.socValid := g.socValid && !long }
      (s.learnAbort 4).emit 0x070A 12 [ms, i32 (roundQ 79 (-q)), if long then 2 else 1, 0]

/-! ### Descriptors -/

/-- GAUGE_SET_FULL (R485). -/
def State.setFullOp (s : State) (k : Nat) (d : RawDesc) : State :=
  let rid := descField d 24 2
  match s.repeatOf 0x0601 rid 0 with
  | some r => s.completeRepeat k r
  | none =>
    if s.path.bat ≠ .ready then s.reject k stBADPARAM 2
    else
      let before := s.soc
      let s := s.keepRun 0x0601 rid 0 k
      let s := { s with
        gauge.qRem := s.gauge.qFull
        gauge.socValid := true
        gauge.fullDecl := true
        gauge.emptyV := false
        gauge.hold1 := false
        gauge.disagree := false
        gauge.learn := .armed
        gauge.qLearn := 0
        gauge.chgSince := 0 }
      (s.emit 0x0705 12 [before, s.gauge.qFull, s.gauge.cycles % 65536, 0]).complete k stDONE before

def execGaugeSetFull (slot : Nat) (s : State) : Host.Outcome State Fault Refusal :=
  .next (s.applyDesc 0x0601 slot (fun _ => some fGAUGE) fun d s => s.setFullOp slot d)

/-- GAUGE_SAVE (R494). -/
def execGaugeSave (slot : Nat) (s : State) : Host.Outcome State Fault Refusal :=
  .next (s.applyDesc 0x0602 slot (fun _ => some fGAUGE) fun _ s => s.nvSave slot)

/-- The battery as new (R497): Q_full = Q_DESIGN, cycles 0, LEARNED clear, table zero. -/
def State.gaugeNew (s : State) : State :=
  { s with
    gauge.qFull := s.cfgv 0x6800
    gauge.cycles := 0
    gauge.dischg := 0
    gauge.learned := false
    gauge.learnCount := 0
    gauge.ztab := List.replicate 128 0 }

/-- GAUGE_NEW_BATTERY (R499). -/
def execGaugeNewBattery (slot : Nat) (s : State) : Host.Outcome State Fault Refusal :=
  .next (s.applyDesc 0x0603 slot (fun _ => some fGAUGE) fun _ s =>
    let s := (s.learnAbort 5).gaugeNew
    let s := { s with gauge.socValid := false, gauge.hold1 := false, gauge.fullDecl := false }
    s.nvSave slot)

/-- GAUGE_SPECTRO (R488). -/
def State.spectroOp (s : State) (k : Nat) (d : RawDesc) : State :=
  let b := descField d 24 1
  let rid := descField d 26 2
  match s.repeatOf 0x0604 rid 0 with
  | some r => s.completeRepeat k r
  | none =>
    let f := if b = 255 then s.cfgf 0x6810 0 4 else b
    if 10 ≤ f then s.reject k stBADPARAM 1
    else if !s.specOk then s.reject k stBADPARAM 2
    else if s.gauge.st = .spectro then s.reject k stBADPARAM 3
    else ((s.keepRun 0x0604 rid 0 k).spectroBegin f (some k)).hold k

def execGaugeSpectro (slot : Nat) (s : State) : Host.Outcome State Fault Refusal :=
  .next (s.applyDesc 0x0604 slot (fun _ => some fGAUGE) fun d s => s.spectroOp slot d)

/-! ### Bring-up after a cold reset (R497) -/

/-- Loads the newest valid slot. -/
def State.gaugeLoad (s : State) : State :=
  let s := { s with gauge.st := .counting, gauge.socValid := false }
  let why (b : Bool) : Nat := if (s.nvSlot b).isSome then 0 else if b then s.gauge.whyB else s.gauge.whyA
  match s.newestSlot with
  | none => ({ s with gauge.qRem := 0 }.gaugeNew).emit 0x0701 12 [2, 0, why true, 0]
  | some b =>
    match s.nvSlot b with
    | none => s
    | some im =>
      let fits : Bool := im.qDesign == (s.cfgv 0x6800 : Int)
      let s := { s with gauge.qRem := im.qRem }
      let s := if fits then
          { s with
            gauge.qFull := im.qFull.toNat
            gauge.cycles := im.cycles
            gauge.dischg := im.dischg
            gauge.learned := im.learned
            gauge.learnCount := im.learnCount
            gauge.disagree := im.disagree
            gauge.emptyV := im.emptyV
            gauge.ztab := im.ztab }
        else s.gaugeNew
      s.emit 0x0701 12 [if b then 1 else 0, im.seq.toNat, if fits then why (!b) else 3, 0]

end Sys2Proof.Machine
end

