-- ==== Sys2Proof/Machine/HostIf.lean ====
section
/-! DEFINITION. Rings, doorbells, intake, completions and windows (spec/14): the rows without a descriptor of their own, and
the operations the admin descriptors share with them. -/

namespace Sys2Proof.Machine

/-! ### Refused set-up writes (R19, R141) -/

/-- A write refused by SETUP_LOCK: offset, value written, value kept. -/
def State.writeDenied (s : State) (off v kept : Nat) : State := s.emit 0x0024 14 [off, lo32 v, lo32 kept, 0]

/-! ### The perturbation unit (R767, R768) -/

/-- Whether a control of TEST_CTRL disturbs now. -/
def State.perturbs (s : State) (b : Nat) : Bool := s.maint.unlocked && s.cfgb 0xE000 b
/-- One injected disturbance, and one draw of the generator. -/
def State.inject (s : State) : State :=
  { s with
    maint.injected := satInc 32 s.maint.injected
    maint.lfsr := Config.freeWord s.freeCtr
    freeCtr := s.freeCtr + 1 }
/-- BACKPRESS makes CQ `r` count as full. -/
def State.backPress (s : State) (r : Nat) : Bool :=
  s.perturbs 2 && s.cfgf 0xE010 0 6 == r && decide (s.clk.pos < s.cfgf 0xE010 8 7)

/-! ### Rings (R564–R567) -/

def RSt.code : RSt → Nat
  | .disabled => 0 | .active => 1 | .error => 2
def Ring.entries (g : Ring) : Nat := 2 ^ g.log2
def ringOff (r : Nat) : Nat := 0x8000 + 0x40 * r
/-- Whether a CQ takes no more (R581, R595). -/
def State.cqFull (s : State) (r : Nat) : Bool :=
  let g := s.ring r
  (g.prod + 1) % g.entries == g.cons || s.backPress r
/-- Descriptors pending on an SQ (R571). -/
def Ring.pending (g : Ring) : Nat := (g.prod + g.entries - g.cons) % g.entries
/-- Operations in flight from an SQ (RING_STATUS.IN_FLIGHT). -/
def State.inFlight (s : State) (r : Nat) : Nat := (s.hif.tags.filter fun t => t.st != .free && t.ring == r).length
/-- Tag slots in flight. -/
def State.slotsUsed (s : State) : Nat := (s.hif.tags.filter fun t => t.st != .free).length
def State.anyRing (s : State) : Bool := s.hif.rings.any fun g => g.st != .disabled

/-- A change of a ring's state, with RING_STATE. -/
def State.ringTo (s : State) (r : Nat) (st : RSt) (source : Nat) : State :=
  let old := (s.ring r).st
  (s.modRing r fun g => { g with st := st }).emit 0x0903 14 [r, old.code, st.code, source]
/-- RING_ERROR with its cause (R604). -/
def State.ringError (s : State) (r cause info : Nat) : State :=
  let s := s.modRing r fun g => { g with st := .error, errCause := cause, errInfo := BitVec.ofNat 32 info }
  (s.emit 0x0902 14 [r, cause, lo32 info, s.frame]).hifEvent 1

/-- The span of a ring's memory lies in a window of its direction (R561). -/
def State.ringPlaced (s : State) (g : Ring) : Bool := s.inWindow g.cq g.base ((if g.cq then 16 else 64) * g.entries)

/-- A ring's configuration as its registers stand (R607). -/
def State.ringRegs (s : State) (r : Nat) (g : Ring) : Ring :=
  let o := ringOff r
  let f (a lo w : Nat) : Nat := s.regv (o + a) / 2 ^ lo % 2 ^ w
  { g with
    cq := if r = 0 then false else if r = 1 then true else f 8 0 1 == 1
    log2 := f 8 1 4
    bind := if r = 0 then 1 else f 8 8 6
    vec := f 8 16 6
    base := s.regv o / 4096 * 4096 + 2 ^ 32 * s.regv (o + 4)
    coalCnt := f 12 0 8
    coalFr := f 12 8 8
    irqEn := f 12 16 1 == 1 }
/-- What an enable refuses (R566, R567). -/
def State.ringRefused (s : State) (g : Ring) : Bool :=
  decide (g.log2 < 4) || decide (12 < g.log2) || (!g.cq && !((s.ring g.bind).cq && (s.ring g.bind).st == .active))
/-- Enables a ring with a configuration: empty and ACTIVE, or in RING_ERROR under R561. -/
def State.ringEnableWith (s : State) (r : Nat) (g : Ring) (source : Nat) : State :=
  let s := s.modRing r fun _ => { g with
    st := .disabled, errCause := 0, errInfo := 0, phase := true, prod := 0, cons := 0, taken := 0, written := 0
    unsig := 0, unsigTick := 0, recentW := [], tkLeft := 0 }
  let s := s.ringTo r .active source
  if s.ringPlaced g then s else s.ringError r 3 (g.base % 2 ^ 32)

/-- Why RING_DELETE, or a disable, refuses (R569); 0 where it does not. -/
def State.ringDeleteCause (s : State) (r : Nat) : Nat :=
  let g := s.ring r
  if r < 2 then 1
  else if !g.cq && s.inFlight r ≠ 0 then 2
  else if g.cq && s.hif.rings.any (fun h => !h.cq && h.st != .disabled && h.bind == r) then 3
  else 0
/-- Disables a ring. -/
def State.ringDisable (s : State) (r source : Nat) : State :=
  if (s.ring r).st = .disabled then s
  else
    let s := s.ringTo r .disabled source
    s.modRing r fun g => { g with errCause := 0, errInfo := 0, prod := 0, cons := 0, unsig := 0 }

/-- A ring's reset (R596, R605): empty and ACTIVE. A disabled ring is left alone; an ACTIVE one changes no state and is not
recorded. -/
def State.ringReset (s : State) (r source : Nat) : State :=
  if (s.ring r).st = .disabled then s
  else
    let s := if (s.ring r).st = .active then s else s.ringTo r .active source
    s.modRing r fun g => { g with
      errCause := 0, errInfo := 0, phase := true, prod := 0, cons := 0, unsig := 0, recentW := [], tkLeft := 0 }

/-- Rings that no longer lie in a window go to RING_ERROR (R561); the number of them. -/
def State.windowCheck (s : State) : State × Nat :=
  let bad := (List.range 64).filter fun r => (s.ring r).st == .active && !s.ringPlaced (s.ring r)
  (s.each bad fun s r => s.ringError r 3 ((s.ring r).base % 2 ^ 32), bad.length)

/-! ### Doorbells (R571–R575) -/

/-- A write the ring engine takes: an SQ's producer index. -/
def State.sqTake (s : State) (r : Nat) (v : Word) : State :=
  let g := s.ring r
  if g.st ≠ .active then s.emit 0x0904 14 [r, v.toNat, g.st.code, 0]
  else if v.toNat = g.prod then s.modRing r fun g => { g with doorbell := v }
  else
    let s := s.modRing r fun g => { g with doorbell := v }
    if g.entries ≤ v.toNat then s.ringError r 1 v.toNat else s.modRing r fun g => { g with prod := v.toNat }
/-- A CQ's head. -/
def State.cqTake (s : State) (r : Nat) (v : Word) : State :=
  let g := s.ring r
  if g.st ≠ .active then s.emit 0x0904 14 [r, v.toNat, g.st.code, 0]
  else if v.toNat = g.cons then s.modRing r fun g => { g with doorbell := v }
  else
    let s := s.modRing r fun g => { g with doorbell := v }
    let n := g.entries
    if n ≤ v.toNat ∨ (g.prod + n - g.cons) % n < (v.toNat + n - g.cons) % n then s.ringError r 2 v.toNat
    else s.modRing r fun g => { g with cons := v.toNat }
/-- Whether doorbells are kept and nothing taken in (R507, R538). -/
def State.keepsDoorbells (s : State) : Bool := !s.commands && s.tdm.st != .init

/-- A doorbell as it arrives: kept on a twin that does not command, held back by the perturbation unit (R768), or taken. -/
def State.doorbell (s : State) (cq : Bool) (r : Nat) (v : Word) : State :=
  let s := if r = 0 then { s with hif.silence := 0 } else s
  if s.keepsDoorbells then s.modRing r fun g => { g with doorbell := v }
  else if s.perturbs 1 && s.cfgf 0xE00C 8 6 == r && decide (s.cfgf 0xE00C 0 8 ≠ 0) then
    ({ s with maint.dbHeld := s.maint.dbHeld ++ [(r, v, s.clk.tick + s.cfgf 0xE00C 0 8)] }).inject
  else if cq then s.cqTake r v else s.sqTake r v
/-- Held doorbells that fall due (R768). -/
def State.doorbellsDue (s : State) : State :=
  let due := s.maint.dbHeld.filter fun d => decide (d.2.2 ≤ s.clk.tick)
  let s := { s with maint.dbHeld := s.maint.dbHeld.filter fun d => decide (s.clk.tick < d.2.2) }
  due.foldl (fun s d => if (s.ring d.1).cq then s.cqTake d.1 d.2.1 else s.sqTake d.1 d.2.1) s

/-- SQ_DOORBELL (R571, R573, R574). -/
def execSqDoorbell (ring : Nat) (v : Word) (s : State) : Host.Outcome State Fault Refusal :=
  .next (if s.isReady fRING && s.sys.linkUp && decide (ring < 64) && !((s.ring ring).cq && (s.ring ring).st != .disabled)
    then s.doorbell false ring v else s)

/-- CQ_DOORBELL (R572, R573, R574). -/
def execCqDoorbell (ring : Nat) (v : Word) (s : State) : Host.Outcome State Fault Refusal :=
  .next (if s.isReady fRING && s.sys.linkUp && decide (ring < 64) && ((s.ring ring).cq || (s.ring ring).st == .disabled)
    then s.doorbell true ring v else s)

/-! ### Intake (R580–R585) -/

/-- The limit in force (R518, R580). -/
def State.intakeLimit (s : State) : Nat := if s.tdm.st = .active then 12 else 32
/-- Whether an SQ has a descriptor that may be taken (R581). -/
def State.sqPending (s : State) (r : Nat) : Bool :=
  let g := s.ring r
  !g.cq && g.st == .active && g.pending != 0 && (s.ring g.bind).st == .active && !s.cqFull g.bind
/-- The order in which rings are visited in a round. -/
def rrOrder (start : Nat) : List Nat := 0 :: ((List.range 63).map fun i => (start - 1 + i) % 63 + 1)
/-- The ring the next descriptor comes from: the one being visited while it has fewer than 4 taken, else the next in the
round, else the first of a new round. -/
def State.nextRing (s : State) : Option Nat :=
  let order := rrOrder s.hif.rrStart
  let first := order.find? s.sqPending
  match s.hif.visit with
  | none => first
  | some (r, k) =>
    if s.sqPending r && decide (k < 4) then some r
    else
      match ((order.dropWhile (· ≠ r)).drop 1).find? s.sqPending with
      | some q => some q
      | none => first

/-- Whether a descriptor's target does not exist on the variant (R4, R682). -/
def absentTarget (v : Variant) (d : RawDesc) : Bool :=
  let op := descOpcode d
  let i := descIndex d
  match descKind d with
  | 1 => v.rails ≤ i
  | 2 => v.phases ≤ i
  | 3 => v.sws ≤ i
  | _ => ((op / 256 == 5 || op / 256 == 6) && !v.hasPath) || (op / 256 == 0x0B && !v.hasTdm) ||
    (!v.hasDown && (op == 0x0C01 || op == 0x0C02 || (op == 0x0C03 && descField d 24 1 == 0x70)))

/-- The first failing check of R583: status and RESULT. -/
def State.intakeCheck (s : State) (ring : Nat) (d : RawDesc) (time : Nat) : Option (Nat × Nat) :=
  let op := descOpcode d
  let k := tagSlot (descTag d).toNat
  if !descCrcOk d then some (0x12, 0)
  else if !descReservedOk d then some (0x11, 0x80000001)
  else if !definedOpcodes.contains op then some (0x10, 0)
  else if op / 256 = 1 ∧ ring ≠ 0 then some (0x11, 0x80000005)
  else if (s.tag k).st ≠ .free then some (0x13, (descTag (s.tag k).desc).toNat)
  else if time + 60000000000 < descNotBefore d ∨ (descDeadline d ≠ 0 ∧ descDeadline d < descNotBefore d) then
    some (0x11, 0x80000002)
  else if descDeadline d ≠ 0 ∧ descDeadline d < time then some (0x03, 0)
  else if descAfter d / 2 ^ 31 = 1 ∧ tagSlot (descAfter d % 2 ^ 31) = k then some (0x11, 0x80000003)
  else if !(opcodeKinds op).contains (descKind d) || decide (kindRange (descKind d) ≤ descIndex d) then some (0x11, 0x80000004)
  else if absentTarget s.sys.variant d then some (0x14, 0)
  else none

/-- The dependency of AFTER_TAG, looked up once (R593). -/
def State.afterLookup (s : State) (d : RawDesc) : Option (Nat × Nat) :=
  let a := descAfter d
  if a / 2 ^ 31 = 0 then none
  else
    let t := s.tag (tagSlot a)
    if t.st ≠ .free ∧ tagGen (descTag t.desc).toNat = tagGen a then some (tagSlot a, t.order) else none

/-- Takes a descriptor in for a frame (R583): it occupies its slot, or its error completion is decided in that frame. -/
def State.intakeAs (s : State) (ring : Nat) (d : RawDesc) (time tick : Nat) (frame : BitVec 32) (tk : Bool) : State :=
  let op := descOpcode d
  let k := tagSlot (descTag d).toNat
  match s.intakeCheck ring d time with
  | some (status, result) =>
    let c : Cpl := {
      tag := descTag d, status := status, ring := ring, irqNow := descIrqNow d, takeover := tk, frame := frame,
      result := BitVec.ofNat 32 result, slot := none, tick := tick }
    ({ s with hif.decided := insCpl c s.hif.decided }).emit 0x0901 14 [ring, (descTag d).toNat, status, op]
  | none =>
    let after := s.afterLookup d
    let o := s.hif.order
    ({ s with hif.order := o + 1 }).modTag k fun _ => {
      st := .held, desc := d, ring := ring, order := o, intakeAt := time, after := after
      discard := false, tk := tk }

/-- DESCRIPTOR_INTAKE (R580 to R585): the descriptor belongs to the next frame (R54). -/
def execDescriptorIntake (ring : Nat) (d : RawDesc) (s : State) : Host.Outcome State Fault Refusal :=
  if s.running && s.isReady fRING && s.dmaOn && s.commands && decide (s.hif.takenNow < s.intakeLimit) &&
      s.nextRing == some ring && s.sys.hib != .asleep && !(s.clk.halted.getLsbD 14) then
    let g := s.ring ring
    let tk : Bool := g.tkLeft != 0
    let visit := match s.hif.visit with
      | some (r, k) => if r = ring ∧ k < 4 then (r, k + 1) else (ring, 1)
      | none => (ring, 1)
    let s := { s with
      hif.takenNow := s.hif.takenNow + 1
      hif.intakeNow := s.hif.intakeNow ++ [(ring, d)]
      hif.takenEpoch := s.hif.takenEpoch + 1
      hif.visit := some visit
      hif.rrStart := if ring ≠ 0 ∧ s.hif.rrSeen = false then ring else s.hif.rrStart
      hif.rrSeen := s.hif.rrSeen || ring != 0 }
    let s := s.modRing ring fun g => { g with
      cons := (g.cons + 1) % g.entries, taken := satInc 32 g.taken, tkLeft := g.tkLeft - 1 }
    .next (s.intakeAs ring d (s.clk.strobe + 10000) (s.clk.tick + 1) (s.clk.count + 1) tk)
  else .next s

/-- DEADLINE_MISSED (R591). -/
def execDeadlineMissed (slot : Nat) (s : State) : Host.Outcome State Fault Refusal :=
  let t := s.tag slot
  .next (if t.st = .held ∧ descDeadline t.desc ≠ 0 ∧ descDeadline t.desc < s.evalStrobe ∧ t.intakeAt ≤ s.evalStrobe then
    s.complete slot stDEADLINE 0 else s)

/-! ### Completions (R595–R601) -/

/-- The 16 bytes of a completion (R578). -/
def cplBytes (c : Cpl) (phase : Bool) : List Byte :=
  leBytes 2 c.tag.toNat ++ leBytes 2 c.status ++ leBytes 1 c.ring ++
  leBytes 1 ((if phase then 1 else 0) + (if c.takeover then 2 else 0)) ++ leBytes 2 0 ++ leBytes 4 c.frame.toNat ++
  leBytes 4 c.result.toNat

/-- The active's release rule (R520): the acknowledgement of the frame's block has arrived. -/
def State.released (s : State) (frame : BitVec 32) : Bool :=
  !s.tdm.mirrored || decide ((s.tdm.acked - frame).toNat < 2 ^ 31)
/-- Whether a completion can be written now (R520, R521, R522, R595). -/
def State.canWrite (s : State) (c : Cpl) : Bool :=
  let q := (s.ring c.ring).bind
  let g := s.ring q
  let recent := (g.recentW.filter fun t => decide (s.clk.tick < t + 4)).length
  g.cq && g.st == .active && !s.cqFull q && s.released c.frame && !(s.tdm.soloHold && decide (c.tick ≤ s.clk.tick)) &&
    !(s.tdm.mirrored && decide (g.entries ≤ recent))
/-- Signals a CQ's vector for the entries written so far. -/
def State.cqSignal (s : State) (q : Nat) : State :=
  (s.modRing q fun g => { g with unsig := 0 }).signal (s.ring q).vec
/-- Writes a completion into the next entry of its CQ, and signals under R601. -/
def State.writeCpl (s : State) (c : Cpl) : State :=
  let q := (s.ring c.ring).bind
  let g := s.ring q
  let next := (g.prod + 1) % g.entries
  let s := s.postMem (g.base + 16 * g.prod) (cplBytes c g.phase)
  let s := s.modRing q fun g => { g with
    prod := next, phase := if next = 0 then !g.phase else g.phase, written := satInc 32 g.written
    unsig := g.unsig + 1, unsigTick := if g.unsig = 0 then s.clk.tick else g.unsigTick
    recentW := g.recentW.filter (fun t => decide (s.clk.tick < t + 4)) ++ [s.clk.tick] }
  let s := match c.slot with
    | some k => s.modTag k fun t => { t with st := .free, discard := false, tk := false }
    | none => s
  let s := { s with
    hif.decided := s.hif.decided.erase c
    hif.writtenEpoch := s.hif.writtenEpoch + 1 }
  if g.irqEn && (c.irqNow || decide (g.coalCnt ≤ g.unsig + 1)) then s.cqSignal q else s

/-- COMPLETION_WRITE (R595, R597): the first decided completion whose CQ can take it. -/
def execCompletionWrite (s : State) : Host.Outcome State Fault Refusal :=
  if s.commands && s.dmaOn && s.running then
    match s.hif.decided.find? s.canWrite with
    | some c => .next (s.writeCpl c)
    | none => .next s
  else .next s

/-- COAL_TIMEOUT (R601). -/
def execCoalTimeout (ring : Nat) (s : State) : Host.Outcome State Fault Refusal :=
  let g := s.ring ring
  .next (if g.cq && g.irqEn && g.coalFr != 0 && g.unsig != 0 && decide (g.unsigTick + g.coalFr ≤ s.clk.tick) then
    s.cqSignal ring else s)

/-- CPL_MARK: the last frame all of whose completions the endpoint has written; within 2 frames of the one being frozen
while results are mirrored (R517, R521). -/
def State.cplMark (s : State) : BitVec 32 :=
  let m : BitVec 32 := match s.hif.decided.head? with
    | none => s.clk.count
    | some c => c.frame - 1
  if s.tdm.mirrored && decide (2 < (s.clk.count - m).toNat) then s.clk.count - 2 else m

/-! ### Messages (R553, R603) -/

/-- Sends the pending messages that nothing masks any more. -/
def State.sendPending (s : State) : State :=
  if s.hif.msixEn && !s.hif.fmask && s.dmaOn then
    let due := (List.range 64).filter fun v => s.hif.vecPend.getLsbD v && !s.hif.vecMask.getLsbD v
    { s with
      hif.posted := s.hif.posted ++ due.map fun v => Posted.msix v (s.hif.msixTab.getD v 0)
      hif.vecPend := s.hif.vecPend &&& s.hif.vecMask }
  else s

/-- MSIX_UNMASK (R603). -/
def execMsixUnmask (vec : Nat) (s : State) : Host.Outcome State Fault Refusal :=
  .next ({ s with hif.vecMask := clearBit s.hif.vecMask vec }).sendPending

/-- BUS_MASTER_CHANGE (R553): a write of the function's control bits in configuration space. -/
def execBusMasterChange (bme d3 msix fmask : Bool) (s : State) : Host.Outcome State Fault Refusal :=
  if s.sys.linkUp then
    let was := s.hif.bme
    let s := { s with hif.bme := bme, hif.d3 := d3, hif.msixEn := msix, hif.fmask := fmask }
    let s := if was = bme then s else s.emit 0x0907 14 [if bme then 4 else 3, 0, s.slotsUsed, s.frame]
    .next s.sendPending
  else .next s

/-- DMA_READ_FAIL (R554). -/
def execDmaReadFail (ring : Nat) (addr : Nat) (s : State) : Host.Outcome State Fault Refusal :=
  .next (if (s.ring ring).st = .active then s.ringError ring 4 (addr % 2 ^ 32) else s)

/-! ### Ring control and windows (R563, R605, R807) -/

/-- Whether the ring's RL fields are closed (R569). -/
def State.ringLocked (s : State) (r : Nat) : Bool := s.sys.lock && decide (2 ≤ r)

/-- The effect of RING_CTRL.ENABLE. -/
def State.ringCtrl (s : State) (r : Nat) (en : Bool) : State :=
  let g := s.ring r
  if en = (g.st != .disabled) then s
  else if en then
    let g' := s.ringRegs r g
    if s.ringRefused g' then s.emit 0x0903 14 [r, 0, 0, 3] else s.ringEnableWith r g' 0
  else if s.ringDeleteCause r ≠ 0 then s.emit 0x0903 14 [r, g.st.code, g.st.code, 3]
  else s.ringDisable r 0

/-- RING_ENABLE (R807): a write of RING_CTRL. After SETUP_LOCK the RL field of rings 2–63 is closed (R569). -/
def execRingEnable (ring : Nat) (w : Word) (s : State) : Host.Outcome State Fault Refusal :=
  if s.isReady fRING && s.sys.linkUp && decide (ring < 64) then
    let en := w.getLsbD 0
    let now := (s.ring ring).st != .disabled
    if s.ringLocked ring && en != now then .next (s.writeDenied (ringOff ring + 0x10) w.toNat (if now then 1 else 0))
    else
      let s := s.ringCtrl ring en
      .next (if w.getLsbD 1 && !s.ringLocked ring then s.ringReset ring 0 else s)
  else .next s

/-- RING_CTRL_RESET (R605): effective on rings 2–63 only before SETUP_LOCK. -/
def execRingCtrlReset (ring : Nat) (s : State) : Host.Outcome State Fault Refusal :=
  .next (if s.isReady fRING && s.sys.linkUp && decide (ring < 64) && !s.ringLocked ring then s.ringReset ring 0 else s)

/-- BAR_ACCESS_VOID's record. -/
def State.barVoid (s : State) (bar off size : Nat) (isWrite : Bool) : State :=
  s.emit 0x0906 14 [bar, off, size, if isWrite then 2 else 1]

/-- DMA_WINDOW_WRITE (R563). -/
def execDmaWindowWrite (off : Nat) (w : Word) (s : State) : Host.Outcome State Fault Refusal :=
  let k := (off - 0x0220) / 16
  let a := (off - 0x0220) % 16
  if s.sys.linkUp && decide (0x0220 ≤ off) && decide (k < 8) && (a == 0 || a == 4 || a == 8) then
    if s.anyRing then .next (s.barVoid 0 off 4 true)
    else
      let set (f : Win → Win) : State := { s with hif.wins := s.hif.wins.modify k f }
      .next (
        if a = 0 then
          set fun x => { x with
            base := x.base / 2 ^ 32 * 2 ^ 32 + w.toNat / 4096 * 4096, rd := w.getLsbD 0, wr := w.getLsbD 1 }
        else if a = 4 then set fun x => { x with base := x.base % 2 ^ 32 + 2 ^ 32 * w.toNat }
        else set fun x => { x with pages := w.toNat })
  else .next s

/-- BAR_ACCESS_VOID (R555): an access of another size or alignment. -/
def execBarAccessVoid (bar off size : Nat) (isWrite : Bool) (s : State) : Host.Outcome State Fault Refusal :=
  .next (if s.sys.linkUp && (size != 4 || off % 4 != 0) then s.barVoid bar off size isWrite else s)

end Sys2Proof.Machine
end

