-- ==== Sys2Proof/Machine/Image.lean ====
section
/-! DEFINITION. The configuration image: its checks in the order of R806, its section rules (R35, R37, R52, R130, R383,
R691, R732, R775), and its load; and the firmware bank's checks (R127, R723 to R725). -/

namespace Sys2Proof.Machine

/-! ### Layout (R130) -/

/-- A directory entry: TYPE, SFLAGS, OFFSET, LENGTH, CRC. -/
structure DirEntry where
  type : Nat
  sflags : Nat
  off : Nat
  len : Nat
  crc : Nat
  deriving DecidableEq, Repr

def imgDir (im : List Byte) (i : Nat) : DirEntry :=
  let b (o n : Nat) : Nat := bytesAt im (64 + 16 * i + o) n
  { type := b 0 2, sflags := b 2 2, off := b 4 4, len := b 8 4, crc := b 12 4 }
def imgCount (im : List Byte) : Nat := bytesAt im 18 2
def imgSize (im : List Byte) : Nat := bytesAt im 8 4
def imgSeq (im : List Byte) : Nat := bytesAt im 12 4
def imgSigned (im : List Byte) : Bool := bytesAt im 17 1 % 2 == 1
def imgEntries (im : List Byte) : List DirEntry := (List.range (imgCount im)).map (imgDir im)
/-- The end of the sections: before a trailer. -/
def imgEnd (im : List Byte) : Nat := imgSize im - (if imgSigned im then 128 else 0)
def imgSection (im : List Byte) (t : Nat) : Option DirEntry := (imgEntries im).find? (·.type = t)
def sectBytes (im : List Byte) (e : DirEntry) : List Byte := (im.drop e.off).take e.len
def knownType (t : Nat) : Bool := 1 ≤ t && t ≤ 8

/-- A fault: reason, section TYPE, byte offset. -/
abbrev ImgFault := Option (Nat × Nat × Nat)

/-- The first of a list of checks that fails. -/
def firstFault : List ImgFault → ImgFault
  | [] => none
  | some f :: _ => some f
  | none :: fs => firstFault fs
/-- A check that must hold. -/
def need (ok : Bool) (reason type off : Nat) : ImgFault := if ok then none else some (reason, type, off)

/-! ### Checks 1 to 8 -/

def zeroBytes (im : List Byte) (a n : Nat) : Bool := bytesAt im a n == 0

def headerFault (im : List Byte) : ImgFault :=
  firstFault [
    need (bytesAt im 0 4 == 0x46435A50) 7 0 0, need (bytesAt im 4 2 == 1) 7 0 4, need (bytesAt im 6 2 == 64) 7 0 6,
    need (decide (imgSize im ≤ 2097152)) 7 0 8, need (decide (bytesAt im 16 1 < 8)) 7 0 16,
    need (decide (bytesAt im 17 1 < 4)) 7 0 17, need (decide (1 ≤ imgCount im) && decide (imgCount im ≤ 32)) 7 0 18,
    need (decide (bytesAt im 24 2 ≤ 60000)) 7 0 24, need (zeroBytes im 26 34) 7 0 26]

def dirFault (im : List Byte) (i : Nat) : ImgFault :=
  let e := imgDir im i
  let o := 64 + 16 * i
  firstFault [
    need (!((List.range i).any fun j => (imgDir im j).type == e.type)) 7 e.type o,
    need (knownType e.type || e.sflags % 2 == 0) 7 e.type (o + 2),
    need (e.off % 8 == 0 && decide (e.off ≤ imgEnd im)) 7 e.type (o + 4),
    need (decide (e.off + e.len ≤ imgEnd im)) 7 e.type (o + 8)]

/-! ### Check 9: section content -/

/-- The first byte of a range that breaks a rule, as a fault of its section. -/
def byteFault (e : DirEntry) (n : Nat) (ok : Nat → Bool) : ImgFault :=
  match (List.range n).find? (fun i => !ok i) with
  | some i => some (4, e.type, e.off + i)
  | none => none
def lenFault (e : DirEntry) (n : Nat) : ImgFault := need (e.len == n) 4 e.type e.off

/-- PHASE_MAP (R34, R35, R37): one consumer each, at most 8 to a consumer, nothing the variant lacks. -/
def phaseMapFault (v : Variant) (b : List Byte) (e : DirEntry) : ImgFault :=
  firstFault [lenFault e 32, byteFault e 32 fun m =>
    let x := bytesAt b m 1
    if v.phases ≤ m then x == 0xFF
    else
      (x == 0xFF || decide (x < v.rails) || (x == 0x20 && v.hasPath)) &&
      (x == 0xFF || decide (((List.range m).filter fun j => bytesAt b j 1 == x).length < 8))]

/-- CLASS. -/
def classFault (v : Variant) (b : List Byte) (e : DirEntry) : ImgFault :=
  firstFault [lenFault e 40, byteFault e 40 fun i =>
    let x := bytesAt b i 1
    let here : Bool := if i < 16 then decide (i < v.rails) else decide (i - 16 < v.sws)
    if here then decide (x ≤ 2) else x == 0]

/-- BRAKE (R732). -/
def brakeFault (v : Variant) (b : List Byte) (e : DirEntry) : ImgFault :=
  let at' (o : Nat) (ok : Bool) : ImgFault := need ok 4 e.type (e.off + o)
  let rail (n : Nat) : ImgFault :=
    let f (o k : Nat) : Nat := bytesAt b (16 * n + o) k
    if n < v.rails then
      firstFault [at' (16 * n + 2) (decide (f 2 2 ≤ f 0 2)), at' (16 * n + 4) (f 4 4 != 0), at' (16 * n + 8) (f 8 2 != 0),
        at' (16 * n + 10) (f 10 6 == 0)]
    else at' (16 * n) (f 0 16 == 0)
  let sw (n : Nat) : ImgFault :=
    let o := 256 + 8 * n
    if n < v.sws then at' o (bytesAt b o 4 != 0) else at' o (bytesAt b o 8 == 0)
  firstFault ([lenFault e 464] ++ (List.range 16).map rail ++ (List.range 24).map sw ++
    [at' 448 (decide (1 ≤ bytesAt b 448 1) && decide (bytesAt b 448 1 ≤ v.phases)), at' 449 (zeroBytes b 449 15)])

/-- FLOOR (R52, R732). -/
def floorFault (v : Variant) (b cls brake : List Byte) (e : DirEntry) : ImgFault :=
  let at' (o : Nat) (ok : Bool) : ImgFault := need ok 4 e.type (e.off + o)
  let rail (n : Nat) : ImgFault :=
    let sp := bytesAt b (4 * n) 2
    let fl := bytesAt b (4 * n + 2) 1
    if n < v.rails then
      firstFault [
        at' (4 * n) (fl % 2 == 0 || (decide (bytesAt brake (16 * n + 2) 2 ≤ sp) && decide (sp ≤ bytesAt brake (16 * n) 2))),
        at' (4 * n + 2) (decide (fl < 2) && (fl % 2 == 0 || bytesAt cls n 1 == 2)), at' (4 * n + 3) (zeroBytes b (4 * n + 3) 1)]
    else at' (4 * n) (bytesAt b (4 * n) 4 == 0)
  let sw (n : Nat) : ImgFault :=
    at' (64 + n / 8) ((bytesAt b 64 4).testBit n == false || (decide (n < v.sws) && bytesAt cls (16 + n) 1 == 2))
  firstFault ([lenFault e 68] ++ (List.range 16).map rail ++ (List.range 24).map sw ++ [at' 67 (zeroBytes b 67 1)])

/-- DEVICE. -/
def deviceFault (b : List Byte) (e : DirEntry) : ImgFault :=
  let at' (o : Nat) (ok : Bool) : ImgFault := need ok 4 e.type (e.off + o)
  let prog (x : Nat) : Bool := decide (x < 4) || x == 0xFF
  firstFault [lenFault e 32,
    at' 0 (decide (5000 ≤ bytesAt b 0 2) && decide (bytesAt b 0 2 ≤ 20000)), at' 2 (decide (bytesAt b 2 1 < 4)),
    at' 3 (prog (bytesAt b 3 1)), at' 4 (prog (bytesAt b 4 1)), at' 5 (zeroBytes b 5 3),
    at' 8 (decide (5 ≤ bytesAt b 8 4) && decide (bytesAt b 8 4 ≤ 500)), at' 16 (zeroBytes b 16 16)]

def isRailT (v : Variant) (t : Nat) : Bool := decide (t < v.rails)
def isSwT (v : Variant) (t : Nat) : Bool := decide (0x40 ≤ t) && decide (t - 0x40 < v.sws)
/-- A step's TARGET under its action. -/
def targetOk (v : Variant) (a t : Nat) : Bool :=
  match a with
  | 0 | 8 | 9 => t == 0xFF
  | 1 | 2 | 3 => isRailT v t
  | 4 | 5 => isSwT v t
  | 6 | 7 => decide (0x60 ≤ t) && decide (t ≤ 0x63)
  | 10 => t == 0x71 || (t == 0x70 && v.hasDown)
  | _ => false
/-- A step's ARG under its action. -/
def argOk (a x : Nat) : Bool :=
  match a with
  | 1 => x == 0 || (decide (300 ≤ x) && decide (x ≤ 16000))
  | 3 => true
  | 8 => decide (x ≤ 31)
  | 10 => decide (x ≤ 255)
  | _ => x == 0
/-- A step's QTARGET under its qualifier. -/
def qtargetOk (v : Variant) (q t : Nat) : Bool :=
  match q with
  | 0 | 6 | 8 => t == 0xFF
  | 7 => t == 0xFF && v.hasPath
  | 1 | 2 => isRailT v t
  | 3 | 4 => isSwT v t
  | 5 => decide (t ≤ 31)
  | 9 | 10 => true
  | _ => false

/-- The SYNC_TO states of a program's steps rise strictly. -/
def syncRises (b : List Byte) (p i : Nat) : Bool :=
  (List.range i).all fun j =>
    !((progStep b p j).action == 8 && (progStep b p i).action == 8) || decide ((progStep b p j).arg < (progStep b p i).arg)

/-- One step of a SEQ section (R383). -/
def stepFault (v : Variant) (b : List Byte) (e : DirEntry) (p i : Nat) : ImgFault :=
  let o := 264 * p + 8 + 8 * i
  let st := progStep b p i
  let at' (k : Nat) (ok : Bool) : ImgFault := need ok 4 e.type (e.off + o + k)
  if progCount b p ≤ i then at' 0 (bytesAt b o 8 == 0)
  else
    firstFault [
      at' 0 (decide (st.action ≤ 10) && !(progDown b p && (st.action == 1 || st.action == 4))),
      at' 1 (targetOk v st.action st.target), at' 2 (argOk st.action st.arg && syncRises b p i),
      at' 4 (decide (st.qual ≤ 10) && !(st.action == 8 && st.qual != 5) && !(st.action == 9 && st.qual != 0)),
      at' 5 (qtargetOk v st.qual st.qtarget && !(st.action == 8 && st.qtarget != st.arg)),
      at' 6 (st.qual == 0 || st.qframes != 0), at' 7 (bytesAt b (o + 7) 1 % 128 != 0)]

/-- SEQ (R383), with the programs DEVICE names. -/
def seqFault (v : Variant) (b : List Byte) (e : DirEntry) (auto off : Nat) : ImgFault :=
  let prog (p : Nat) : ImgFault :=
    let at' (k : Nat) (ok : Bool) : ImgFault := need ok 4 e.type (e.off + 264 * p + k)
    let h (k : Nat) : Nat := progByte b p k
    if !progValid b p then at' 0 (decide (h 0 < 4))
    else
      firstFault ([
        at' 0 (decide (h 0 < 4)), at' 1 (decide (1 ≤ h 1) && decide (h 1 ≤ 32)),
        at' 2 (decide (h 2 < 4) && !(progDown b p && h 2 != 0)),
        at' 3 (if h 2 = 2 then decide (h 3 < 4) && h 3 != p && progValid b (h 3) else h 3 == 0xFF),
        at' 4 (zeroBytes b (264 * p + 4) 4)] ++ (List.range 32).map (stepFault v b e p))
  firstFault ([lenFault e 1056] ++ (List.range 4).map prog ++
    [need (auto == 0xFF || progValid b auto) 4 4 e.off, need (off == 0xFF || (progValid b off && progDown b off)) 4 4 e.off])

/-- RATE_LIMIT (R691). -/
def rateFault (b : List Byte) (e : DirEntry) : ImgFault :=
  firstFault (lenFault e 4096 :: (List.range 1024).map fun i =>
    let x := bytesAt b (4 * i) 4
    firstFault [
      need (!(x % 256 != 0 && x / 256 % 65536 == 0)) 4 e.type (e.off + 4 * i + 1),
      need (decide (x < 2 ^ 25)) 4 e.type (e.off + 4 * i + 3)])

/-- REG_SET (R775). -/
def regSetFault (b : List Byte) (e : DirEntry) : ImgFault :=
  firstFault (need (e.len % 8 == 0) 4 e.type e.off :: (List.range (e.len / 8)).map fun i =>
    need (isSetup (bytesAt b (8 * i) 4)) 4 e.type (e.off + 8 * i))

/-- The sections' content, a section at a time in the order of assumption 30. -/
def contentFault (v : Variant) (im : List Byte) : ImgFault :=
  let sect (t : Nat) (f : List Byte → DirEntry → ImgFault) : ImgFault :=
    match imgSection im t with
    | none => none
    | some e => f (sectBytes im e) e
  let bytes (t : Nat) : List Byte := ((imgSection im t).map (sectBytes im)).getD []
  let dev := bytes 8
  let auto := if dev.isEmpty then 0xFF else bytesAt dev 3 1
  let off := if dev.isEmpty then 0xFF else bytesAt dev 4 1
  firstFault [
    sect 5 (phaseMapFault v), sect 6 (classFault v), sect 2 (brakeFault v),
    sect 3 (fun b e => floorFault v b (bytes 6) (bytes 2) e), sect 8 deviceFault,
    match imgSection im 4 with
    | some e => seqFault v (sectBytes im e) e auto off
    | none => need (auto == 0xFF && off == 0xFF) 4 4 0,
    sect 7 rateFault, sect 1 regSetFault]

/-- The signature trailer (check 10). -/
def signFault (im : List Byte) : ImgFault :=
  if !imgSigned im then some (5, 0, 0)
  else
    let t := imgEnd im
    let key := (im.drop t).take 64
    let sig := (im.drop (t + 64)).take 64
    need (Config.sha256 key == Config.otpCfgKeyHash && Config.ecdsaOk key (Config.sha256 (im.take t)) sig) 5 0 t

/-- Every check of R806 in order: the first that fails. -/
def imageFault (v : Variant) (fwVersion : Nat) (signedOnly : Bool) (im : List Byte) : ImgFault :=
  firstFault [
    need (!((im.take 64).all (· == 0xFF))) 8 0 0,
    headerFault im,
    need (crc32c (im.take 60) == BitVec.ofNat 32 (bytesAt im 60 4)) 1 0 60,
    firstFault ((List.range (imgCount im)).map (dirFault im)),
    firstFault ((imgEntries im).map fun e =>
      need (!knownType e.type || crc32c (sectBytes im e) == BitVec.ofNat 32 e.crc) 1 e.type e.off),
    need ((bytesAt im 16 1).testBit v.code) 2 0 16,
    need (decide (bytesAt im 20 4 ≤ fwVersion)) 3 0 20,
    firstFault ([2, 3, 5, 6].map fun t => need (imgSection im t).isSome 6 t 0),
    contentFault v im,
    if signedOnly then signFault im else none]

/-! ### Load (R130, R776) -/

/-- A value put into the writable fields of a register, its other bits kept at 0. -/
def fieldsOnly (v : Variant) (off w : Nat) : Nat :=
  (regFields v off).foldl (fun a f => a + w / 2 ^ f.lo % 2 ^ f.w * 2 ^ f.lo) 0
/-- A field whose value its table calls reserved reads as a value of its own (assumption 5). -/
def fieldValue (off : Nat) (f : Fld) (x : Nat) : Nat :=
  if f.ok.isEmpty || f.ok.any (fun r => decide (r.1 ≤ x) && decide (x ≤ r.2)) then x
  else Config.reservedField off f.lo x % 2 ^ f.w
/-- A register's fields after a write of a word. -/
def writeFields (v : Variant) (off w : Nat) : Nat :=
  (regFields v off).foldl (fun a f => a + fieldValue off f (w / 2 ^ f.lo % 2 ^ f.w) * 2 ^ f.lo) 0

/-- Sets a register as accepted and in force. -/
def State.loadReg (s : State) (off w : Nat) : State :=
  let x : Word := BitVec.ofNat 32 (writeFields s.sys.variant off w)
  { s with
    regs := regInsert s.sys.variant off x s.regs
    live := regInsert s.sys.variant off x s.live }

/-- The entries a BRAKE section puts into the limit registers (R731). -/
def brakeEntries (b : List Byte) : List (Nat × Nat) :=
  ((List.range 16).flatMap fun n =>
    [(0xC100 + 16 * n, bytesAt b (16 * n) 4), (0xC104 + 16 * n, bytesAt b (16 * n + 4) 4),
     (0xC108 + 16 * n, bytesAt b (16 * n + 8) 2)]) ++
  ((List.range 24).flatMap fun n =>
    [(0xC200 + 8 * n, bytesAt b (256 + 8 * n) 4), (0xC204 + 8 * n, bytesAt b (260 + 8 * n) 4)]) ++
  [(0xC2C0, bytesAt b 448 1)]
/-- The entries of a REG_SET section. -/
def regSetEntries (b : List Byte) : List (Nat × Nat) :=
  (List.range (b.length / 8)).map fun i => (bytesAt b (8 * i) 4, bytesAt b (8 * i + 4) 4)

def clsOf (n : Nat) : Cls := if n = 2 then .s else if n = 1 then .e else .c

/-- Loads an image that passed: sections into the configuration, phases, classes and registers, in the order BRAKE then
REG_SET. -/
def State.loadImage (s : State) (im : List Byte) : State :=
  let bytes (t : Nat) : List Byte := ((imgSection im t).map (sectBytes im)).getD []
  let pm := bytes 5
  let cl := bytes 6
  let fl := bytes 3
  let dv := bytes 8
  let d (o n x : Nat) : Nat := if dv.isEmpty then x else bytesAt dv o n
  let s := { s with
    cfg.imageSeq := imgSeq im
    cfg.imageCrc := BitVec.ofNat 32 (bytesAt im 60 4)
    cfg.autolock := bytesAt im 17 1 / 2 % 2 == 1
    cfg.autolockEpochs := bytesAt im 24 2
    cfg.seqSect := bytes 4
    cfg.rateSect := bytes 7
    cfg.floorRail := (List.range 16).map fun n => (bytesAt fl (4 * n) 2, bytesAt fl (4 * n + 2) 1 % 2 == 1)
    cfg.floorSw := BitVec.ofNat 24 (bytesAt fl 64 3)
    cfg.vaonLossMv := d 0 2 8000
    cfg.wakeSrc := BitVec.ofNat 8 (d 2 1 1)
    cfg.autoProg := d 3 1 0xFF
    cfg.offProg := d 4 1 0xFF
    cfg.wakeMa := d 8 4 50
    cfg.nohostMs := d 12 4 1000
    sys.configured := true }
  let s := s.each (List.range 32) fun s m => s.modPhase m fun p => { p with owner := bytesAt pm m 1 }
  let s := s.each (List.range 16) fun s n => s.modRail n fun r => { r with cls := clsOf (bytesAt cl n 1) }
  let s := s.each (List.range 24) fun s n => s.modSw n fun c => { c with cls := clsOf (bytesAt cl (16 + n) 1) }
  (brakeEntries (bytes 2) ++ regSetEntries (bytes 1)).foldl (fun s p => s.loadReg p.1 p.2) s

/-- The slot the device loads (R130): the higher IMAGE_SEQ of those that pass, slot A at equal ones. -/
def chooseSlot (a b : List Byte) (okA okB : Bool) : Option (List Byte) :=
  if okA && okB then (if imgSeq a < imgSeq b then some b else some a)
  else if okA then some a else if okB then some b else none

/-! ### Firmware banks (R127, R723–R725) -/

/-- Engines R31 marks Active for the variant. -/
def activeEngines (v : Variant) : List Nat :=
  (List.range 16).filter fun e =>
    if e < 8 then 2 * e < v.rails else if e = 8 ∨ e = 9 then 12 * (e - 8) < v.sws
    else if e = 11 ∨ e = 12 then v.hasPath else true
def bankVersion (b : List Byte) : Nat := bytesAt b 12 8
def bankSize (b : List Byte) : Nat := bytesAt b 8 4
/-- Segment `i`: OFFSET, LENGTH, LOAD, CRC. -/
def bankSegment (b : List Byte) (i : Nat) : Nat × Nat × Nat × Nat :=
  let f (o : Nat) : Nat := bytesAt b (128 + 16 * i + o) 4
  (f 0, f 4, f 8, f 12)
def segmentOk (b : List Byte) (i : Nat) : Bool :=
  let (off, len, load, crc) := bankSegment b i
  len == 0 || (off % 8 == 0 && decide (off + len ≤ bankSize b) &&
    decide (load + len ≤ (if i % 2 = 0 then 65536 else 32768)) &&
    crc32c ((b.drop off).take len) == BitVec.ofNat 32 crc)
/-- Why a bank is rejected (R751): 1 key hash, 2 signature, 3 rollback, 4 format, 5 segment, 6 variant; 0 where it passes. -/
def bankReason (v : Variant) (rollback : Nat) (b : List Byte) : Nat :=
  let key := (b.drop 64).take 64
  let sig := (b.drop 960).take 64
  let digest := Config.sha256 (b.take 960 ++ (b.take (bankSize b)).drop 1024)
  if bytesAt b 0 4 ≠ 0x57465A50 ∨ bytesAt b 4 2 ≠ 1 ∨ bytesAt b 6 2 ≠ 1024 ∨ 4194304 < bankSize b then 4
  else if Config.sha256 key ≠ Config.otpFwKeyHash then 1
  else if !Config.ecdsaOk key digest sig then 2
  else if bankVersion b < rollback then 3
  else if !(bytesAt b 20 1).testBit v.code then 6
  else if !(List.range 32).all (segmentOk b) then 5
  else if (activeEngines v).any fun e => (bankSegment b (2 * e)).2.1 == 0 then 5
  else 0
def State.bankFault (s : State) (b : List Byte) : Nat := bankReason s.sys.variant s.sys.rollback.toNat b

end Sys2Proof.Machine
end

