-- ==== Sys2Proof/Machine/Admin.lean ====
section
/-! DEFINITION. Admin and firmware descriptors: NOP, wall offset, image and bank writes, rings and windows (spec/15 class
0x01, R569, R619, R620, R727), the anti-rollback counter (R729), and BRAKE_TIGHTEN (R628, R629). -/

namespace Sys2Proof.Machine

/-- NOP. -/
def execNop (slot : Nat) (s : State) : Host.Outcome State Fault Refusal :=
  .next (s.applyDesc 0x0101 slot (fun _ => none) fun d s => s.complete slot stDONE (descField d 24 4))

/-- WALL_SET (R79): from the next frame boundary, which completes it. -/
def execWallSet (slot : Nat) (s : State) : Host.Outcome State Fault Refusal :=
  .next (s.applyDesc 0x0103 slot (fun _ => none) fun d s =>
    { s with clk.wallNew := s.clk.wallNew ++ [(signedOf 64 (descField d 24 8), slot)] }.hold slot)

/-! ### Images and banks (R619, R620, R727) -/

/-- Bytes nothing fixes: what a write that failed or was cut short leaves. -/
def State.freeBytes (s : State) (n : Nat) : List Byte :=
  (List.range n).map fun i => (Config.freeWord (s.freeCtr + i)).setWidth 8

/-- The activity that forbids a flash write (R620): LOG_COMPACT or FW_BANK_SWAP; 0 for none. -/
def State.writeBusy (s : State) : Nat := if s.maintOn 5 then 5 else if s.maintOn 6 then 6 else 0
/-- Whether a configuration slot holds a valid image. -/
def State.slotValid (s : State) (im : List Byte) : Bool :=
  (imageFault s.sys.variant s.cfg.fwVersion s.sys.signedOnly im).isNone
/-- The slot CFG_WRITE takes (`true` is B): one with no valid image, else the lower IMAGE_SEQ; A before B where neither is
valid, B where both are valid and equal, since A is then the one loaded. -/
def State.cfgTarget (s : State) : Bool :=
  let a := s.slotValid s.cfg.slotA
  let b := s.slotValid s.cfg.slotB
  if !a then false else if !b then true else decide (imgSeq s.cfg.slotB ≤ imgSeq s.cfg.slotA)
/-- Starts a write: its slot or bank, whether firmware, the descriptor. -/
def State.writeStart (s : State) (k : Nat) (fw b : Bool) (bytes : List Byte) : State :=
  ({ s with cfg.wr := some (k, fw, b, bytes) }).hold k

/-- CFG_WRITE's own part. A second write waits, held, for the one under way. -/
def State.cfgWriteOp (s : State) (k : Nat) (d : RawDesc) (image : List Byte) : State :=
  let len := descField d 24 4
  let im := image.take len
  let slots := [s.cfg.slotA, s.cfg.slotB].filter s.slotValid
  if s.writeBusy ≠ 0 then s.complete k stMAINT s.writeBusy
  else if s.cfg.wr.isSome then s
  else if len = 0 ∨ 2097152 < len ∨ len ≠ imgSize im then s.reject k stBADPARAM 1
  else if slots.contains im then s.complete k stDONE 1
  else if slots.any fun x => decide (imgSeq im ≤ imgSeq x) then s.reject k stBADPARAM 2
  else
    match imageFault s.sys.variant s.cfg.fwVersion s.sys.signedOnly im with
    | some f => s.reject k stBADPARAM (0x10 + f.1)
    | none => s.writeStart k false s.cfgTarget im

/-- CFG_WRITE. -/
def execCfgWrite (slot : Nat) (image : List Byte) (s : State) : Host.Outcome State Fault Refusal :=
  .next (s.applyDesc 0x0104 slot (fun _ => none) fun d s => s.cfgWriteOp slot d image)

def State.setSlotBytes (s : State) (b : Bool) (bytes : List Byte) : State :=
  if b then { s with cfg.slotB := bytes } else { s with cfg.slotA := bytes }
def State.setBankBytes (s : State) (b : Bool) (bytes : List Byte) : State :=
  if b then { s with cfg.bankB := bytes } else { s with cfg.bankA := bytes }
/-- A write cut short leaves bytes of no stated value in its slot or bank. -/
def State.dropWrite (s : State) : State :=
  match s.cfg.wr with
  | none => s
  | some (_, fw, b, bytes) =>
    let junk := s.freeBytes bytes.length
    let s := { s with cfg.wr := none, freeCtr := s.freeCtr + bytes.length }
    if fw then s.setBankBytes b junk else s.setSlotBytes b junk

/-- CFG_WRITE_COMPLETE: RESULT 0 where the read-back matched, else 2. -/
def execCfgWriteComplete (ok : Bool) (s : State) : Host.Outcome State Fault Refusal :=
  match s.cfg.wr with
  | some (k, false, b, bytes) =>
    .next (if ok then ({ s with cfg.wr := none }.setSlotBytes b bytes).complete k stDONE 0
      else s.dropWrite.complete k stDONE 2)
  | _ => .next s

/-- The bank that does not run; in recovery mode, bank A (R726: neither is valid). -/
def State.otherBank (s : State) : List Byte := if s.sys.recovery then s.cfg.bankA else if s.cfg.runningB then s.cfg.bankA else s.cfg.bankB
def State.otherIsB (s : State) : Bool := !s.sys.recovery && !s.cfg.runningB
/-- What ENG_FW_STATUS and ENG_OTHER_VER show of it. -/
def State.judgeOther (s : State) : State :=
  let r := s.bankFault s.otherBank
  { s with
    cfg.otherValid := r == 0
    cfg.otherReason := r
    cfg.otherVersion := if r = 0 then bankVersion s.otherBank else 0 }

/-- FW_WRITE's own part. -/
def State.fwWriteOp (s : State) (k : Nat) (d : RawDesc) (bank : List Byte) : State :=
  let len := descField d 24 4
  let bytes := bank.take len
  if s.writeBusy ≠ 0 then s.complete k stMAINT s.writeBusy
  else if s.cfg.wr.isSome then s
  else if len = 0 ∨ 4194304 < len then s.reject k stBADPARAM 1
  else if s.otherBank = bytes then s.complete k stDONE 1
  else s.writeStart k true s.otherIsB bytes

/-- FW_WRITE. -/
def execFwWrite (slot : Nat) (bank : List Byte) (s : State) : Host.Outcome State Fault Refusal :=
  .next (s.applyDesc 0x0D01 slot (fun _ => if s.sys.recovery then none else some fBRAKE) fun d s => s.fwWriteOp slot d bank)

/-- FW_WRITE_COMPLETE: RESULT 0 valid, 2 fails R127 or R725. -/
def execFwWriteComplete (s : State) : Host.Outcome State Fault Refusal :=
  match s.cfg.wr with
  | some (k, true, b, bytes) =>
    let s := ({ s with cfg.wr := none }.setBankBytes b bytes).judgeOther
    .next (s.complete k stDONE (if s.cfg.otherReason = 0 then 0 else 2))
  | _ => .next s

/-- ROLLBACK_ADVANCE (R729). -/
def execRollbackAdvance (w : Word) (s : State) : Host.Outcome State Fault Refusal :=
  if s.sys.linkUp then
    let act : Bool := w.getLsbD 0 && w.toNat / 256 % 256 == 0xC3 && decide (s.sys.rollback.toNat < s.cfg.fwVersion) &&
      s.sys.rollbackLeft != 0
    let s := if act then
        { s with sys.rollback := BitVec.ofNat 64 s.cfg.fwVersion, sys.rollbackLeft := s.sys.rollbackLeft - 1 }
      else s
    .next (s.emit 0x0C03 15 [if act then 0 else 1, lo32 s.sys.rollback.toNat, hi32 s.sys.rollback.toNat, s.sys.rollbackLeft])
  else .next s

/-! ### Rings and windows (R569) -/

/-- The configuration RING_CREATE asks for. -/
def ringAsked (d : RawDesc) : Ring :=
  let f (a : Nat) : Nat := descField d a 1
  { cq := f 32 == 1, log2 := f 33, bind := f 34, vec := f 35, base := descField d 24 8, coalCnt := f 36, coalFr := f 37
    irqEn := f 38 == 1 }
/-- Whether a ring has the configuration asked for. -/
def Ring.same (g h : Ring) : Bool :=
  g.cq == h.cq && g.log2 == h.log2 && g.bind == h.bind && g.vec == h.vec && g.base == h.base && g.coalCnt == h.coalCnt &&
  g.coalFr == h.coalFr && g.irqEn == h.irqEn
/-- RING_CREATE's lowest own cause; 0 for none. -/
def State.ringCause (s : State) (r : Nat) (h : Ring) : Nat :=
  if r < 2 ∨ (s.ring r).st ≠ .disabled then 1
  else if h.log2 < 4 ∨ 12 < h.log2 then 2
  else if h.base % 4096 ≠ 0 then 3
  else if h.cq = false ∧ !((s.ring h.bind).cq && (s.ring h.bind).st == .active) then 4
  else if h.coalCnt = 0 then 6
  else 0
/-- The ring's registers take the configuration. -/
def State.ringToRegs (s : State) (r : Nat) (h : Ring) : State :=
  let o := ringOff r
  let s := s.loadReg o (h.base % 2 ^ 32)
  let s := s.loadReg (o + 4) (h.base / 2 ^ 32)
  let s := s.loadReg (o + 8) ((if h.cq then 1 else 0) + 2 * h.log2 + 2 ^ 8 * h.bind + 2 ^ 16 * h.vec)
  s.loadReg (o + 12) (h.coalCnt + 2 ^ 8 * h.coalFr + (if h.irqEn then 2 ^ 16 else 0))
/-- RING_CREATE's own part. -/
def State.ringCreateOp (s : State) (k : Nat) (d : RawDesc) : State :=
  let r := descIndex d
  let h := ringAsked d
  if 2 ≤ r ∧ (s.ring r).st ≠ .disabled ∧ (s.ring r).same h = true then s.complete k stDONE 0
  else if s.ringCause r h ≠ 0 then s.reject k stBADPARAM (s.ringCause r h)
  else
    let s := (s.ringToRegs r h).ringEnableWith r h 1
    s.complete k stDONE (if (s.ring r).st = .active then 0 else 1)

/-- RING_CREATE. -/
def execRingCreate (slot : Nat) (s : State) : Host.Outcome State Fault Refusal :=
  .next (s.applyDesc 0x0110 slot (fun _ => none) fun d s => s.ringCreateOp slot d)

/-- Descriptors of an SQ not yet taken. -/
def State.untaken (s : State) (r : Nat) : Nat := if (s.ring r).cq then 0 else (s.ring r).pending

/-- RING_DELETE (R569, R618). -/
def execRingDelete (slot : Nat) (s : State) : Host.Outcome State Fault Refusal :=
  .next (s.applyDesc 0x0111 slot (fun _ => none) fun d s =>
    let r := descIndex d
    if 2 ≤ r ∧ (s.ring r).st = .disabled then s.complete slot stDONE 0
    else if s.ringDeleteCause r ≠ 0 then s.reject slot stBADPARAM (s.ringDeleteCause r)
    else (s.ringDisable r 1).complete slot stDONE (s.untaken r))

/-- RESET_RING (R569, R596, R605). -/
def execResetRing (slot : Nat) (s : State) : Host.Outcome State Fault Refusal :=
  .next (s.applyDesc 0x0112 slot (fun _ => none) fun d s =>
    let r := descIndex d
    if r < 2 ∨ (s.ring r).st = .disabled then s.reject slot stBADPARAM 1
    else (s.ringReset r 1).complete slot stDONE (s.untaken r))

/-- DMA_WINDOW_SET (R569, R561). -/
def execDmaWindowSet (slot : Nat) (s : State) : Host.Outcome State Fault Refusal :=
  .next (s.applyDesc 0x0113 slot (fun _ => none) fun d s =>
    let i := descIndex d
    let base := descField d 24 8
    let pages := descField d 32 4
    let attr := descField d 36 1
    if base % 4096 ≠ 0 ∨ 2 ^ 64 < base + 4096 * pages then s.reject slot stBADPARAM 2
    else
      let win : Win := { base := base, pages := pages, rd := attr % 2 == 1, wr := attr / 2 % 2 == 1 }
      let s := { s with hif.wins := s.hif.wins.modify i fun _ => win }
      let s := s.emit 0x0905 14 [i, lo32 base, hi32 base, pages % 2 ^ 30 + attr % 4 * 2 ^ 30]
      let (s, n) := s.windowCheck
      s.complete slot stDONE n)

/-! ### BRAKE_TIGHTEN (R628, R629) -/

/-- The items of a target kind. -/
def tightenItems (kind : Nat) : List Nat :=
  match kind with
  | 1 => [1, 2, 3, 4]
  | 3 => [5, 6]
  | 0 => [7]
  | _ => []
/-- Register, low bit and width of an item of unit `n`. -/
def tightenField (item n : Nat) : Nat × Nat × Nat :=
  match item with
  | 1 => (0xC100 + 16 * n, 0, 16)
  | 2 => (0xC100 + 16 * n, 16, 16)
  | 3 => (0xC104 + 16 * n, 0, 32)
  | 4 => (0xC108 + 16 * n, 0, 16)
  | 5 => (0xC200 + 8 * n, 0, 32)
  | 6 => (0xC204 + 8 * n, 0, 32)
  | _ => (0xC2C0, 0, 6)

/-- Moves a rail's target and rate inside its limits, its RAIL_SET_VOLTAGE going on to the moved target as one limited at
intake (R211). -/
def State.moveInside (s : State) (n target rate : Nat) : State :=
  let r := s.rail n
  if !r.isOn || (target == r.vtarget && rate == r.slew) then s
  else
    let set := r.setSlot
    let s := (s.modRail n fun r => { r with setSlot := none }).putTarget n target rate
    s.modRail n fun r => { r with setSlot := set.map fun p => (p.1, true) }
/-- Brings counts inside a smaller phase maximum: rails in falling index give up phases, each keeping one. -/
def State.countsInside (s : State) : State :=
  s.each s.railIdx.reverse fun s n =>
    let c := (s.rail n).active
    let excess := s.countTotal - s.phaseMax
    if excess = 0 ∨ c ≤ 1 then s else s.setCount n (max 1 (c - excess))
/-- R629: outputs in force that a tightened limit excludes. -/
def State.tightenMove (s : State) (item n : Nat) : State :=
  let r := s.rail n
  match item with
  | 1 => s.moveInside n (min r.vtarget (s.vmax n)) r.slew
  | 2 => if r.wasGood then s.moveInside n (max r.vtarget (s.vmin n)) r.slew else s
  | 3 => s.modRail n fun r => { r with inside := r.isOn }
  | 4 => s.moveInside n r.vtarget (min r.slew (s.slewMax n))
  | 5 => s.modSw n fun c => { c with inside := c.gateOn }
  | 7 => s.countsInside
  | _ => s
/-- Puts a limit in force, as accepted and for the Brake. -/
def State.setLimit (s : State) (item n v : Nat) : State :=
  let (off, lo, w) := tightenField item n
  let old := s.regv off
  s.loadReg off (old - old / 2 ^ lo % 2 ^ w * 2 ^ lo + v * 2 ^ lo)

/-- BRAKE_TIGHTEN's own part: a value wider than its field is no value of the item. -/
def State.tightenOp (s : State) (k : Nat) (d : RawDesc) : State :=
  let item := descField d 24 1
  let v := descField d 28 4
  let kind := descKind d
  let n := descIndex d
  let (off, lo, w) := tightenField item n
  let old := s.regv off / 2 ^ lo % 2 ^ w
  let looser : Bool := if item = 2 then decide (v < old) else decide (old < v)
  if !(tightenItems kind).contains item || decide (2 ^ w ≤ v) then s.reject k stBADPARAM 1
  else if looser && s.sys.lock then s.reject k stLOCKED 0
  else if (item = 1 ∧ v < s.regv off / 2 ^ 16) ∨ (item = 2 ∧ s.regv off % 2 ^ 16 < v) then s.reject k stBADPARAM 2
  else
    let s := s.setLimit item n v
    let now := s.regv off / 2 ^ lo % 2 ^ w
    let unit := if kind = 1 then n else if kind = 3 then 0x40 + n else 0xFF
    let s := s.emit 0x0C0A 0x10 [unit, item, old, now]
    (s.tightenMove item n).complete k stDONE now

/-- BRAKE_TIGHTEN. -/
def execBrakeTighten (slot : Nat) (s : State) : Host.Outcome State Fault Refusal :=
  .next (s.applyDesc 0x0D02 slot (fun _ => some fBRAKE) fun d s => s.tightenOp slot d)

end Sys2Proof.Machine
end

