-- ==== Sys2Proof/Machine/RailReg.lean ====
section
/-! DEFINITION. Rail regulation (spec/05, and the load line and pair of spec/07): the pulse hardware's rows, and the work a
rail's engine does once a frame. -/

namespace Sys2Proof.Machine

/-! ### Pulses -/

/-- The phase ripple of R179 step 2, in mA, with the mean inductance of the active phases. -/
def State.rippleMa (s : State) (n : Nat) : Rat :=
  let act := (s.railPhases n).filter fun m => (s.phase m).active
  let l : Rat := if act.isEmpty then 0 else
    ((act.map fun m => s.cfgf (0x3000 + 0x40 * m) 0 16).sum : Rat) / act.length
  let f : Rat := (s.rail n).fswMeas
  if l * f = 0 then 0 else (s.vinUsed n - (s.rail n).vref) * s.duty n / (l * f) * 1000000

/-- The reference the rail regulates to, before droop: its own, and on a follower the share offset too (R257). -/
def State.refMv (s : State) (n : Nat) : Rat :=
  (s.rail n).vref + (if s.isFollower n then (s.rail n).vsh / 1000 else 0)

/-- The reference its hardware compares with: in shadow, SHADOW_OFS below (R524). -/
def State.refOut (s : State) (n : Nat) : Rat :=
  if s.tdm.st = .shadow then s.refMv n * (1 - (s.cfgf 0x7000 0 8 : Rat) / 1000) else s.refMv n
/-- A rail's phases in use in shadow: one, the first free of the twin's own latches, or every one after a recall of its own
(R524). -/
def State.shadowPhases (s : State) (n : Nat) : List Nat :=
  let free := (s.freePhases n).filter fun m => !s.tdm.ownLatch.getLsbD m
  if s.tdm.shRecall.any (fun p => p.1 == n && decide (s.clk.tick < p.2 + s.railf n 0x1C 16 16)) then free else free.take 1
/-- The phases in rotation, in interleave order. -/
def State.rotation (s : State) (n : Nat) : List Nat :=
  if s.tdm.st = .shadow then s.shadowPhases n else (s.railPhases n).filter fun m => (s.phase m).rot
/-- The drive at a PHn_PWM ball (R120, R507): mid where the twin drives nothing. -/
def State.phaseOut (s : State) (m : Nat) : Drive :=
  let p := s.phase m
  if !s.drives then .mid
  else if s.tdm.st = .shadow && decide (p.owner < 16) && !(s.shadowPhases p.owner).contains m then .mid else p.drive
/-- Whether a channel's gate is driven above its source (R507, R524). -/
def State.gateOut (s : State) (n : Nat) : Bool :=
  (s.sw n).gateOn && (s.commands || (s.tdm.st == .shadow && (s.sw n).stbyHold))

/-- The law on-time of a rail in ps, without T_bal and T_bias (R168). -/
def State.lawPs (s : State) (n : Nat) : Rat :=
  let f : Rat := s.railf n 0x04 0 12
  if f = 0 then 0 else (s.rail n).cf * s.duty n * 1000000000 / f

/-- A pulse's on-time in ps, quantised to 125 ps and clamped to 20 ns–4 µs, and whether it was clamped (R168–R170). -/
def State.onTimePs (s : State) (n m : Nat) : Rat × Bool :=
  let t := s.lawPs n * (1 + s.biasOf n) + (s.phase m).balTrim
  let q : Rat := 125 * (roundQ 1 (t / 125) : Rat)
  (clampQ 20000 4000000 q, q < 20000 || 4000000 < q)

/-- The earliest start of a phase's next pulse, ps (R171). -/
def Phase.earliest (p : Phase) : Rat :=
  match p.start with
  | none => 0
  | some t => t + max (p.onTime + 40000) 400000

/-- A pulse starts: the cycle that ends gives the mean of its samples (R175), and the on-time is computed. -/
def State.startPulse (s : State) (n m t : Nat) : State :=
  let (ton, clamped) := s.onTimePs n m
  let s := s.modPhase m fun p => { p with
    drive := .high, start := some t, onTime := ton, pulsesNow := p.pulsesNow + 1
    cycMean := if p.start.isSome && p.cycN ≠ 0 then some ((p.cycSum : Rat) / p.cycN) else p.cycMean
    cycSum := 0, cycN := 0 }
  let order := s.rotation n
  s.modRail n fun r => { r with
    tonClampNow := r.tonClampNow || clamped, trigWait := false
    nextPh := (order.idxOf m + 1) % max 1 order.length }

/-- A pulse ends: the low side conducts until the next pulse, or until zero crossing (R187, R189). -/
def State.endPulse (s : State) (m : Nat) : State := s.modPhase m fun p => { p with drive := .low }

/-- The synthesised ripple in µV (R175, R176). -/
def State.vsyn (s : State) (n : Nat) : Rat :=
  (s.rail n).gainRot *
    ((s.rotation n).map fun m =>
      match (s.phase m).cycMean with
      | some mean => ((s.phase m).ilast - mean) / 1000
      | none => 0).sum

/-- The comparison of R177, in µV, with the droop of R247. -/
def State.comparison (s : State) (n : Nat) : Rat :=
  let r := s.rail n
  (r.vsense - 1000 * s.refOut n) + r.droop + s.vsyn n + r.vofs

/-- Looks for a trigger at time `t` ps: it goes to the next phase in rotation, or waits for it (R177, R178). -/
def State.trigger (s : State) (n t : Nat) : State :=
  let r := s.rail n
  let order := s.rotation n
  match order[r.nextPh % max 1 order.length]? with
  | none => s
  | some m =>
    let may : Bool := (s.phase m).earliest ≤ t
    if !r.isOn || r.crowbar || !s.drives then s
    else if r.trigWait then (if may then s.startPulse n m t else s)
    else if r.blankEnd ≤ t && s.comparison n ≤ 0 then
      let s := s.modRail n fun r => { r with blankEnd := t + 1000 * s.railf n 0x18 16 8, trigWait := true }
      if may then s.startPulse n m t else s
    else s

/-- A phase's peak limit in mA (R302), before the Brake's check. -/
def State.peakAsked (s : State) (n : Nat) : Rat :=
  let pk : Rat := 100 * s.protf n 0x0C 0 16
  match (s.rail n).capLim with
  | some l => min pk ((l : Rat) / max 1 (s.rail n).active + s.rippleMa n / 2)
  | none => pk
/-- The peak limit the Brake commits: at most 1.25 × IMAX / N (R734). -/
def State.peakLimit (s : State) (n : Nat) : Rat :=
  min (s.peakAsked n) (5 * (s.imax n : Rat) / (4 * max 1 (s.rail n).active))

/-- Whether a phase goes to mid at zero crossing: DEM, the start-up of R188, or leaving rotation (R189). -/
def State.demPhase (s : State) (n m : Nat) : Bool :=
  s.tdm.st == .shadow || s.railf n 0 6 1 == 1 || (s.rail n).demStart || (s.phase m).leaving

/-- A phase-current sample (R175, R187, R189, R303, R321). -/
def State.phaseWord (s : State) (m : Nat) (i : Int) (t : Nat) : State :=
  let n := (s.phase m).owner
  let s := s.modPhase m fun p => { p with ilast := i, cycSum := p.cycSum + i, cycN := p.cycN + 1 }
  if 16 ≤ n then s
  else
    let r := s.rail n
    let p := s.phase m
    let s := if p.drive == .high && s.peakLimit n < i && r.isOn then
        (s.modPhase m fun p => { p with drive := .low }).modRail n fun r => { r with
          peakNow := true
          peakFirst := if r.peakEpoch = 0 && !r.peakNow then s.clk.devTime else r.peakFirst }
      else s
    let s := if (s.phase m).drive == .low && !r.crowbar && r.isOn && s.demPhase n m && i ≤ 100 * (s.railf n 0x40 16 8 : Int) then
        s.modPhase m fun p => { p with drive := .mid, idleNow := true, leaving := false }
      else s
    let s := if r.discharging && r.st == .turnOff && (s.phase m).drive == .low && i ≤ -1000 * (s.protf n 0x20 8 8 : Int) then
        let free := s.freePhases n
        let s := s.modPhase m fun p => { p with drive := .mid }
        match free[(free.idxOf m + 1) % max 1 free.length]? with
        | some k => s.modPhase k fun p => { p with drive := .low }
        | none => s
      else s
    s.trigger n t

/-- CURRENT_STREAM_WORD: a bad word is replaced by the channel's previous one and counted (R26, R87). -/
def execCurrentStreamWord (ch : StreamCh) (good : Bool) (value : Int) (tPs : Nat) (s : State) :
    Host.Outcome State Fault Refusal :=
  if !s.running then .next s
  else
    let s := if good then s else { s with
      clk.streamRepl := s.clk.streamRepl + 1
      clk.streamReplTotal := s.clk.streamReplTotal + 1
      clk.streamReplFirst := if s.clk.streamRepl = 0 then s.clk.devTime else s.clk.streamReplFirst }
    match ch with
    | .phase m => .next (s.phaseWord m (if good then value else (s.phase m).ilast) tPs)
    | .sense n => .next ((s.modRail n fun r => { r with vsense := if good then value else r.vsense }).trigger n tPs)

/-- ON_TIME_EXPIRY (R168): the pulse of a phase whose on-time has run out ends. -/
def execOnTimeExpiry (phase tPs : Nat) (s : State) : Host.Outcome State Fault Refusal :=
  let p := s.phase phase
  match p.start with
  | some t0 => if p.drive = .high ∧ (t0 : Rat) + p.onTime ≤ tPs then .next (s.endPulse phase) else .next s
  | none => .next s

/-- Ends every pulse in progress on a rail (R190). -/
def State.truncate (s : State) (n : Nat) : State :=
  s.each (s.railPhases n) fun s m => if (s.phase m).drive == .high then s.endPulse m else s

/-- A recall (R192, R193): every free phase into rotation at once, and the hold begins. -/
def State.recall (s : State) (n : Nat) (errUv : Rat) (t : Nat) : State :=
  let r := s.rail n
  let again := r.recallHold && r.recallSince == s.clk.tick
  let s := if again then s else
    s.emitHw t 0x0205 0x11 [n, i32 (roundQ 2 (errUv / 1000)), r.active, s.frame]
  let full := (s.freePhases n).length
  (s.modRail n fun r => { r with
    recallHold := true, recallSince := s.clk.tick
    recallCnt := if again then r.recallCnt else satInc 32 r.recallCnt
    countChg := if r.active = full then r.countChg else satInc 32 r.countChg
    active := full, shedSince := s.clk.tick }).applyCounts n

/-- A recall of a standby's own rail (R524): every free phase of its hardware, and no change of what it recomputes. -/
def State.shadowRecall (s : State) (n : Nat) (errUv : Rat) (t : Nat) : State :=
  let s := if s.tdm.shRecall.any (fun p => p.1 == n && p.2 == s.clk.tick) then s else
    s.emitHw t 0x0205 0x11 [n, i32 (roundQ 2 (errUv / 1000)), (s.rail n).active, s.frame]
  { s with tdm.shRecall := s.tdm.shRecall.filter (·.1 ≠ n) ++ [(n, s.clk.tick)] }

/-- The error of a fast word in µV: the saturated word restored to V_sense − V_ref (R163, R164). -/
def State.fastErr (s : State) (n : Nat) (uv : Int) : Rat :=
  1000 * (s.rail n).coarse + clampQ (-1024000) 1024000 uv - 1000 * s.refOut n
/-- A transient window of RAIL_WINDOW in µV, its field at bit `lo`: within the word's span, and in shadow at most 3 %
(R164, R190, R192, R524). -/
def State.fastWin (s : State) (n lo : Nat) : Rat :=
  let f := s.railf n 0x18 lo 8
  min 1000000 (s.refOut n * (if s.tdm.st == .shadow then min 30 f else f))

/-- FAST_ERROR_WORD (R163, R164, R190, R192, R227): the word saturates at its span and is restored to V_sense − V_ref. -/
def execFastErrorWord (rail : Nat) (uv : Int) (t : Nat) (s : State) : Host.Outcome State Fault Refusal :=
  let r := s.rail rail
  if !r.isOn || r.crowbar || !s.running then .next s
  else
    let sh : Bool := s.tdm.st == .shadow
    let err := s.fastErr rail uv
    let win (lo : Nat) : Rat := s.fastWin rail lo
    let s := if win 0 < err then
        (s.truncate rail).modRail rail fun r => { r with
          truncNow := true
          truncMax := max r.truncMax (roundN 3 (err / 1000))
          truncFirst := if r.truncEpoch = 0 && !r.truncNow then t else r.truncFirst }
      else s
    let s := if sh then (if err < -(win 8) then s.shadowRecall rail err t else s)
      else if s.railf rail 0 7 1 = 1 ∧ err < -(win 8) then s.recall rail err t else s
    let b := s.biasOf rail
    let far : Rat := 15 * (s.rail rail).vtarget
    let wd (e : Option Fc) : Option Fc := e.map fun f =>
      if (0 < f.di ∧ far < err) ∨ (f.di < 0 ∧ err < -far) then { f with withdrawn := true } else f
    .next (if b = 0 then s else s.modRail rail fun r => { r with fcHost := wd r.fcHost, fcLead := wd r.fcLead })

/-- The reference has reached its target (R212, R218): a setpoint command completes, and the mask's end is set. -/
def State.reached (s : State) (n : Nat) : State :=
  let r := s.rail n
  let s := match r.setSlot with
    | some (k, lim) => s.complete k (if lim then stLIMIT else stDONE) r.vtarget
    | none => s
  s.each (s.pairUnits n) fun s u => s.modRail u fun r => { r with
    setSlot := none, st := .steady, slewEnd := s.clk.tick
    maskEnd := if r.mask then some (s.clk.tick + s.railf u 0x88 0 8) else none }

/-- REFERENCE_UPDATE (R204): 1 ns of movement at the slew rate in force, never past the target. Slew is in 0.1 mV/µs. -/
def execReferenceUpdate (rail : Nat) (s : State) : Host.Outcome State Fault Refusal :=
  let r := s.rail rail
  if !r.isOn || s.isFollower rail || s.clk.tick < r.onTick || r.vref == r.vtarget then .next s
  else
    let step : Rat := (r.slew : Rat) / 10000
    let v : Rat := if r.vref ≤ r.vtarget then min (r.vref + step) r.vtarget else max (r.vref - step) r.vtarget
    let s := s.each (s.pairUnits rail) fun s u => s.modRail u fun r => { r with
      vref := v
      demStart := r.demStart && decide (v < r.prebias)
      maskLo := min r.maskLo v
      maskHi := max r.maskHi v }
    .next (if v = r.vtarget then s.reached rail else s)

/-! ### Shedding -/

/-- Rail current averaged over AVG_FRAMES (R196). -/
def State.iAvg (s : State) (n : Nat) : Rat :=
  let l := (s.rail n).iHist.take (s.railf n 0x1C 8 8)
  if l.isEmpty then 0 else ((l.sum : Int) : Rat) / l.length

/-- Shedding runs (R193, R194, R197). -/
def State.shedOn (s : State) (n : Nat) : Bool :=
  let r := s.rail n
  r.isOn && r.pg && s.railf n 0x1C 0 1 == 1 && !r.shedBad && !r.recallHold && !s.brake.inFloor

/-- The shed interval has passed since the last count change. -/
def State.shedDue (s : State) (n : Nat) : Bool := (s.rail n).shedSince + s.railf n 0x1C 16 16 ≤ s.clk.tick

/-- PHASE_SHED (R196): the next allowed count below, if it meets MIN_PHASES and the ADD guard. -/
def execPhaseShed (rail : Nat) (s : State) : Host.Outcome State Fault Refusal :=
  let r := s.rail rail
  let minPh := s.railf rail 0 8 4
  let drop : Rat := 100 * s.railf rail (0x20 + 4 * (r.active - 1)) 16 16
  if s.shedOn rail && s.shedDue rail && minPh < r.active && s.iAvg rail < drop then
    match ((List.range r.active).filter fun k => 1 ≤ k && s.countOk rail k).getLast? with
    | some k =>
      let guard : Rat := 100 * (s.railf rail (0x20 + 4 * (k - 1)) 0 16 : Rat) - 1000 * s.railf rail 0x1C 4 4
      .next (if minPh ≤ k ∧ s.iAvg rail < guard then s.setCount rail k else s)
    | none => .next s
  else .next s

/-- RECALL_HOLD_END (R193): one full shed interval without a recall. -/
def execRecallHoldEnd (rail : Nat) (s : State) : Host.Outcome State Fault Refusal :=
  let r := s.rail rail
  if r.recallHold ∧ r.recallSince + s.railf rail 0x1C 16 16 ≤ s.clk.tick then
    .next ((s.modRail rail fun r => { r with recallHold := false, shedSince := s.clk.tick }).applyCounts rail)
  else .next s

/-! ### The rail engine's frame -/

/-- The input voltage of R158 as the sample set shows it, mV. -/
def State.vinSample (s : State) (n : Nat) : Nat :=
  match s.railf n 0 0 2 with
  | 0 => s.smp.busMv
  | 1 => (roundN 4 ((s.smp.railMv.getD (s.railf n 0 2 4) 0 : Rat) * s.railf n 0x08 16 16 / 256))
  | _ => s.railf n 0x08 0 16

/-- Takes the input voltage and judges the clamp of R161, recorded as it begins to act. -/
def State.takeVin (s : State) (n : Nat) : State :=
  let raw := s.vinSample n
  let s := s.modRail n fun r => { r with vin := raw }
  let acts : Bool := (raw : Rat) < (s.rail n).vref + 1000 || 70000 < raw
  let s := if acts && !(s.rail n).vinClamp then
      s.emit 0x0207 (railEng n) [n, s.railf n 0 0 2, raw, roundN 5 (s.vinUsed n)] else s
  s.modRail n fun r => { r with vinClamp := acts }

/-- C_f: the spec gives its bounds and what it achieves, not its law, so it is a free value within 0.8–1.2 (R172). -/
def State.adjustCf (s : State) (n : Nat) : State :=
  let c := s.freeIn (4 / 5) (6 / 5)
  let s := s.freeStep
  let lim : Bool := c == 4 / 5 || c == 6 / 5
  let s := if lim && !(s.rail n).freqClamp then
      s.emit 0x0203 (railEng n) [n, (s.rail n).fswMeas, s.railf n 0x04 0 12, roundN 6 (4096 * c)] else s
  s.modRail n fun r => { r with cf := c, freqClamp := lim }

/-- V_off moves by 1/16 of the difference, within ±3 % of the reference; held while slewing and 10 frames after (R173). -/
def State.adjustVofs (s : State) (n : Nat) : State :=
  let r := s.rail n
  if r.vref ≠ r.vtarget ∨ s.clk.tick ≤ r.slewEnd + 10 then s
  else
    let ref : Rat := 1000 * s.refMv n - r.droop
    let v := clampQ (-(30 * r.vref)) (30 * r.vref) (r.vofs + (1000 * (r.mv : Rat) - ref) / 16)
    s.modRail n fun r => { r with vofs := v }

/-- Droop (R246): RLL × I_rail within 0 to DROOP_MAX of V_ref; the limit is recorded once per epoch. -/
def State.adjustDroop (s : State) (n : Nat) : State :=
  let r := s.rail n
  let req : Rat := (s.railf n 0xC0 0 16 : Rat) * r.iout / 1000
  let cap : Rat := r.vref * s.railf n 0xC0 16 8
  let v := if s.railf n 0xC0 0 16 = 0 then 0 else clampQ 0 cap req
  let clamped : Bool := s.railf n 0xC0 0 16 ≠ 0 && cap < req
  let s := if clamped && !r.droopClampEpoch then
      s.emit 0x020B (railEng n) [n, i32 (roundQ 7 req), i32 (roundQ 7 v), i32 r.iout] else s
  s.modRail n fun r => { r with droop := v, droopClampEpoch := r.droopClampEpoch || clamped }

/-- The follower's share offset (R257), held within ±1 % of V_ref. -/
def State.adjustShare (s : State) (n : Nat) : State :=
  if !s.isFollower n then s
  else
    let l := s.rail (n - 1); let f := s.rail n
    let e : Rat := f.iout - (s.railf (n - 1) 0xC4 8 8 : Rat) / 100 * (l.iout + f.iout)
    let g : Rat := s.railf (n - 1) 0xC4 16 8
    let lim : Rat := 10 * f.vref
    let v := if g = 0 then 0 else clampQ (-lim) lim (f.vsh - g * e / 1000)
    s.modRail n fun r => { r with
      vsh := v, shareErr := e
      vshLim := r.vshLim && (v == lim || v == -lim) }

/-- T_bal of each active phase (R185). -/
def State.adjustBalance (s : State) (n : Nat) : State :=
  let act := (s.railPhases n).filter fun m => (s.phase m).active
  let mean : Rat := if act.isEmpty then 0 else (((act.map fun m => (s.phase m).iavg).sum : Int) : Rat) / act.length
  let lim : Rat := s.lawPs n * s.railf n 0x40 8 8 / 1000
  s.each act fun s m => s.modPhase m fun p =>
    let v := clampQ (-lim) lim (p.balTrim - (s.railf n 0x40 0 8 : Rat) * (p.iavg - mean) / 1000)
    { p with balTrim := v, balLimRun := if v == lim || v == -lim then p.balLimRun + 1 else 0 }

/-- The ripple trim (R180, R184). -/
def State.adjustTrim (s : State) (n : Nat) : State :=
  let r := s.rail n
  let idle := ((s.railPhases n).any fun m => (s.phase m).active && (s.phase m).idle)
  let sh := s.railf n 0x0C 24 4
  let tgt : Rat := s.railf n 0x0C 0 16
  let v : Rat := if sh = 0 then 1 else if idle || tgt == 0 then r.trim
    else clampQ (1 / 2) 2 (r.trim * (1 + (tgt - r.ripMeas) / tgt / (2 ^ sh : Nat)))
  s.modRail n fun r => { r with trim := v }

/-- G for a count (R179, R184), before its limits; a vanishing ripple asks for no bound. -/
def State.gainFor (s : State) (n c : Nat) : Option Rat :=
  let idle := ((s.railPhases n).any fun m => (s.phase m).active && (s.phase m).idle)
  let k := if idle then 1 else kFactor c (s.duty n)
  let di := s.rippleMa n / 1000
  if k * di ≤ 0 then none else some ((s.railf n 0x0C 0 16 : Rat) / (k * di) * (s.rail n).trim)

/-- The committed gains, their limits and the record of reaching one (R179, R181, R182). -/
def State.adjustGain (s : State) (n : Nat) : State :=
  let lo := s.railf n 0x10 0 20
  let hi := s.railf n 0x14 0 20
  let lim (g : Option Rat) : Nat := match g with | none => hi | some q => roundN 8 (clampQ lo hi q)
  let g := s.gainFor n (s.rail n).active
  let a := lim g
  let r := s.rail n
  let gc : Bool := a == lo || a == hi
  let tc : Bool := r.trim == 1 / 2 || r.trim == 2
  let s := if (gc && !r.gainClamp) || (tc && !r.trimClamp) then
      s.emit 0x0202 (railEng n) [n, (match g with | none => 2 ^ 32 - 1 | some q => roundN 8 q), a, roundN 9 (4096 * r.trim)] else s
  s.modRail n fun r => { r with gain := a, gainRot := lim (s.gainFor n (s.rotCount n)), gainClamp := gc, trimClamp := tc }

/-- Counts (R183, R194, R195): the assigned count until good, an add at once, a count no longer allowed moved up. -/
def State.adjustCount (s : State) (n : Nat) : State :=
  let r := s.rail n
  let full := (s.freePhases n).length
  if r.recallHold then s
  else if !s.shedOn n then (if r.active < full then s.setCount n full else s)
  else if r.active < full ∧ (100 * (s.railf n (0x20 + 4 * (r.active - 1)) 0 16 : Int) < r.iout ∨ r.active = 0) then
    s.setCount n (s.addCount n r.active r.iout)
  else if !s.countOk n r.active then
    s.setCount n ((((List.range full).filter fun k => r.active < k && s.countOk n k).head?).getD full)
  else s

/-- The Brake's check of the peak limit (R734): one clipping in each frame whose limit is above 1.25 × IMAX / N, unless
R629 moved it inside. -/
def State.checkPeak (s : State) (n : Nat) : State :=
  let lim : Rat := 5 * (s.imax n : Rat) / (4 * max 1 (s.rail n).active)
  if (s.rail n).active ≠ 0 ∧ lim < s.peakAsked n ∧ (s.rail n).inside = false then
    s.brakeClip n 3 (roundN 10 (s.peakAsked n)) (roundN 10 lim) (railEng n) else s

/-- One rail's stage 3 and commit: regulation, the Brake's checks, and the comparator level of R304. -/
def State.railFrameEnd (s : State) (n : Nat) : State :=
  let eng := railEng n
  let lvl (s : State) : State := s.modRail n fun r =>
    { r with ovLvl := (if r.mask then r.maskHi else r.vref) * (1 + (s.protf n 0 8 8 : Rat) / 1000) }
  if !(s.rail n).isOn then s
  else if s.brake.inFloor || s.clk.overranCtl.getLsbD eng then lvl s
  else
    let s := s.takeVin n
    let s := s.adjustCf n
    let s := s.adjustDroop n
    let s := s.adjustShare n
    let s := s.adjustVofs n
    let s := s.adjustCount n
    let s := s.adjustTrim n
    let s := s.adjustGain n
    let s := s.adjustBalance n
    let s := s.checkPeak n
    let s := s.modRail n fun r => { r with coarse := r.vref }
    lvl s

/-- What a frame's sample set gives a rail (R165, R180): voltage, current, frequency, ripple, and the hardware's reports
of truncation, peak limit and clamped on-times. -/
def State.railSample (s : State) (n : Nat) : State :=
  let ph := s.railPhases n
  let s := s.each ph fun s m => s.modPhase m fun p => { p with
    iavg := s.smp.phaseMa.getD m 0, flt := s.smp.phFlt.getLsbD m
    pulses := p.pulsesNow, pulsesNow := 0, idle := p.idleNow, idleNow := false }
  let i : Int := ((ph.filter fun m => (s.phase m).active || (s.phase m).rot).map fun m => (s.phase m).iavg).sum
  let lim := roundN 11 (s.peakLimit n / 100)
  s.modRail n fun r => { r with
    mv := s.smp.railMv.getD n 0, iout := i, iHist := (i :: r.iHist).take 100
    fswMeas := s.smp.fswKhz.getD n 0, ripMeas := s.smp.ripUv.getD n 0
    iEpoch := r.iEpoch + i, pEpoch := r.pEpoch + (s.smp.railMv.getD n 0 : Int) * i / 1000
    peakLast := r.peakNow, peakNow := false
    peakMin := if r.peakNow then (if r.peakEpoch = 0 then lim else min r.peakMin lim) else r.peakMin
    peakEpoch := if r.peakNow then r.peakEpoch + 1 else r.peakEpoch
    truncNow := false, truncEpoch := if r.truncNow then r.truncEpoch + 1 else r.truncEpoch
    truncCnt := if r.truncNow then satInc 32 r.truncCnt else r.truncCnt
    tonClamp := r.tonClampNow, tonClampNow := false }

end Sys2Proof.Machine
end

