-- ==== Sys2Proof/Machine/RailCmd.lean ====
section
/-! DEFINITION. Rail commands, power-good masks and forecasts (spec/06, spec/15 class 0x02 and 0x07). -/

namespace Sys2Proof.Machine

/-- RAIL_CMD_STATUS.STATE's code. -/
def CmdState.code : CmdState → Nat
  | .off => 0 | .softStart => 1 | .steady => 2 | .slewing => 3 | .turnOff => 4
/-- PROT_LATCH.STATE's code. -/
def LState.code : LState → Nat
  | .none => 0 | .retryWait => 1 | .latched => 2

/-- R65: a fault action or a sequencer turn-off of this frame stands against a command on the rail. -/
def State.railTaken (s : State) (n : Nat) : Bool :=
  let r := s.rail n
  r.actTick == some s.clk.tick || (r.seqTick == some s.clk.tick && !r.isOn)

/-- RAIL_ON's own part (R206, R217, R618). -/
def State.railOnOp (s : State) (k : Nat) (d : RawDesc) : State :=
  let n := descIndex d
  let r := s.rail n
  let sp := descField d 24 2
  if s.isFollower n then s.reject k stBADPARAM 3
  else if r.isOn then s.complete k stDONE 0
  else if r.seqTick = some s.clk.tick ∨ r.shedTick = some s.clk.tick then s.complete k stABORTED 0
  else if s.holdShed r.shed then s.complete k stABORTED 0x0603
  else match s.railOnCause n sp with
    | some c => s.reject k stBADPARAM c
    | none =>
      let tgt := if sp = 0 then s.railf n 0x80 0 16 else sp
      let (s, t, clipped) := s.turnOn n tgt 0
      if clipped then s.complete k stLIMIT t
      else (s.modRail n fun r => { r with onSlot := some k }).hold k

/-- RAIL_ON. -/
def execRailOn (slot : Nat) (s : State) : Host.Outcome State Fault Refusal :=
  .next (s.applyDesc 0x0201 slot (fun _ => some fRAIL) fun d s => s.railOnOp slot d)

/-- RAIL_OFF's own part (R324, R618, R621, R809). -/
def State.railOffOp (s : State) (k : Nat) (d : RawDesc) : State :=
  let n := descIndex d
  let r := s.rail n
  if s.isFollower n then s.reject k stBADPARAM 3
  else if s.railTaken n then s.complete k stABORTED 0
  else if r.isOn then
    let s := (s.turnOff n 0).seqNotify n false
    if (s.rail n).st = .off then s.complete k stDONE 0
    else (s.modRail n fun r => { r with offSlots := r.offSlots ++ [k] }).hold k
  else if r.st = .turnOff ∧ r.lstate ≠ .latched then
    ((s.cancelRetry n).modRail n fun r => { r with offSlots := r.offSlots ++ [k] }).hold k
  else (s.cancelRetry n).complete k stDONE 0

/-- RAIL_OFF. -/
def execRailOff (slot : Nat) (s : State) : Host.Outcome State Fault Refusal :=
  .next (s.applyDesc 0x0202 slot (fun _ => some fRAIL) fun d s => s.railOffOp slot d)

/-- RAIL_SET_VOLTAGE's own part (R209–R216). -/
def State.railSetOp (s : State) (k : Nat) (d : RawDesc) : State :=
  let n := descIndex d
  let tgt := descField d 24 2
  let rate := descField d 26 2
  if s.railTaken n then s.complete k stABORTED 0
  else if !(s.rail n).isOn then s.reject k stBADPARAM 1
  else if s.isFollower n then s.reject k stBADPARAM 3
  else if tgt < 300 ∨ 16000 < tgt ∨ 500 < rate then s.reject k stBADPARAM 4
  else
    let (s, t, lim) := s.applySetpoint n tgt rate
    if (s.rail n).vref = t then s.complete k (if lim then stLIMIT else stDONE) t
    else (s.modRail n fun r => { r with setSlot := some (k, lim) }).hold k

/-- RAIL_SET_VOLTAGE. -/
def execRailSetVoltage (slot : Nat) (s : State) : Host.Outcome State Fault Refusal :=
  .next (s.applyDesc 0x0203 slot (fun _ => some fRAIL) fun d s => s.railSetOp slot d)

/-- RAIL_QUERY's RESULT (R622). -/
def State.railQueryWord (s : State) (n : Nat) : Nat :=
  let r := s.rail n
  roundN 20 r.vref % 2 ^ 16 + 2 ^ 16 * r.st.code + 2 ^ 19 * (r.active % 16) + 2 ^ 23 * r.lstate.code +
    2 ^ 25 * (if r.pg then 1 else 0)

/-- RAIL_QUERY. -/
def execRailQuery (slot : Nat) (s : State) : Host.Outcome State Fault Refusal :=
  .next (s.applyDesc 0x0204 slot (fun _ => some fRAIL) fun d s =>
    s.complete slot stDONE (s.railQueryWord (descIndex d)))

/-- PGMASK_END (R218, R221). -/
def execPgmaskEnd (rail : Nat) (s : State) : Host.Outcome State Fault Refusal :=
  let r := s.rail rail
  match r.maskEnd with
  | some e =>
    if r.mask && e ≤ s.clk.tick then
      .next (s.modRail rail fun r => { r with
        mask := false, maskEnd := none, qual := if r.pg then r.qual else 0 })
    else .next s
  | none => .next s

/-! ### Forecasts -/

/-- Speculation for an entry is due: this frame ends at or after T − LEAD × 10 µs (R225). -/
def State.specDue (s : State) (n : Nat) (e : Fc) : Bool :=
  !e.spec && (s.rail n).isOn && (e.t : Int) - 10000 * (s.railf n 0x8C 0 8 : Int) ≤ (s.evalStrobe : Int) + 10000

/-- The speculative count (R226), within the phase maximum (R230); none is proposed for ΔI below 0 or with shedding off. -/
def State.specCountFor (s : State) (n : Nat) (di : Int) : Nat :=
  let r := s.rail n
  if di ≤ 0 ∨ s.railf n 0x1C 0 1 = 0 then 0
  else
    let want := max r.active (s.addCount n 0 (r.iout + di))
    let room := r.active + (s.phaseMax - s.countTotal)
    min want room

/-- Starts speculation for an entry (R225–R230). -/
def State.specStart (s : State) (n : Nat) (lead : Bool) : State :=
  match (s.rail n).entry lead with
  | none => s
  | some e =>
    if s.specDue n e then
      let e' := { e with
        spec := true, specTick := s.clk.tick, baseline := (s.rail n).iout, count := s.specCountFor n e.di
        biasOn := s.railf n 0x8C 16 8 != 0 }
      (s.modRail n fun r => { r.setEntry lead (some e') with specAct := satInc 32 r.specAct }).applyCounts n
    else s

/-- SPECULATION_START. -/
def execSpeculationStart (rail : Nat) (leader : Bool) (s : State) : Host.Outcome State Fault Refusal :=
  .next (s.specStart rail leader)

/-- BIAS_END (R228): T + RISE has come in this frame. -/
def execBiasEnd (rail : Nat) (leader : Bool) (s : State) : Host.Outcome State Fault Refusal :=
  match (s.rail rail).entry leader with
  | some e =>
    if e.biasOn && decide (e.t + 1000 * e.rise < s.evalStrobe + 10000) then
      .next (s.modRail rail fun r => r.setEntry leader (some { e with biasOn := false }))
    else .next s
  | none => .next s

/-- FORECAST_RETIRE (R238): the sample set covers T + WINDOW and the entry is not confirmed. -/
def execForecastRetire (rail : Nat) (leader : Bool) (s : State) : Host.Outcome State Fault Refusal :=
  match (s.rail rail).entry leader with
  | some e =>
    if e.t + 1000 * e.window ≤ s.evalStrobe then .next (s.retireFc rail leader stDONE 2) else .next s
  | none => .next s

/-- A new entry of a source replaces the one it holds (R224): the replaced FORECAST_POST completes SUPERSEDED, and effects
the new entry also calls for go on. -/
def State.putForecast (s : State) (n : Nat) (lead : Bool) (e : Fc) : State :=
  let old := (s.rail n).entry lead
  let s := s.modRail n fun r => r.setEntry lead (some e)
  let s := match old with
    | some o =>
      let s := if o.spec && !s.specDue n e then
          (s.modRail n fun r => { r with specUndo := satInc 32 r.specUndo }).applyCounts n else s
      let s := match o.slot with | some k => s.complete k stSUPERSEDED 0 | none => s
      if o.spec then s.specStart n lead else s
    | none => s
  s

/-- The field ranges of R222. -/
def fcFieldsOk (di : Int) (rise window : Nat) : Bool :=
  di != 0 && di.natAbs ≤ 400000 && 1 ≤ rise && rise ≤ 1000 && 20 ≤ window && window ≤ 10000 && rise ≤ window

/-- FORECAST_POST's own part (R222–R224). -/
def State.forecastOp (s : State) (k : Nat) (d : RawDesc) : State :=
  let n := descIndex d
  let t := descField d 24 8
  let di := signedOf 32 (descField d 32 4)
  let rise := descField d 36 2
  let window := descField d 38 2
  let at' := (s.tag k).intakeAt
  if s.railTaken n then s.complete k stABORTED 0
  else if !(s.rail n).isOn then s.reject k stBADPARAM 1
  else if s.railf n 0x8C 24 1 = 0 then s.reject k stBADPARAM 2
  else if s.isFollower n then s.reject k stBADPARAM 3
  else if !fcFieldsOk di rise window || decide (at' + 100000000 < t) then s.reject k stBADPARAM 4
  else if t + 1000 * window < at' then s.reject k stDEADLINE 0
  else (s.hold k).putForecast n false { t := t, di := di, rise := rise, window := window, slot := some k }

/-- FORECAST_POST. -/
def execForecastPost (slot : Nat) (s : State) : Host.Outcome State Fault Refusal :=
  .next (s.applyDesc 0x0701 slot (fun _ => some fRAIL) fun d s => s.forecastOp slot d)

/-- FORECAST_CANCEL (R239). -/
def execForecastCancel (slot : Nat) (s : State) : Host.Outcome State Fault Refusal :=
  .next (s.applyDesc 0x0702 slot (fun _ => some fRAIL) fun d s =>
    (s.retireFc (descIndex d) false stDONE 3).complete slot stDONE 0)

/-- R236, R237: an entry whose rail current has moved by CONFIRM % of ΔI is confirmed in this frame. -/
def State.confirmFc (s : State) (n : Nat) (lead : Bool) : State :=
  match (s.rail n).entry lead with
  | none => s
  | some e =>
    let r := s.rail n
    let moved : Int := (r.iout - e.baseline) * (if 0 < e.di then 100 else -100)
    if e.spec && e.specTick < s.clk.tick && decide ((s.evalStrobe : Int) - 10000 ≤ e.t + 1000 * (e.window : Int)) &&
        decide ((e.di.natAbs : Int) * s.railf n 0x8C 8 8 ≤ moved) then
      let s := s.modRail n fun r => { r.setEntry lead none with fcConf := satInc 32 r.fcConf }
      let s := if r.active < e.count then s.setCount n e.count else s.applyCounts n
      let s := s.modRail n fun r => { r with shedSince := s.clk.tick }
      let s := s.emit 0x0E01 (railEng n) [n, if lead then 1 else 0, (s.rail n).active, s.clk.tick - e.specTick]
      match e.slot with | some k => s.complete k stDONE 1 | none => s
    else s

end Sys2Proof.Machine
end

