-- ==== Sys2Proof/Machine/RailProt.lean ====
section
/-! DEFINITION. Rail protection, turn-off and good conditions (spec/08; R377–R380 of spec/10): the rows, and the judgement a
rail's engine makes in steps 1 to 3 of a frame. -/

namespace Sys2Proof.Machine

/-! ### Step 1: fault timers (R296, R300, R319) -/

/-- The references the UV and OV levels are taken of: the mask's envelope while it runs (R220). -/
def Rail.envLo (r : Rail) : Rat := if r.mask then r.maskLo else r.vref
def Rail.envHi (r : Rail) : Rat := if r.mask then r.maskHi else r.vref

/-- UV and OC fault levels, mV and mA, and the OT fault level, 1/16 °C (R296). -/
def State.uvLevel (s : State) (n : Nat) : Rat := (s.rail n).envLo * (1 - (s.protf n 4 8 8 : Rat) / 1000)
def State.ocLevel (s : State) (n : Nat) : Int := min (100 * s.protf n 8 16 16) (s.imax n) 
def State.otLevel (s : State) (n : Nat) : Int := 16 * (s.protf n 0x10 8 8 : Int)

/-- One timer's step: up beyond the level, else down to 0. -/
def tickTimer (beyond : Bool) (t : Nat) : Nat := if beyond then t + 1 else t - 1

/-- FAULT_TIMER_START where a timer leaves 0 (R300); it also ends a run of good frames (R317). -/
def State.timerStart (s : State) (n kind : Nat) (started : Bool) (value level : Int) : State :=
  if started then
    (s.emit 0x0302 (railEng n) [n, kind, i32 value, i32 level]).modRail n fun r => { r with goodRun := 0 }
  else s

/-- A rail's timers and short count in one frame, and the frames its waits and holds run. -/
def State.railStep1 (s : State) (n : Nat) : State :=
  let r := s.rail n
  let s := s.modRail n fun r => { r with
    retryWait := if s.brake.inFloor then r.retryWait else r.retryWait - 1, crowbarLeft := r.crowbarLeft - 1, disCnt := if r.discharging then r.disCnt + 1 else 0 }
  let s := s.each (s.railPhases n) fun s m => s.modPhase m fun p =>
    { p with fltRun := if p.flt && r.st != .off then p.fltRun + 1 else 0 }
  if !r.isOn || s.brake.inFloor then s
  else
    let uv : Bool := (r.mv : Rat) < s.uvLevel n
    let oc : Bool := s.ocLevel n < r.iout
    let ot : Bool := s.otLevel n < s.tdieNow
    let s := s.timerStart n 2 (uv && r.uvT == 0) r.mv (roundQ 30 (s.uvLevel n))
    let s := s.timerStart n 3 (oc && r.ocT == 0) r.iout (s.ocLevel n)
    let s := s.timerStart n 4 (ot && r.otT == 0) s.tdieNow (s.otLevel n)
    let blank : Bool := r.onTick + s.protf n 0x18 0 8 ≤ s.clk.tick
    let short : Bool := blank && !r.wasGood && r.peakLast &&
      decide (100 * (r.mv : Rat) < (s.protf n 0x18 8 8 : Rat) * r.vref)
    s.modRail n fun r => { r with
      uvT := tickTimer uv r.uvT, ocT := tickTimer oc r.ocT, otT := tickTimer ot r.otT
      shortT := if short then r.shortT + 1 else 0 }

/-! ### Step 2: warnings (R298, R299) -/

/-- One warning's set or clear, with its record. -/
def State.warn (s : State) (n kind : Nat) (now set clr : Bool) (value level : Int) : State × Bool :=
  if !now && set then (s.emit 0x0301 (railEng n) [n, kind, i32 value, i32 level], true)
  else if now && clr then (s.emit 0x0301 (railEng n) [n, kind + 256, i32 value, i32 level], false)
  else (s, now)

/-- A rail's warnings in one frame. -/
def State.railStep2 (s : State) (n : Nat) : State :=
  let r := s.rail n
  if s.brake.inFloor then s
  else if r.isOn then
    let ov := s.ovWarn n
    let uv := s.uvWarn n
    let oc := s.ocWarn n
    let ot := s.otWarn n
    let m := r.vref / 200
    let (s, ovW) := if r.mask then (s, r.ovW) else
      s.warn n 1 r.ovW (decide (ov < r.mv)) (decide ((r.mv : Rat) ≤ ov - m)) r.mv (roundQ 31 ov)
    let (s, uvW) := if r.mask then (s, r.uvW) else
      s.warn n 2 r.uvW (decide ((r.mv : Rat) < uv)) (decide (uv + m ≤ r.mv)) r.mv (roundQ 32 uv)
    let (s, ocW) := s.warn n 3 r.ocW (decide (oc < r.iout)) (decide (100 * r.iout ≤ 98 * oc)) r.iout oc
    let (s, otW) := s.warn n 4 r.otW (decide (ot < s.tdieNow)) (decide (s.tdieNow ≤ ot - 32)) s.tdieNow ot
    s.modRail n fun r => { r with ovW := ovW, uvW := uvW, ocW := ocW, otW := otW }
  else if r.st = .off ∧ r.parkTick < s.clk.tick then
    let l := s.protf n 0x24 0 16
    let (s, w) := s.warn n 5 r.offPres (decide (l < r.mv)) (decide (10 * r.mv ≤ 9 * l)) r.mv l
    s.modRail n fun r => { r with offPres := w }
  else s

/-! ### Step 3: power-good (R377–R381, R811) -/

/-- The voltage part of the good condition, with its hysteresis (R378, R379). -/
def State.voltPart (s : State) (n : Nat) : Bool :=
  let r := s.rail n
  let f (lo : Nat) : Rat := s.cfgf (0x5100 + 4 * n) lo 8
  let h := if r.voltMet then f 16 else 0
  decide (r.vref * (1000 - f 0 - h) ≤ 1000 * (r.mv : Rat)) && decide (1000 * (r.mv : Rat) ≤ r.vref * (1000 + f 8 + h))

/-- The good condition of this frame: a follower takes its leader's. -/
def State.goodNow (s : State) (n : Nat) : Bool :=
  let l := s.leadOf n
  let r := s.rail l
  r.isOn && !r.mask && r.voltMet && r.uvT == 0 && r.ocT == 0 && r.otT == 0

/-- A rail's power-good in one frame, with RAIL_ON's completion when it is first given (R217). -/
def State.railStep3 (s : State) (n : Nat) : State :=
  let s := s.modRail n fun r => { r with voltMet := r.isOn && s.voltPart n }
  let r := s.rail n
  if s.brake.inFloor || !r.isOn then
    s.modRail n fun r => { r with good := false, pg := false, qual := 0, goodRun := 0 }
  else
    let g := s.goodNow n
    let qual := if g then min 255 (r.qual + 1) else 0
    let pg : Bool := if r.mask then r.pg else g && (r.pg || s.cfgf (0x5100 + 4 * n) 24 8 ≤ qual)
    let s := s.modRail n fun r => { r with
      good := g, qual := qual, pg := pg, wasGood := r.wasGood || pg
      goodRun := if pg then r.goodRun + 1 else if r.mask then r.goodRun else 0 }
    match r.onSlot with
    | some k => if pg then (s.modRail n fun r => { r with onSlot := none }).complete k stDONE (s.clk.tick - r.onTick) else s
    | none => s

/-! ### Fault actions (R311–R316, R325, R329) -/

/-- The causes whose fault action is due, in PROT_LATCH bits (R300, R310, R319). -/
def State.railDue (s : State) (n : Nat) : List Nat :=
  let r := s.rail n
  if !r.isOn || s.brake.inFloor then []
  else
    (if s.protf n 4 16 8 ≤ r.uvT then [1] else []) ++ (if s.protf n 0x0C 16 8 ≤ r.ocT then [2] else []) ++
    (if s.protf n 0x10 16 8 ≤ r.otT then [3] else []) ++
    (if (s.freePhases n).length < s.protf n 0x14 12 4 then [4] else []) ++
    (if s.protf n 0x18 16 8 ≤ r.shortT then [5] else [])

/-- The action a cause asks for: 0 LATCH, 1 RETRY, 3 short. -/
def State.causeAction (s : State) (n c : Nat) : Nat :=
  match c with
  | 1 => s.protf n 0x14 0 2
  | 2 => s.protf n 0x14 2 2
  | 3 => s.protf n 0x14 4 2
  | 4 => s.protf n 0x14 6 2
  | _ => 3

/-- FAILED_DOWN where a power-down program holds or discharges a rail (R325). -/
def State.failedDown (s : State) (n cause : Nat) : State :=
  let r := s.rail n
  let (p, st) := if r.heldByDown then (s.seq.prog, s.seq.step) else r.downStep
  s.emit 0x030A (railEng n) [n, cause, p, st]

/-- Whether a power-down program holds or discharges a rail (R325). -/
def Rail.byDown (r : Rail) : Bool := r.heldByDown || r.disByDown

/-- The fault action for the causes due on a rail, which acts on both rails of a pair (R312). -/
def State.faultAct (s : State) (n : Nat) (causes : List Nat) : State :=
  let l := s.leadOf n
  let r := s.rail n
  let lr := s.rail l
  let short : Bool := causes.contains 5
  let down := r.byDown
  let at' := if r.heldByDown then (s.seq.prog, s.seq.step) else r.downStep
  let latch : Bool := down || causes.any fun c => s.causeAction n c == 0
  let spent : Bool := !latch && s.protf l 0x1C 0 4 ≤ lr.retries
  let first := causes.headD 0
  let s := if short then
      s.emit 0x0305 (railEng n) [n, r.mv, roundN 33 r.vref, s.clk.tick - r.onTick] else s
  let s := s.each causes fun s c => s.emit 0x0303 (railEng n) [n, c, s.causeAction n c, lr.retries]
  let code := if short then 0x0305 else 0x0303
  let s := if down then s.failedDown n first else s
  let s := if short && !down then s.shortOff n code else s.turnOff n code
  let bits := maskOf causes + (if down then 64 else 0)
  let wait := max (s.protf l 0x1C 8 8 * (s.clk.tick - lr.onTick)) (framesMs (s.protf l 0x1C 16 16))
  let s := s.each (s.pairUnits n) fun s u => s.modRail u fun r => { r with
    actTick := some s.clk.tick
    lstate := if latch || spent then .latched else .retryWait
    causes := if latch || spent then r.causes ||| BitVec.ofNat 8 bits else r.causes
    retryWait := if latch || spent then 0 else wait
    retryOt := !(latch || spent) && causes.contains 3
    retryCause := first
    disByDown := down && r.st == .turnOff, downStep := at' }
  let s := if spent then s.emit 0x0308 (railEng n) [n, first, lr.retries] else s
  s.seqNotify n true

/-- RAIL_FAULT (R311): a UV, OC or OT timer has reached its set value. -/
def execRailFault (rail : Nat) (s : State) : Host.Outcome State Fault Refusal :=
  let due := s.railDue rail
  .next (if due.any (fun c => c = 1 ∨ c = 2 ∨ c = 3) then s.faultAct rail due else s)

/-- SS_SHORT (R319): SHORT_TMR consecutive frames in peak limit below SHORT_V. -/
def execSsShort (rail : Nat) (s : State) : Host.Outcome State Fault Refusal :=
  let due := s.railDue rail
  .next (if due.contains 5 then s.faultAct rail due else s)

/-- PHASE_LATCH (R309, R310). A standby's own inputs latch its own phases (R525); an active yields where the action falls on
a class S rail (R534). -/
def execPhaseLatch (phase : Nat) (s : State) : Host.Outcome State Fault Refusal :=
  let p := s.phase phase
  let n := p.owner
  if s.tdm.st = .shadow ∧ n < 16 ∧ s.tdm.ownLatch.getLsbD phase = false ∧
      s.protf n 0x14 8 4 ≤ s.tdm.ownFlt.getD phase 0 then
    let s := { s with tdm.ownLatch := setBit s.tdm.ownLatch phase, tdm.ownFault := some (1, phase) }
    .next (s.emit 0x0306 (railEng n) [phase, n, ((s.freePhases n).filter fun m => !s.tdm.ownLatch.getLsbD m).length])
  else if 16 ≤ n || p.latched || (s.rail n).st == .off || p.fltRun < s.protf n 0x14 8 4 then .next s
  else
    let s := s.modPhase phase fun p => { p with latched := true, drive := .mid, start := none, fltRun := 0 }
    let s := s.modRail n fun r => { r with active := min r.active (s.freePhases n).length }
    let s := if (s.rail n).isOn then s.applyCounts n else s
    let s := s.emit 0x0306 (railEng n) [phase, n, (s.freePhases n).length]
    let due := s.railDue n
    .next (if due.contains 4 then
        (if s.canYield && (s.rail n).cls == .s then { s with tdm.yieldReq := 4 } else s.faultAct n due) else s)

/-- The comparator's level (R304): in shadow, the active's (R524). -/
def State.ovLevel (s : State) (n : Nat) : Rat :=
  match s.tdm.st, s.tdm.mirror.head? with
  | .shadow, some b => b.ovLevelMv.getD n 0
  | _, _ => (s.rail n).ovLvl

/-! ### The crowbar (R304–R308) -/

/-- OV_CROWBAR (R306): judged against the level committed at the last latch; the report of R39 is part of this row. -/
def execOvCrowbar (rail peakMv t : Nat) (s : State) : Host.Outcome State Fault Refusal :=
  let r := s.rail rail
  if r.st == .off || r.crowbar || !decide (s.ovLevel rail < peakMv) then .next s
  else
    let hold := s.protf rail 0 16 8
    let s := s.emitHw t 0x0304 (railEng rail) [rail, roundN 34 (s.ovLevel rail), peakMv, hold]
    let s := s.emitHw t 0x0303 (railEng rail) [rail, 0, 2, (s.rail (s.leadOf rail)).retries]
    let down := r.byDown
    let s := if down then s.failedDown rail 0 else s
    let s := s.each (s.pairUnits rail) fun s u =>
      let lvl := s.ovLevel u
      let s := if (s.rail u).isOn then s.endOn u 0x0304 else s
      let s := s.modRail u fun r => { r with
        offTick := if r.st = .turnOff then r.offTick else s.clk.tick
        st := .turnOff, crowbar := true, crowbarLeft := framesMs hold, crowbarLvl := lvl
        discharging := false, uvT := 0, ocT := 0, otT := 0, shortT := 0, actTick := some s.clk.tick
        causes := if down then setBit r.causes 6 else r.causes, disByDown := down
        downStep := if r.heldByDown then (s.seq.prog, s.seq.step) else r.downStep }
      s.each (s.railPhases u) fun s m => s.modPhase m fun p =>
        { p with drive := .low, active := false, rot := false, leaving := false, start := none }
    let s := { s with rcd.crowbars := satInc 32 s.rcd.crowbars }
    .next (s.seqNotify rail true)

/-- CROWBAR_HOLD_END (R307): the hold has run and the rail is at or below 10 % of the level. -/
def execCrowbarHoldEnd (rail : Nat) (s : State) : Host.Outcome State Fault Refusal :=
  let r := s.rail rail
  if r.crowbar && r.crowbarLeft == 0 && decide (10 * (r.mv : Rat) ≤ r.crowbarLvl) then
    let s := s.park rail
    .next (s.modRail rail fun r => { r with lstate := .latched, causes := setBit r.causes 0, retryWait := 0 })
  else .next s

/-! ### Retries (R314, R315, R317) -/

/-- RAIL_RETRY. -/
def execRailRetry (rail : Nat) (s : State) : Host.Outcome State Fault Refusal :=
  let r := s.rail rail
  let otOk : Bool := !r.retryOt || decide (s.tdieNow < 16 * (s.protf rail 0x10 0 8 : Int))
  if r.lstate = .retryWait ∧ r.retryWait = 0 ∧ otOk = true ∧ s.brake.inFloor = false ∧ s.isFollower rail = false ∧
      s.holdShed r.shed = false then
    let s := s.each (s.pairUnits rail) fun s u => s.modRail u fun r => { r with lstate := .none, retryOt := false }
    let s := s.modRail rail fun r => { r with retries := r.retries + 1 }
    let s := s.emit 0x0307 (railEng rail) [rail, r.retries + 1, (s.clk.tick - r.offTick) / 100, r.retryCause]
    .next (s.turnOn rail r.onTarget 0).1
  else .next s

/-- RETRY_COUNT_RESET (R317): good for 100 epochs with no timer starting. -/
def execRetryCountReset (rail : Nat) (s : State) : Host.Outcome State Fault Refusal :=
  .next (if 10000 ≤ (s.rail rail).goodRun then s.modRail rail fun r => { r with retries := 0 } else s)

/-! ### Discharge (R322, R326) -/

/-- At or below 10 % of the last setpoint. -/
def Rail.low10 (r : Rail) : Bool := decide (10 * (r.mv : Rat) ≤ r.offVref)

/-- DISCHARGE_END. -/
def execDischargeEnd (rail : Nat) (s : State) : Host.Outcome State Fault Refusal :=
  let r := s.rail rail
  .next (if r.st == .turnOff && r.discharging && r.low10 then s.park rail else s)

/-- DISCHARGE_TIMEOUT, with the report of R326 and R396 where a power-down program turned the rail off. -/
def execDischargeTimeout (rail : Nat) (s : State) : Host.Outcome State Fault Refusal :=
  let r := s.rail rail
  if r.st == .turnOff && r.discharging && !r.low10 && s.protf rail 0x20 16 16 ≤ r.disCnt then
    let s := s.emit 0x0309 (railEng rail) [rail, r.mv, roundN 35 (r.offVref / 10), r.disCnt]
    let s := s.park rail
    if r.disByDown then
      let s := s.emit 0x0503 10 [r.downStep.1, r.downStep.2, 6, rail]
      .next (if s.seq.running && s.seq.down && s.seq.firstCause == 0 then { s with seq.firstCause := 6 } else s)
    else .next s
  else .next s

/-! ### Clearing (R328) -/

/-- Whether a latched cause's condition is gone. -/
def State.causeGone (s : State) (n c : Nat) : Bool :=
  let r := s.rail n
  match c with
  | 0 => decide (10 * (r.mv : Rat) < r.crowbarLvl)
  | 3 => decide (s.tdieNow < 16 * (s.protf n 0x10 0 8 : Int))
  | 4 => decide (s.protf n 0x14 12 4 ≤ (s.freePhases n).length)
  | _ => true

/-- RAIL_CLEAR's own part. -/
def State.railClearOp (s : State) (k : Nat) (d : RawDesc) : State :=
  let n := descIndex d
  let pm := descField d 24 4
  if (s.rail n).actTick = some s.clk.tick then s.complete k stABORTED 0
  else if (bitsOf 32 pm).any (fun m => (s.phase m).owner != n) then s.reject k stBADPARAM 1
  else
    let ph := (bitsOf 32 pm).filter fun m => (s.phase m).latched && !(s.phase m).flt
    let s := s.each ph fun s m => s.modPhase m fun p => { p with latched := false, fltRun := 0 }
    if (s.rail n).isOn then
      let s := (s.modRail n fun r => { r with shedSince := s.clk.tick }).applyCounts n
      (s.emit 0x030B (railEng n) [n, 0, (s.rail n).causes.toNat, maskOf ph]).complete k stDONE
        (256 * (s.rail n).causes.toNat)
    else
      let c := (s.rail n).causes.toNat
      let clr := maskOf ((bitsOf 8 c).filter fun b => s.causeGone n b)
      let kept := c - clr
      let s := (s.modRail (s.leadOf n) fun r => { r with retries := 0 }).modRail n fun r => { r with
        retries := 0, causes := BitVec.ofNat 8 kept, retryWait := 0, retryOt := false
        lstate := if kept ≠ 0 then .latched else if r.crowbar then r.lstate else .none }
      (s.emit 0x030B (railEng n) [n, clr, kept, maskOf ph]).complete k stDONE (clr + 256 * kept)

/-- RAIL_CLEAR. -/
def execRailClear (slot : Nat) (s : State) : Host.Outcome State Fault Refusal :=
  .next (s.applyDesc 0x0205 slot (fun _ => some fRAIL) fun d s => s.railClearOp slot d)

end Sys2Proof.Machine
end

