-- ==== Sys2Proof/Machine/Recorder.lean ====
section
/-! DEFINITION. The event recorder and the frame trace (spec/18): buckets, flash pages, cursor and snapshot, the log head at
boot, and the trace's entries, freeze and slots. -/

namespace Sys2Proof.Machine

/-! ### Buckets (R693–R696) -/

/-- SUPPRESSED for a code (R694). -/
def State.suppressedRecord (s : State) (b : Bucket) : State :=
  (s.setBucket { b with supp := 0, suppTime := 0 }).occur
    (mkRecord s false true s.clk.strobe 0x0B01 0x15 [b.code, b.supp, lo32 b.suppTime, hi32 b.suppTime])

/-- TOKEN_REFILL (R693, R694). -/
def execTokenRefill (code : Nat) (s : State) : Host.Outcome State Fault Refusal :=
  let b := s.bucket code
  if b.refillIn = some 0 then
    let b := { b with
      tokens := b.tokens + 1
      refillIn := if b.tokens + 1 < s.burst code then some (s.refillEpochs code) else none }
    let s := s.setBucket b
    .next (if b.supp = 0 then s else s.suppressedRecord b)
  else .next s

/-- Pending exempt records are admitted while global tokens last (R696). `fuel` bounds their number. -/
def State.drainPend (s : State) : Nat → State
  | 0 => s
  | f + 1 =>
    match s.rcd.pendSum with
    | [] => s
    | r :: rs =>
      if s.rcd.global = 0 then s
      else (({ s with rcd.pendSum := rs, rcd.global := s.rcd.global - 1 }).admitRec r).drainPend f

/-- The epoch boundary of the buckets: the global refill, the waiting records, the refill counts, and SUPPRESSED for codes
without a refill running. -/
def State.recEpoch (s : State) : State :=
  let s := { s with
    rcd.global := min 256 (s.rcd.global + 12)
    rcd.suppEpoch := 0 }
  let s := s.drainPend (s.rcd.pendSum.length)
  s.rcd.buckets.foldl (fun s b =>
    match b.refillIn with
    | some n => s.setBucket { b with refillIn := some (n - 1) }
    | none =>
      if s.burst b.code ≠ 0 ∧ b.tokens < s.burst b.code then
        s.setBucket { b with refillIn := some (s.refillEpochs b.code) }
      else if b.supp = 0 then s else s.suppressedRecord b) s

/-! ### Bytes (R684, R686) -/

def recordBytes (r : Record) : List Byte :=
  leBytes 2 r.code ++ [r.flags] ++ leBytes 1 r.source ++ leBytes 4 r.seq.toNat ++ leBytes 8 r.time ++ leBytes 4 r.p0.toNat ++
  leBytes 4 r.p1.toNat ++ leBytes 4 r.p2.toNat ++ leBytes 4 r.p3.toNat

/-- The GONE marker for a SEQ. -/
def State.gone (s : State) (seq : BitVec 32) : Record :=
  { code := 0xFFFF, flags := 0, source := 0xFF, seq := seq, time := 0, p0 := s.rcd.oldest, p1 := 0, p2 := 0, p3 := 0 }
/-- A SEQ already produced reads as its record, from flash or staging, or as GONE. -/
def State.recAt (s : State) (seq : BitVec 32) : Record :=
  match (s.rcd.log ++ s.rcd.staging).find? (·.seq = seq) with
  | some r => r
  | none => s.gone seq
/-- Newest admitted SEQ. -/
def State.recHead (s : State) : BitVec 32 := if s.rcd.any then s.rcd.next - 1 else 0
/-- `a` is above `b` by serial comparison (R17). -/
def serialAbove (a b : BitVec 32) : Bool := serialNewer a b

/-! ### Flash (R698–R706) -/

/-- The lowest SEQ still held once `n` is in flash: the 32 sectors ahead of the head are erased (R706). -/
def State.oldestAfter (s : State) (n : BitVec 32) : BitVec 32 :=
  let cand := BitVec.ofNat 32 ((n.toNat + 1) / 128 * 128 + 4096) - 1048576#32
  if (n - cand).toNat ≤ (n - s.rcd.oldest).toNat then cand else s.rcd.oldest
/-- Programs the oldest `k` staged records. -/
def State.program (s : State) (k : Nat) : State :=
  let page := s.rcd.staging.take k
  match page.getLast? with
  | none => s
  | some r =>
    let first : Bool := s.rcd.log.isEmpty
    let s := if first then { s with rcd.oldest := (page.headD r).seq } else s
    let old := s.oldestAfter r.seq
    { s with
      rcd.log := (s.rcd.log ++ page).filter fun x => decide ((r.seq - x.seq).toNat ≤ (r.seq - old).toNat)
      rcd.oldest := old
      rcd.flashSeq := r.seq
      rcd.staging := s.rcd.staging.drop k
      rcd.stageTick := s.rcd.stageTick.drop k }
/-- RECORDS_LOST for records lost while staging was full, or after VAON loss, once room returns (R702). -/
def State.lostRecords (s : State) : State :=
  if s.rcd.staging.length < s.stagingRoom then
    let s := if s.rcd.lostNow = 0 then s
      else { s with rcd.lostNow := 0 }.occur (mkRecord s false false s.clk.strobe 0x0B02 0x15 [s.rcd.lostNow, 1, 0, 0])
    if s.rcd.lost3 = 0 ∨ s.sys.vaonLost = true then s
    else { s with rcd.lost3 := 0 }.occur (mkRecord s false false s.clk.strobe 0x0B02 0x15 [s.rcd.lost3, 3, 0, 0])
  else s

/-- FLASH_PAGE_WRITE (R698): a whole page of 8 records. -/
def execFlashPageWrite (s : State) : Host.Outcome State Fault Refusal :=
  .next (if 8 ≤ s.rcd.staging.length then (s.program 8).lostRecords else s)

/-- PARTIAL_PAGE_FLUSH (R698): the oldest staged record is 10 ms old. -/
def execPartialPageFlush (s : State) : Host.Outcome State Fault Refusal :=
  match s.rcd.stageTick.head? with
  | some t => .next (if t + 1000 ≤ s.clk.tick then (s.program 8).lostRecords else s)
  | none => .next s

/-- Programs the whole of staging. -/
def State.flushAll (s : State) : State := s.program s.rcd.staging.length

/-- STAGING_FLUSHED (R701, R496): after VAON loss. -/
def execStagingFlushed (s : State) : Host.Outcome State Fault Refusal :=
  if s.sys.vaonLost then
    let s := s.flushAll
    .next (if s.gauge.shutWait then s.nvShutdown true else s)
  else .next s

/-! ### Cursor, window and snapshot (R708–R710) -/

/-- REC_CURSOR_WRITE (R708): a later write replaces a fetch under way. -/
def execRecCursorWrite (w : Word) (s : State) : Host.Outcome State Fault Refusal :=
  .next (if s.sys.linkUp then { s with rcd.cursor := w, rcd.winBusy := true, rcd.window := [] } else s)

/-- REC_SNAP (R708, R710). -/
def execRecSnap (s : State) : Host.Outcome State Fault Refusal :=
  .next (if s.sys.linkUp then
    { s with rcd.snapSeq := s.recHead, rcd.snapValid := true, rcd.winBusy := true, rcd.window := [] } else s)

/-- WINDOW_FETCH_DONE (R708, R709). -/
def execWindowFetchDone (s : State) : Host.Outcome State Fault Refusal :=
  .next (if s.rcd.winBusy then
    { s with
      rcd.winBusy := false
      rcd.window := (List.range 8).map fun k =>
        let seq := s.rcd.cursor + BitVec.ofNat 32 k
        if serialAbove seq s.rcd.snapSeq || !s.rcd.any then none
        else if serialAbove s.rcd.oldest seq then some (s.gone seq)
        else some (s.recAt seq) }
    else s)

/-- REC_READ's own part (R624). -/
def State.recReadOp (s : State) (k : Nat) (d : RawDesc) : State :=
  let first := BitVec.ofNat 32 (descField d 24 4)
  let n := descField d 28 2
  let a := descField d 32 8
  if n = 0 ∨ 4096 < n ∨ a % 32 ≠ 0 then s.reject k stBADPARAM 1
  else
    let have' := if s.rcd.any ∧ !serialAbove first s.recHead then (s.recHead - first).toNat + 1 else 0
    let rs := (List.range (min n have')).map fun i => s.recAt (first + BitVec.ofNat 32 i)
    let goneN := (rs.filter fun r => r.code == 0xFFFF).length
    (s.postMem a (rs.flatMap recordBytes)).complete k stDONE (rs.length + 2 ^ 16 * goneN)

/-- REC_READ. -/
def execRecRead (slot : Nat) (s : State) : Host.Outcome State Fault Refusal :=
  .next (s.applyDesc 0x0901 slot (fun _ => some fREC) fun d s => s.recReadOp slot d)

/-! ### Log head (R704) and held records (R703) -/

/-- LOG_HEAD_FOUND: SEQ resumes, with RECORDS_LOST for the range skipped after a reset that lost staging. -/
def State.logHead (s : State) : State :=
  if s.rcd.log.isEmpty then { s with rcd.next := 0, rcd.any := false }
  else if s.rcd.flushedShut then { s with rcd.next := s.rcd.flashSeq + 1, rcd.any := true }
  else
    let s := { s with rcd.next := s.rcd.flashSeq + 513, rcd.any := true }
    s.occur (mkRecord s false false s.clk.strobe 0x0B02 0x15
      [512, 4, (s.rcd.flashSeq + 1).toNat, (s.rcd.flashSeq + 512).toNat])
/-- Records held before REC was ready are admitted in the order of production. -/
def State.admitHeld (s : State) : State :=
  let s : State := s.rcd.hold.foldl (fun s r => s.passBuckets r) { s with rcd.hold := [] }
  if s.rcd.lost2 = 0 then s
  else { s with rcd.lost2 := 0 }.occur (mkRecord s false false s.clk.strobe 0x0B02 0x15 [s.rcd.lost2, 2, 0, 0])
/-- Records held in the safe floor are admitted at its exit. -/
def State.admitFloor (s : State) : State :=
  s.rcd.floorHold.foldl (fun s r => s.passBuckets r) { s with rcd.floorHold := [] }

/-! ### Frame trace (R711–R719) -/

def satU (n : Nat) : BitVec 16 := BitVec.ofNat 16 (min n 65535)
def satS (i : Int) : BitVec 16 := BitVec.ofNat 16 (twos 16 (max (-32768) (min 32767 i)))
/-- A bit of a state word. -/
def flag (b : Bool) (i : Nat) : Nat := if b then 2 ^ i else 0

/-- The value of a trace source (R712): 0 for a unit the variant lacks. -/
def State.traceVal (s : State) (src i : Nat) : BitVec 16 :=
  let v := s.sys.variant
  let r := s.rail i
  let c := s.sw i
  match src with
  | 0x01 => if i < v.rails then satU r.mv else 0
  | 0x02 => if i < v.rails then satU (roundN 40 r.vref) else 0
  | 0x03 => if i < v.rails then satS (roundQ 41 ((r.iout : Rat) / 100)) else 0
  | 0x04 => if i < v.phases then satS (roundQ 41 ((s.phase i).iavg / 100 : Rat)) else 0
  | 0x05 => if i < v.sws then satS (roundQ 41 ((c.ma : Rat) / 100)) else 0
  | 0x06 => if i < v.sws then satS (roundQ 42 (16 * c.tj)) else 0
  | 0x07 => if !v.hasPath then 0
      else match i with
        | 0 => satU (roundN 41 ((s.path.feedMv : Rat) / 10))
        | 1 => satU (roundN 41 ((s.path.busMv : Rat) / 10))
        | 2 => satU (roundN 41 ((s.path.batMv : Rat) / 10))
        | _ => 0
  | 0x08 => if !v.hasPath then 0
      else match i with
        | 0 => satS (roundQ 41 ((s.path.feedMa : Rat) / 100))
        | 1 => satS (roundQ 41 ((s.path.batMa : Rat) / 100))
        | _ => 0
  | 0x09 => if i = 0 then satS s.tdieNow else 0
  | 0x0A => if i < v.rails then
      BitVec.ofNat 16 (r.active % 16 + 16 * r.st.code + flag r.pg 7 + flag r.peakNow 8 + flag r.crowbar 9) else 0
  | 0x0B => if i < v.sws then BitVec.ofNat 16 (c.st.code + flag c.good 3 + flag c.limit 4 + flag c.fold 5) else 0
  | 0x0C => if i = 0 then
      BitVec.ofNat 16 (s.seq.step % 32 + 32 * (s.seq.prog % 4) + flag s.seq.running 7 + 256 * (s.seq.syncCount % 32) +
        flag s.seq.pgood 13 + flag s.seq.faultLow 14) else 0
  | 0x0D => if i = 0 ∧ v.hasPath = true then
      BitVec.ofNat 16 (s.path.st.code + 8 * s.path.conv.code + 128 * s.path.bat.code + flag s.path.good 11) else 0
  | 0x0E => if i = 0 then satS (roundQ 43 (s.cap.pAvg / 10000)) else 0
  | 0x0F => if i < 16 then satU (s.smp.engCycles.getD i 0) else 0
  | _ => 0
/-- REC_TRACE_CHn in force. -/
def State.traceChans (s : State) : List Word := (List.range 32).map fun n => BitVec.ofNat 32 (s.cfgv (0xB080 + 4 * n))

/-- A channel change or TRACE_EN takes effect at a frame boundary (R712, R714). -/
def State.traceBegin (s : State) : State :=
  if s.cfgb 0xB024 0 then
    let s := if s.rcd.trSt = .off then { s with rcd.trSt := .running, rcd.trBuf := [] } else s
    if s.rcd.trChans = s.traceChans then s else { s with rcd.trChans := s.traceChans, rcd.trBuf := [] }
  else if s.rcd.trSt = .running then
    let slots := match s.rcd.trTrig with | some t => t.slots | none => []
    { s with rcd.trSt := .off, rcd.trBuf := [], rcd.trTrig := none }.completeAll slots stABORTED 0
  else s
/-- TRACE_ENTRY: the Copy sub-phase writes one entry while the trace runs; none after frame T + 4,499 (R711, R715). -/
def State.traceEntry (s : State) : State :=
  let live : Bool := match s.rcd.trTrig with
    | some t => decide (s.clk.tick ≤ t.tick + 4499)
    | none => true
  if s.rcd.trSt == .running && live then
    let e : TrEntry := {
      tick := s.clk.tick, frame := s.clk.count, valid := true
      vals := s.rcd.trChans.map fun w => s.traceVal (w.toNat % 256) (w.toNat / 256 % 256) }
    { s with rcd.trBuf := (e :: s.rcd.trBuf).take 24576 }
  else s

/-- TRACE_FREEZE (R715): after the entry of frame T + 4,499; the write starts if the slot is erased. -/
def execTraceFreeze (s : State) : Host.Outcome State Fault Refusal :=
  match s.rcd.trTrig with
  | some t =>
    .next (if s.rcd.trSt = .running ∧ t.tick + 4500 ≤ s.clk.tick then
      { s with rcd.trSt := if s.rcd.trErased then .writing else .frozen, rcd.trProg := 0 } else s)
  | none => .next s

/-- ERASE_AHEAD_COMPLETE (R706, R716). -/
def execEraseAheadComplete (s : State) : Host.Outcome State Fault Refusal :=
  .next { s with
    rcd.trErased := true
    rcd.trSt := if s.rcd.trSt = .frozen then .writing else s.rcd.trSt }

/-- The frozen trace as its slot holds it: frames T − 20,000 to T + 4,499, oldest first. -/
def State.frozen (s : State) (t : TrTrig) : TrSlot :=
  let es := (s.rcd.trBuf.filter fun e => decide (t.tick ≤ e.tick + 20000) && decide (e.tick ≤ t.tick + 4499)).reverse
  let prev : BitVec 32 := match s.rcd.trNewest with
    | some k => match s.rcd.trSlots.getD k none with | some x => x.seq | none => 0
    | none => 0
  { seq := prev + 1, kind := t.kind, code := t.code, trigFrame := t.frame, trigTime := t.time, trigSeq := t.seq
    bootSeq := s.rcd.bootSeq, chans := s.rcd.trChans, entries := es }
/-- After a write, or its abandonment, the trace resumes with no earlier entries; the next slot is erased ahead. -/
def State.traceResume (s : State) : State :=
  { s with
    rcd.trSt := if s.cfgb 0xB024 0 then .running else .off
    rcd.trTrig := none
    rcd.trBuf := []
    rcd.trErased := false }

/-- TRACE_WRITTEN (R716). -/
def execTraceWritten (ok : Bool) (ms : Nat) (s : State) : Host.Outcome State Fault Refusal :=
  match s.rcd.trTrig with
  | some t =>
    if s.rcd.trSt = .writing then
      let x := s.frozen t
      let k := s.rcd.trSlot
      let s := { s with
        rcd.trSlots := s.rcd.trSlots.set k (if ok then some x else none)
        rcd.trNewest := if ok then some k else s.rcd.trNewest
        rcd.trProg := 100 }
      let first := match x.entries.head? with | some e => e.frame.toNat | none => t.frame.toNat
      let s := s.occur (mkRecord s false false s.clk.strobe 0x0B04 0x15 [k, if ok then 0 else 1, first, ms])
      .next (s.traceResume.completeAll t.slots stDONE k)
    else .next s
  | none => .next s

/-- A trace write is abandoned (R718): its slot reads as empty. -/
def State.traceAbandon (s : State) : State :=
  if s.rcd.trSt = .writing ∨ s.rcd.trSt = .frozen then
    let slots := match s.rcd.trTrig with | some t => t.slots | none => []
    { s with rcd.trSlots := s.rcd.trSlots.set s.rcd.trSlot none }.traceResume.completeAll slots stABORTED 0
  else s

/-- REC_TRIGGER's own part (R616, R714, R717). -/
def State.recTriggerOp (s : State) (k : Nat) (d : RawDesc) : State :=
  let code := descField d 24 2
  let rid := descField d 26 2
  match s.repeatOf 0x0902 rid 0 with
  | some r => s.completeRepeat k r
  | none =>
    if s.rcd.trTrig.isSome then (s.traceTrigger 0 code []).reject k stBADPARAM 2
    else if s.rcd.trSt = .off then s.reject k stBADPARAM 3
    else ((s.traceTrigger 0 code [k]).hold k).keepRun 0x0902 rid 0 k

/-- REC_TRIGGER. -/
def execRecTrigger (slot : Nat) (s : State) : Host.Outcome State Fault Refusal :=
  .next (s.applyDesc 0x0902 slot (fun _ => some fREC) fun d s => s.recTriggerOp slot d)

/-! ### A slot's bytes (R719) -/

def trSlotBytes (x : TrSlot) : List Byte :=
  let head := [0x50#8, 0x5A#8, 0x54#8, 0x52#8] ++ leBytes 2 1 ++ leBytes 2 64 ++ leBytes 4 x.seq.toNat ++ leBytes 2 x.kind ++
    leBytes 2 x.code ++ leBytes 4 x.trigFrame.toNat ++
    leBytes 4 (match x.entries.head? with | some e => e.frame.toNat | none => x.trigFrame.toNat) ++
    leBytes 4 x.entries.length ++ leBytes 8 x.trigTime ++ leBytes 4 x.trigSeq.toNat ++ leBytes 4 x.bootSeq.toNat ++
    leBytes 20 0 ++ x.chans.flatMap (fun w => leBytes 4 w.toNat) ++ leBytes 832 0
  let bad := (List.range x.entries.length).filter fun i =>
    match x.entries[i]? with | some e => !e.valid | none => false
  let head := head ++ leBytes 3064 (maskOf bad) ++ leBytes 4 0
  let body := x.entries.flatMap fun e => e.vals.flatMap fun v => leBytes 2 v.toNat
  head ++ leBytes 4 (crc32c (head ++ body)).toNat ++ body
/-- Bytes of a slot's 1.5 MB; past its entries flash stands erased. -/
def trSlotRead (x : TrSlot) (off len : Nat) : List Byte :=
  let b := trSlotBytes x
  let got := (b.drop off).take len
  got ++ List.replicate (len - got.length) 0xFF#8

/-- REC_TRACE_READ (spec/15). -/
def execRecTraceRead (slot : Nat) (s : State) : Host.Outcome State Fault Refusal :=
  .next (s.applyDesc 0x0903 slot (fun _ => some fREC) fun d s =>
    let k := descField d 24 1
    let off := descField d 28 4
    let len := descField d 40 4
    match s.rcd.trSlots.getD k none with
    | none => s.reject slot stBADPARAM 1
    | some x =>
      if off % 4096 ≠ 0 ∨ len % 4096 ≠ 0 ∨ 1572864 < off + len then s.reject slot stBADPARAM 3
      else (s.postMem (descField d 32 8) (trSlotRead x off len)).complete slot stDONE len)

end Sys2Proof.Machine
end

