-- ==== Sys2Proof/Machine/Maint.lean ====
section
/-! DEFINITION. Maintenance activities, the arbiter, and the perturbation unit's lock (spec/20). -/

namespace Sys2Proof.Machine

/-! ### The arbiter (R759–R762) -/

/-- Pairs of R760 that may run together, the lower code first; 9 is CFG_WRITE and 10 FW_WRITE. -/
def maintMay : List (Nat × Nat) :=
  [(1, 3), (1, 5), (1, 8), (1, 9), (1, 10), (2, 5), (2, 8), (2, 9), (2, 10), (3, 5), (3, 7), (3, 8), (3, 9), (3, 10),
   (4, 5), (4, 8), (4, 9), (4, 10), (5, 7), (5, 8), (7, 8), (7, 9), (7, 10), (8, 9), (8, 10)]
def maintTogether (a b : Nat) : Bool := maintMay.contains (min a b, max a b)
/-- Activities that count as running for a start of this frame: those running, those that ended in this frame, and a flash
write (R620, R762). -/
def State.maintRunning (s : State) : List Nat :=
  (bitsOf 9 s.maint.running.toNat) ++
  (if s.maint.endTick = s.clk.tick then bitsOf 9 s.maint.ending.toNat else []) ++
  (match s.cfg.wr with
   | some (_, fw, _, _) => [if fw then 10 else 9]
   | none => [])
/-- The lowest activity that forbids a start. -/
def State.maintForbids (s : State) (c : Nat) : Option Nat :=
  ((List.range 11).filter fun x => s.maintRunning.contains x && !maintTogether c x).head?

/-- The function of an activity (R752). -/
def maintUnit (c : Nat) : Option Nat :=
  match c with
  | 1 => some fGAUGE | 2 => some fTDM | 3 => some fSW | 4 => some fRAIL | 5 => some fREC | 6 => some fBRAKE | 7 => some fPATH
  | 8 => some fSEQ | _ => none
/-- R625: an activity absent on the variant. -/
def maintAbsent (v : Variant) (c : Nat) : Bool := ((c == 1 || c == 7) && !v.hasPath) || (c == 2 && !v.hasTdm)

/-! ### Starts (R752, R753) -/

/-- Channels a SW_SELFTEST tests: the selected ones that are OFF. -/
def State.testMask (s : State) (arg : Nat) : Nat :=
  maskOf (s.swIdx.filter fun n => (s.sw n).st == .off && (arg % 2 ^ 24 == 0 || (arg % 2 ^ 24).testBit n))
/-- An argument R625 does not allow. -/
def State.maintBadArg (s : State) (c arg : Nat) : Bool :=
  match c with
  | 2 => false
  | 3 => decide (2 ^ 24 ≤ arg)
  | 8 => decide (4 ≤ arg) || !s.progExists arg
  | _ => arg != 0
/-- The start conditions of R752. -/
def State.maintCond (s : State) (c arg : Nat) : Bool :=
  match c with
  | 1 => s.gauge.learn == .armed && s.path.st == .feed && s.path.bat == .ready && !s.path.chgOn
  | 2 => s.tdm.st == .active && s.tdm.peer == 6
  | 3 => s.testMask arg != 0
  | 5 => !s.rcd.flashSlow
  | 6 => s.cfg.otherValid
  | 7 => s.searchOk
  | 8 => !s.seqBusy
  | _ => true
/-- The converters ADC_CAL calibrates (R755): phases 0–31, rails 32–47, switch shunts 48–71, the gauge 72. -/
def State.calList (s : State) : List Nat :=
  s.phaseIdx ++ s.railIdx.map (32 + ·) ++ s.swIdx.map (48 + ·) ++ (if s.sys.variant.hasPath then [72] else [])
/-- Whether a converter's input is idle. -/
def State.calIdle (s : State) (c : Nat) : Bool :=
  if c < 32 then (s.phase c).drive == .mid
  else if c < 48 then (s.rail (c - 32)).st == .off
  else if c < 72 then (s.sw (c - 48)).gateLow
  else s.gauge.st == .resting || s.gauge.st == .rested
/-- Sectors of LOG_COMPACT: the journal's two halves, the trace slots without a trace, the erase-ahead. -/
def State.compactSectors (s : State) : Nat := 256 + 256 + 384 * (s.rcd.trSlots.filter (·.isNone)).length + 32
/-- What a start does. -/
def State.maintBegin (s : State) (c arg : Nat) : State :=
  match c with
  | 1 => s.convTo .assist
  | 2 => { s with
      tdm.drillPhase := 1, tdm.drillHold := if arg = 0 then 1000 else arg, tdm.drillStart := s.clk.tick
      tdm.drillDev := 0, tdm.drillUnit := 0, tdm.drillOut := 0 }
  | 3 => { s with maint.swLeft := BitVec.ofNat 24 (s.testMask arg), maint.swFail := 0, maint.swTested := 0 }
  | 4 => { s with maint.calLeft := s.calList, maint.calSkip := 0 }
  | 5 => { s with maint.compactLeft := s.compactSectors }
  | 7 => s.searchStart true
  | 8 => { s with maint.dryStep := 0, maint.dryOn := [], maint.dryFound := 0 }
  | _ => s

/-- MAINT_START's own part. -/
def State.maintStartOp (s : State) (k : Nat) (d : RawDesc) : State :=
  let c := descField d 24 1
  let rid := descField d 26 2
  let arg := descField d 28 4
  match s.repeatOf 0x0A01 rid 0 with
  | some r => s.completeRepeat k r
  | none =>
    if maintAbsent s.sys.variant c then s.reject k stABSENT 0
    else if c = 0 ∨ 8 < c then s.reject k stBADPARAM 1
    else if s.maintBadArg c arg then s.reject k stBADPARAM 2
    else
      match s.maintForbids c with
      | some f =>
        let s := { s with maint.refused := satInc 32 s.maint.refused }
        (s.emit 0x0D03 14 [c, f]).complete k stMAINT f
      | none =>
        if !s.maintCond c arg then s.reject k stBADPARAM 3
        else
          let s := { s with
            maint.running := setBit s.maint.running c
            maint.arg := s.maint.arg.set c arg
            maint.startTick := s.maint.startTick.set c s.clk.tick }
          let s := (s.emit 0x0D01 14 [c, arg, rid, s.frame]).keepRun 0x0A01 rid 0 k
          (s.maintBegin c arg).complete k stDONE 0

/-- The function whose readiness governs a maintenance descriptor (R615); none where the activity is absent or unknown. -/
def State.maintFn (s : State) (d : RawDesc) : Option Nat :=
  let c := descField d 24 1
  if maintAbsent s.sys.variant c then none else maintUnit c

/-- MAINT_START. -/
def execMaintStart (slot : Nat) (s : State) : Host.Outcome State Fault Refusal :=
  .next (s.applyDesc 0x0A01 slot s.maintFn fun d s => s.maintStartOp slot d)

/-! ### Stops (R752, R758) -/

/-- Ends an activity at once with an outcome, and with it what it drives. -/
def State.maintCut (s : State) (c outcome : Nat) : State :=
  match c with
  | 1 => ((if s.maintOn 1 && s.path.conv == .assist then s.convTo .idle else s).maintEnd 1 outcome 0)
  | 2 => { s with tdm.drillPhase := 0 }.maintEnd 2 outcome 0
  | 3 => { s with maint.swLeft := 0 }.maintEnd 3 outcome (bitsOf 24 s.maint.swFail.toNat).length
  | 4 => { s with maint.calLeft := [] }.maintEnd 4 outcome s.maint.calSkip
  | 5 => { s with maint.compactLeft := 0 }.maintEnd 5 outcome 0
  | 7 => ({ s with path.srMaint := false }.searchEnd 2 0 0 0).maintEnd 7 outcome 2
  | 8 => s.maintEnd 8 outcome s.maint.dryFound
  | _ => s.maintEnd c outcome 0
/-- Every activity ends as failed (R753). -/
def State.maintFailAll (s : State) : State := s.each (bitsOf 9 s.maint.running.toNat) fun s c => s.maintCut c 2

/-- A MAINT_STOP that waits for the activity's stopping point. -/
def State.stopAsked (s : State) (c : Nat) : Bool := s.maint.stopSlots.any (·.1 = c)
/-- Whether the stopping point is at hand: the rest stop after the channel, converter, sector or step in progress, the drill
when it has yielded back, a bank swap that has reached its safe point not at all. -/
def State.stopsNow (s : State) (c : Nat) : Bool :=
  c == 1 || c == 7 || (c == 2 && s.tdm.drillPhase ≤ 1) || (c == 6 && s.sys.warmPending.isNone)

/-- MAINT_STOP's own part. -/
def State.maintStopOp (s : State) (k : Nat) (d : RawDesc) : State :=
  let c := descField d 24 1
  if maintAbsent s.sys.variant c then s.reject k stABSENT 0
  else if c = 0 ∨ 8 < c then s.reject k stBADPARAM 1
  else if !s.maintOn c then s.complete k stDONE 0
  else
    let s := { s with maint.stopSlots := s.maint.stopSlots ++ [(c, k)] }.hold k
    if s.stopsNow c then s.maintCut c 1 else s

/-- MAINT_STOP. -/
def execMaintStop (slot : Nat) (s : State) : Host.Outcome State Fault Refusal :=
  .next (s.applyDesc 0x0A02 slot s.maintFn fun d s => s.maintStopOp slot d)

/-! ### The activities' steps -/

/-- SELFTEST_CHANNEL (R754): the next selected channel that is OFF. -/
def execSelftestChannel (result : SelfTest) (s : State) : Host.Outcome State Fault Refusal :=
  if s.maintOn 3 then
    match (bitsOf 24 s.maint.swLeft.toNat).filter fun n => (s.sw n).st == .off with
    | [] => .next (s.maintCut 3 0)
    | n :: rest =>
      let s := { s with
        maint.swTested := setBit s.maint.swTested n
        maint.swLeft := BitVec.ofNat 24 (maskOf rest) }
      let s := match result with
        | .passed => s
        | .failed check m => { s with maint.swFail := setBit s.maint.swFail n }.emit 0x0D04 (swEng n) [n, check, m, 0]
      .next (if s.stopAsked 3 then s.maintCut 3 1 else if rest.isEmpty then s.maintCut 3 0 else s)
  else .next s

/-- ADC_CAL_CONVERTER (R755): `none` where the input is not idle; the converter then keeps its calibration. -/
def execAdcCalConverter (conv : Nat) (offset : Option Int) (s : State) : Host.Outcome State Fault Refusal :=
  if s.maintOn 4 && s.maint.calLeft.contains conv then
    let s1 := { s with maint.calLeft := s.maint.calLeft.filter (· ≠ conv) }
    let s1 := match offset with
      | some o =>
        if s.calIdle conv then (if conv < 32 then s1.modPhase conv fun p => { p with iofs := o } else s1)
        else { s1 with maint.calSkip := s.maint.calSkip + 1 }
      | none => { s1 with maint.calSkip := s.maint.calSkip + 1 }
    .next (if s1.stopAsked 4 then s1.maintCut 4 1 else if s1.maint.calLeft.isEmpty then s1.maintCut 4 0 else s1)
  else .next s

/-- LOG_COMPACT_SECTOR (R752): at the last one the erase-ahead stands restored. -/
def execLogCompactSector (s : State) : Host.Outcome State Fault Refusal :=
  if s.maintOn 5 then
    let s := { s with maint.compactLeft := s.maint.compactLeft - 1 }
    .next (if s.stopAsked 5 then s.maintCut 5 1
      else if s.maint.compactLeft = 0 then { s with rcd.trErased := true }.maintCut 5 0 else s)
  else .next s

/-- The safe point of R756. -/
def State.safePoint (s : State) : Bool :=
  s.railIdx.all (fun n => (s.rail n).st != .softStart && (s.rail n).st != .slewing) && !s.seqBusy &&
  s.swIdx.all (fun n => (s.sw n).st != .ramp) &&
  (!s.sys.variant.hasPath || s.path.st == .feed || s.path.st == .noFeed)

/-- Begins the turn-off before a warm reset (R142), or on an active twin with a live standby the yield with cause 5 (R534,
R756). -/
def State.askWarm (s : State) (cause : Nat) : State :=
  let s := { s with sys.warmPending := some cause, sys.warmTick := s.clk.tick }
  if s.tdm.st = .active ∧ s.tdm.peer = 6 then { s with tdm.yieldReq := 5 }
  else
    let s := s.seqStop
    let s := s.each s.railIdx fun s n => (s.cancelRetry n).turnOff n 0
    s.each s.swIdx fun s n => s.swTurnOff n 0

/-- SAFE_POINT (R728, R756). -/
def execSafePoint (s : State) : Host.Outcome State Fault Refusal :=
  if s.maintOn 6 && s.safePoint && s.sys.warmPending.isNone then
    if s.bankFault s.otherBank = 0 then .next ({ s with cfg.journalB := s.otherIsB }.askWarm 4)
    else .next (s.judgeOther.maintCut 6 2)
  else .next s

/-- SWAP_WAIT_EXPIRY (R756). -/
def execSwapWaitExpiry (s : State) : Host.Outcome State Fault Refusal :=
  .next (if s.maintOn 6 && s.sys.warmPending.isNone &&
      decide (s.maint.startTick.getD 6 0 + 100 * s.cfgf 0xD008 0 16 ≤ s.clk.tick) then s.maintCut 6 2 else s)

/-! ### SEQ_DRYRUN (R757) -/

/-- The modelled frames of a qualifier: a rail's target over its slew rate (0.1 mV/µs is 1 mV a frame), SETTLE and PG_QUAL; a
switch's V_bus over SLEW, and one frame; else one. `on` maps a rail turned on by an earlier step to its target. -/
def State.dryFrames (s : State) (st : Step) : Nat :=
  match st.qual with
  | 1 =>
    let n := st.qtarget
    let r := s.rail n
    let target := if r.isOn then r.vtarget
      else if st.action = 1 ∧ st.target = n ∧ st.arg ≠ 0 then st.arg else s.railf n 0x80 0 16
    let slew := if r.isOn then r.slew else min (s.railf n 0x84 16 16) (s.slewMax n)
    roundN 90 ((target : Rat) / slew) + s.railf n 0x88 0 8 + s.cfgf (0x5100 + 4 * n) 16 8
  | 3 =>
    let n := st.qtarget - 0x40
    roundN 91 ((((s.swBus n).getD 0 : Nat) : Rat) / s.swf n 0x10 0 16) + 1
  | _ => 1
/-- The findings of a step: cause and modelled frames. -/
def State.dryFindings (s : State) (st : Step) : List Nat :=
  let on : Bool := match st.qual with
    | 1 | 3 => s.unitOn st.qtarget || s.maint.dryOn.contains st.qtarget ||
        ((st.action == 1 || st.action == 4) && st.target == st.qtarget)
    | _ => true
  (if s.stepCheck st = some 2 then [2] else []) ++ (if st.timeout < s.dryFrames st then [1] else []) ++ (if on then [] else [3])

/-- DRYRUN_STEP: one step per frame. -/
def execDryrunStep (s : State) : Host.Outcome State Fault Refusal :=
  let p := s.maint.arg.getD 8 0
  let i := s.maint.dryStep
  if s.maintOn 8 && decide (s.maint.startTick.getD 8 0 + i < s.clk.tick) then
    let st := progStep s.cfg.seqSect p i
    let fs := s.dryFindings st
    let frames := s.dryFrames st
    let s := fs.foldl (fun s c => s.emit 0x0D05 10 [p, i, c, frames]) s
    let s := { s with
      maint.dryStep := i + 1
      maint.dryFound := s.maint.dryFound + fs.length
      maint.dryOn := if st.action = 1 ∨ st.action = 4 then s.maint.dryOn ++ [st.target] else s.maint.dryOn }
    .next (if progCount s.cfg.seqSect p ≤ i + 1 then s.maintCut 8 0 else if s.stopAsked 8 then s.maintCut 8 1 else s)
  else .next s

/-! ### The perturbation unit's lock (R765, R766) -/

/-- TEST registers back at 0. -/
def State.testClear (s : State) : State :=
  { s with
    regs := s.regs.filter fun p => p.1 < 0xE000 || 0xF000 ≤ p.1
    live := s.live.filter fun p => p.1 < 0xE000 || 0xF000 ≤ p.1
    maint.dbHeld := [] }
/-- A change of UNLOCKED, with its record. -/
def State.testLockTo (s : State) (b : Bool) (cause : Nat) : State :=
  if s.maint.unlocked = b then s
  else { s with maint.unlocked := b }.emit 0x0D06 14 [if b then 1 else 0, cause, 0, 0]

/-- TEST_UNLOCK: KEY 0xB3C4 with BENCH high in every sample set of an epoch. -/
def execTestUnlock (w : Word) (s : State) : Host.Outcome State Fault Refusal :=
  if s.sys.linkUp && w.toNat / 2 ^ 16 == 0xB3C4 && decide (100 ≤ s.maint.benchHigh) && !s.maint.unlocked then
    let seed := s.cfgv 0xE004
    .next ({ s with maint.injected := 0, maint.lfsr := BitVec.ofNat 32 (if seed = 0 then 1 else seed) }.testLockTo true 1)
  else .next s

/-- TEST_LOCK: any other KEY. -/
def execTestLock (w : Word) (s : State) : Host.Outcome State Fault Refusal :=
  .next (if s.sys.linkUp && w.toNat / 2 ^ 16 != 0xB3C4 then s.testLockTo false 1 else s)

/-- BENCH_LOW (R766). -/
def execBenchLow (s : State) : Host.Outcome State Fault Refusal :=
  .next (if 2 ≤ s.maint.benchLow then (s.testLockTo false 2).testClear else s)

end Sys2Proof.Machine
end

