-- ==== Sys2Proof/Machine/Flags.lean ====
section
/-! DEFINITION. The status words: what a read of each read-only register shows (R97, R148, R200, R243, R291, R292, R330, R373,
R374, R418, R469, R505, R548, R607, R608, R648, R681, R720, R749, R764, R769, R784, R785, R788), the pairs of R779, and the
rows of a register read. -/

namespace Sys2Proof.Machine

/-- Fields (first bit, width, value) as one word. -/
def pk (l : List (Nat × Nat × Nat)) : Nat := l.foldl (fun a f => a + f.2.2 % 2 ^ f.2.1 * 2 ^ f.1) 0
/-- A bit. -/
def bit1 (b : Bool) : Nat := if b then 1 else 0
/-- A signed 16-bit field. -/
def s16 (i : Int) : Nat := twos 16 i
/-- The shown integer of an exact quantity, as 32 bits. -/
def q32 (site : Nat) (q : Rat) : Nat := i32 (roundQ site q)

/-! ### Rails and phases -/

def State.railReg (s : State) (n o : Nat) : Nat :=
  let r := s.rail n
  let v := s.sys.variant
  match o with
  | 0x50 =>
    pk [(0, 4, r.active), (4, 4, (s.railPhases n).length), (8, 1, bit1 r.gainClamp), (9, 1, bit1 r.trimClamp),
      (10, 1, bit1 r.freqClamp), (11, 1, bit1 r.tonClamp), (12, 1, bit1 r.vinClamp), (13, 1, bit1 r.recallHold),
      (14, 1, bit1 r.shedBad), (16, 8, (100 * kFactor r.active (s.duty n)).floor.toNat)]
  | 0x54 => r.gain % 2 ^ 20
  | 0x58 => r.ripMeas % 2 ^ 16
  | 0x5C => pk [(0, 16, roundN 100 (4096 * r.trim)), (16, 16, roundN 100 (4096 * r.cf))]
  | 0x60 => if r.isOn then roundN 5 (s.vinUsed n) else 0
  | 0x64 => i32 r.iout
  | 0x68 => r.fswMeas % 2 ^ 12
  | 0x6C => q32 101 r.vofs
  | 0x70 => r.truncCnt
  | 0x74 => r.recallCnt
  | 0x78 => r.countChg
  | 0x90 => roundN 20 r.vref % 2 ^ 16
  | 0x94 => pk [(0, 16, r.vtarget), (16, 16, r.slew)]
  | 0x98 => pk [(0, 3, r.st.code), (3, 1, bit1 r.mask), (16, 16, if r.mask then roundN 102 r.maskHi else 0)]
  | 0x9C => bit1 r.fcHost.isSome + 2 * bit1 r.fcLead.isSome
  | 0xA0 => r.fcShown.1
  | 0xA4 => r.fcShown.2.1
  | 0xA8 => r.fcShown.2.2.1
  | 0xAC => r.fcShown.2.2.2
  | 0xCC => q32 103 r.droop
  | 0xD0 => if s.isFollower n then q32 104 r.vsh else 0
  | 0xD4 => r.capLim.getD 0
  | 0xD8 => q32 105 ((r.mv : Rat) * r.iout / 1000)
  | _ => if n < v.rails then s.regv (0x2000 + 0x100 * n + o) else 0

def State.phReg (s : State) (m o : Nat) : Nat :=
  let p := s.phase m
  match o with
  | 0x00 => s.regv (0x3000 + 0x40 * m) + p.owner % 256 * 2 ^ 24
  | 0x04 =>
    pk [(0, 1, bit1 p.active), (1, 1, bit1 p.flt), (2, 1, bit1 p.idle), (8, 3, (s.railPhases p.owner).idxOf m)]
  | 0x08 => i32 p.iavg
  | 0x0C => q32 106 p.balTrim
  | 0x10 => p.pulses % 2 ^ 16
  | 0x14 => s16 p.iofs
  | _ => 0

/-- PROT_LATCH; its cause bits read 0 in RETRY_WAIT. -/
def State.protLatch (s : State) (n : Nat) : Nat :=
  let r := s.rail n
  pk [(0, 8, r.causes.toNat), (8, 4, r.retries), (16, 2, r.lstate.code)]
def State.protStatus (s : State) (n : Nat) : Nat :=
  let r := s.rail n
  pk [(0, 1, bit1 r.ovW), (1, 1, bit1 r.uvW), (2, 1, bit1 r.ocW), (3, 1, bit1 r.otW), (4, 1, bit1 r.offPres),
    (8, 1, bit1 r.peakLast), (9, 1, bit1 r.crowbar), (10, 1, bit1 r.discharging)]
def State.protReg (s : State) (n o : Nat) : Nat :=
  let r := s.rail n
  match o with
  | 0x28 => s.protStatus n
  | 0x2C => s.protLatch n
  | 0x30 => pk [(0, 8, min 255 r.uvT), (8, 8, min 255 r.ocT), (16, 8, min 255 r.otT), (24, 8, min 255 r.shortT)]
  | 0x34 => if r.lstate = .retryWait then r.retryWait else 0
  | _ => s.regv (0x3800 + 0x40 * n + o)
def State.protSum (s : State) (o : Nat) : Nat :=
  match o with
  | 0x0 => maskOf (s.phaseIdx.filter fun m => (s.phase m).latched)
  | 0x4 => maskOf (s.railIdx.filter fun n => (s.rail n).lstate == .latched)
  | 0x8 => maskOf (s.railIdx.filter fun n => let r := s.rail n; r.ovW || r.uvW || r.ocW || r.otW || r.offPres)
  | 0xC => s.rcd.crowbars
  | _ => 0

/-! ### Switches -/

def State.swStatus (s : State) (n : Nat) : Nat :=
  let c := s.sw n
  pk [(0, 3, c.st.code), (3, 1, bit1 c.good), (4, 1, bit1 c.limit), (5, 1, bit1 c.fold), (6, 1, bit1 c.seated),
    (7, 1, bit1 c.tWarn), (8, 1, bit1 c.pumpOk), (9, 1, bit1 c.capLim.isSome), (10, 1, bit1 c.stbyHold)]
def State.swTripReg (s : State) (n : Nat) : Nat := pk [(0, 8, (s.sw n).cause.toNat), (8, 4, (s.sw n).retries)]
/-- T_j and T_c. -/
def State.swTmodel (s : State) (n : Nat) : Nat :=
  pk [(0, 16, s16 (roundQ 107 (16 * (s.sw n).tj))), (16, 16, s16 (roundQ 107 (16 * (s.sw n).tc)))]
def State.swReg (s : State) (n o : Nat) : Nat :=
  let c := s.sw n
  match o with
  | 0x40 => s.swStatus n
  | 0x44 => i32 c.ma
  | 0x48 => c.srcMv
  | 0x4C => roundN 108 (s.swL n)
  | 0x50 => s.swTmodel n
  | 0x54 => s16 (roundQ 107 (16 * c.tb))
  | 0x58 => s.swTripReg n
  | 0x5C => c.fTimer % 2 ^ 16
  | 0x60 => if c.st = .retryWait then c.retryLeft else 0
  | 0x64 => c.tripCnt
  | _ => s.regv (0x4000 + 0x80 * n + o)
def State.swMask (s : State) (f : Switch → Bool) : Nat := maskOf (s.swIdx.filter fun n => f (s.sw n))
def State.swSum (s : State) (o : Nat) : Nat :=
  match o with
  | 0x00 => s.swMask (·.st == .on)
  | 0x04 => s.swMask (·.good)
  | 0x08 => s.swMask (·.st == .latched)
  | 0x0C => s.swMask (·.seated)
  | 0x10 => s.rcd.shorts
  | _ => 0

/-! ### Capping and temperature -/

def State.frmReg (s : State) (off : Nat) : Nat :=
  let c := s.cap
  match off with
  | 0x1120 => c.host
  | 0x1124 => c.leader
  | 0x1128 => s.pCap
  | 0x112C => q32 50 c.pAvg
  | 0x1130 =>
    let x := max (-1000) (min 10000 (roundQ 109 (10 * c.x)))
    pk [(0, 3, c.stage), (3, 1, bit1 (c.thermal != 0 && s.pCap == c.thermal)),
      (8, 8, if c.stage = 2 then c.grace else if c.stage = 6 ∨ c.stage = 7 then c.rel else 0), (16, 16, s16 x)]
  | 0x1134 => pk [(0, 8, c.duty.getD 0 0), (8, 8, c.duty.getD 1 0), (16, 8, c.duty.getD 2 0), (24, 8, c.duty.getD 3 0)]
  | 0x1140 => pk [(0, 16, s16 (c.tUse.getD (-32768))), (16, 16, s16 (c.tEpoch.getD (-32768)))]
  | 0x1144 => pk [(0, 2, c.sensor), (8, 8, roundN 58 (100 * c.f))]
  | 0x1148 => pk [(0, 1, bit1 c.compValid), (1, 1, bit1 c.compHold), (16, 16, s16 c.tComp)]
  | _ =>
    s.regv off + (if 0x1180 ≤ off ∧ off < 0x11E0 then (s.sw ((off - 0x1180) / 4)).capLim.getD 0 / 100 % 2 ^ 16 * 2 ^ 16 else 0)

/-! ### Sequencer -/

def State.seqReg (s : State) (off : Nat) : Nat :=
  let q := s.seq
  match off with
  | 0x5000 =>
    pk [(0, 2, q.prog), (2, 1, bit1 q.running), (3, 1, bit1 q.down), (4, 5, q.step), (16, 8, q.qcount)]
  | 0x5004 => if q.running then min (s.clk.tick - q.stepTick) (2 ^ 32 - 1) else 0
  | 0x5008 => pk [(0, 8, q.lastStep), (8, 8, q.lastOutcome), (16, 8, q.lastCause), (24, 2, q.lastProg)]
  | 0x5014 =>
    pk [(0, 5, q.syncCount), (5, 1, bit1 q.syncLine), (6, 1, bit1 q.syncDriving), (7, 1, bit1 s.participant),
      (8, 5, s.readyFor), (13, 3, q.syncEvent)]
  | 0x5034 => s.faultSrc
  | 0x5044 =>
    let pulses : BitVec 4 := q.pulses.foldl (fun a p => a ||| p.2.1) 0
    pk [(0, 4, q.rstoLow.toNat), (4, 4, q.stepLatch.toNat), (8, 4, pulses.toNat),
      (12, 4, if q.mrSource then s.cfgf 0x5040 0 4 else 0)]
  | 0x504C => pk [(0, 16, q.presses), (16, 1, bit1 q.pbPressed), (17, 1, bit1 q.forcedOff)]
  | 0x5050 => pk [(0, 1, bit1 q.pgood), (1, 1, bit1 q.faultLow), (2, 1, bit1 q.mrSource)]
  | 0x5140 =>
    pk [(0, 16, maskOf (s.railIdx.filter fun n => (s.rail n).pg)), (16, 16, maskOf (s.railIdx.filter fun n => (s.rail n).good))]
  | _ => s.regv off

/-! ### Power path and gauge -/

def State.pathReg (s : State) (off : Nat) : Nat :=
  let p := s.path
  match off with
  | 0x6040 =>
    pk [(0, 3, p.st.code), (3, 3, p.feedCls), (6, 4, p.bat.code), (10, 4, p.conv.code), (14, 1, bit1 p.good),
      (15, 1, bit1 p.shortfall), (16, 1, bit1 p.searching), (17, 1, bit1 p.chgOn), (18, 1, bit1 p.suspended),
      (19, 1, bit1 p.reserve), (20, 1, bit1 p.atLimit)]
  | 0x6044 => pk [(0, 16, p.feedMv), (16, 16, p.busMv)]
  | 0x6048 => i32 p.feedMa
  | 0x604C => pk [(0, 16, p.batMv), (16, 16, s16 (p.ntc.getD (-32768)))]
  | 0x6050 => i32 p.batMa
  | 0x6054 => p.inLim
  | 0x6058 => min (p.holdEst.getD (2 ^ 32 - 1)) (2 ^ 32 - 1)
  | 0x605C => p.vhold % 2 ^ 16
  | 0x6060 => maskOf (s.railIdx.filter fun n => (s.rail n).shed)
  | 0x6064 => s.swMask (·.shed)
  | 0x6068 => if p.st = .holdup ∨ p.st = .noFeed then framesMs (s.cfgf 0x6008 0 16) - p.qual else 0
  | 0x606C => p.fault.toNat
  | 0x6070 => p.holdCnt
  | _ => s.regv off

def GaugeSt.code : GaugeSt → Nat
  | .init => 0 | .counting => 1 | .resting => 2 | .rested => 3 | .spectro => 4
def LearnSt.code : LearnSt → Nat
  | .idle => 0 | .armed => 1 | .aborted => 2
def State.gaugeReg (s : State) (off : Nat) : Nat :=
  let g := s.gauge
  match off with
  | 0x6840 =>
    pk [(0, 3, g.st.code), (3, 1, bit1 g.socValid), (4, 1, bit1 g.emptyV), (5, 1, bit1 g.disagree), (6, 1, bit1 g.hold1),
      (7, 1, bit1 g.fullDecl), (8, 2, g.learn.code), (10, 1, bit1 g.learned), (11, 1, bit1 s.ocvBad),
      (12, 1, bit1 s.tempBad)]
  | 0x6844 => pk [(0, 16, s.soc), (16, 16, s16 (roundQ 74 s.socCount))]
  | 0x6848 => q32 71 g.qRem
  | 0x684C => g.qFull % 2 ^ 32
  | 0x6850 => g.cycles % 2 ^ 16
  | 0x6854 => if g.learn = .armed then roundN 73 g.qLearn % 2 ^ 32 else 0
  | 0x6858 => pk [(0, 16, s16 g.zR), (16, 16, s16 g.zX)]
  | 0x685C => pk [(0, 16, roundN 75 g.vComp), (16, 16, roundN 77 g.socOcv)]
  | 0x6860 =>
    pk [(0, 2, match s.newestSlot with | none => 2 | some b => bit1 b), (2, 1, bit1 g.slotA.isSome), (3, 1, bit1 g.slotB.isSome),
      (4, 1, bit1 g.writing.isSome), (8, 8, g.lastResult), (16, 16, g.writes)]
  | _ =>
    if 0x6900 ≤ off ∧ off < 0x6A00 then
      let j := (off - 0x6900) / 4
      pk [(0, 16, g.ztab.getD (2 * j) 0), (16, 16, g.ztab.getD (2 * j + 1) 0)]
    else s.regv off

/-! ### Tandem -/

def TState.code : TState → Nat
  | .init => 0 | .waitLink => 1 | .single => 2 | .active => 3 | .solo => 4 | .joining => 5 | .shadow => 6 | .orphan => 7
  | .faulty => 8 | .retired => 9
def State.tdmReg (s : State) (off : Nat) : Nat :=
  let t := s.tdm
  match off with
  | 0x7008 =>
    pk [(0, 4, t.st.code), (4, 1, bit1 s.sys.sideB), (5, 1, bit1 t.linkUp), (6, 1, bit1 t.mirrored), (8, 4, t.peer),
      (12, 4, t.cause), (16, 8, min 255 t.misRun)]
  | 0x700C => if s.isStandby then t.fLast else 0
  | 0x7010 => pk [(0, 1, bit1 t.linkUp), (1, 1, bit1 t.linkUp), (2, 1, bit1 t.linkUp), (16, 16, t.downs)]
  | 0x7014 => pk [(0, 16, t.misses), (16, 16, t.crcFails)]
  | 0x7018 => pk [(0, 16, t.misFrames), (16, 16, t.resyncs)]
  | 0x701C => pk [(0, 16, t.takeovers), (16, 16, t.yields)]
  | 0x7020 => pk [(0, 2, t.drillOut), (16, 16, t.drillDev)]
  | _ => s.regv off
/-- The Waybill's DEGRADED condition (R639). -/
def State.degraded (s : State) : Bool := s.tdm.st == .solo || s.sys.fail != 0

/-! ### Host interface, Waybill, Drayline -/

def State.ringReg (s : State) (r o : Nat) : Nat :=
  let g := s.ring r
  match o with
  | 0x08 => s.regv (ringOff r + o) + (if r = 1 then 1 else 0) + (if r = 0 then 2 ^ 8 else 0)
  | 0x10 => bit1 (g.st != .disabled)
  | 0x14 =>
    pk [(0, 2, g.st.code), (2, 4, g.errCause), (6, 1, bit1 (g.cq && g.phase)),
      (7, 1, bit1 (g.st == .active && (if g.cq then s.cqFull r else s.cqFull g.bind))),
      (16, 8, if g.cq then 0 else s.inFlight r)]
  | 0x18 => g.prod % 2 ^ 12
  | 0x1C => g.cons % 2 ^ 12
  | 0x20 => if g.st = .error then g.errInfo.toNat else 0
  | 0x24 => if g.cq then 0 else g.taken
  | 0x28 => if g.cq then g.written else 0
  | _ => s.regv (ringOff r + o)
def State.hifStatus (s : State) : Nat :=
  pk [(0, 8, s.slotsUsed), (8, 1, bit1 s.hif.bme), (9, 1, bit1 s.hif.msixEn), (10, 1, bit1 s.hif.fmask), (11, 1, bit1 s.hif.d3),
    (16, 8, s.intakeLimit)]
def winReg (w : Win) (a : Nat) : Nat :=
  match a with
  | 0 => w.base % 2 ^ 32 + bit1 w.rd + 2 * bit1 w.wr
  | 4 => w.base / 2 ^ 32 % 2 ^ 32
  | 8 => w.pages % 2 ^ 32
  | _ => 0
def AlignState.code : AlignState → Nat
  | .free => 0 | .acquiring => 1 | .locked => 2 | .holdover => 3
def State.alignStatus (s : State) : Nat := pk [(0, 2, s.clk.alignState.code), (16, 16, s16 s.clk.alignRate)]
def State.joinedMask (s : State) : Nat := maskOf ((List.range 8).filter fun n => (s.dray.nodes.getD n {}).joined)
def State.drayReg (s : State) (off : Nat) : Nat :=
  let d := s.dray
  let down : Bool := s.sys.variant.hasDown
  let nd (n : Nat) : Node := d.nodes.getD n {}
  match off with
  | 0xA000 => if down then s.regv off else s.regv off &&& 0xFFFFFFF7
  | 0xA010 =>
    pk [(0, 2, d.upState), (2, 2, if down then d.downState else 0), (4, 1, bit1 d.upPlca), (5, 1, bit1 (d.dnPlca && down)),
      (6, 1, bit1 d.fallback)]
  | 0xA014 =>
    (if down then s.joinedMask + 2 ^ 16 * maskOf ((List.range 8).filter fun n => (nd n).mac2.isSome) else 0) +
      2 ^ 8 * bit1 d.upJoined
  | 0xA018 => d.session.toNat
  | 0xA01C => pk [(0, 12, d.downSeq), (16, 12, d.upSeq)]
  | 0xA020 => d.stale
  | 0xA024 => d.crc
  | 0xA028 => d.skip
  | 0xA02C => d.beaconEp
  | _ =>
    if 0xA044 ≤ off ∧ off < 0xA060 then (if down then s.regv off else 0)
    else if 0xA064 ≤ off ∧ off < 0xA080 then (if down then d.capsSent.getD ((off - 0xA064) / 4) 0 else 0)
    else if 0xA084 ≤ off ∧ off < 0xA0A0 then (if down then (nd ((off - 0xA084) / 4 + 1)).hostCap else 0)
    else s.regv off

/-! ### Recorder, engines and Brake, maintenance, field -/

def TrSt.code : TrSt → Nat
  | .off => 0 | .running => 1 | .frozen => 2 | .writing => 3
def State.recReg (s : State) (off : Nat) : Nat :=
  let r := s.rcd
  match off with
  | 0xB000 =>
    pk [(0, 1, bit1 r.winBusy), (1, 1, bit1 r.snapValid), (2, 1, bit1 r.flashSlow), (3, 1, bit1 r.staging.isEmpty),
      (8, 10, r.staging.length)]
  | 0xB004 => r.cursor.toNat
  | 0xB00C => r.snapSeq.toNat
  | 0xB010 => s.recHead.toNat
  | 0xB014 => r.flashSeq.toNat
  | 0xB018 => r.oldest.toNat
  | 0xB01C => r.suppressed
  | 0xB020 => r.lost
  | 0xB028 => pk [(0, 2, r.trSt.code), (2, 4, r.trSlot), (8, 8, r.trProg), (16, 16, r.trIgnored)]
  | 0xB02C => pk [(0, 10, maskOf ((List.range 10).filter fun k => (r.trSlots.getD k none).isSome)), (10, 4, r.trNewest.getD 15)]
  | _ =>
    if 0xB100 ≤ off ∧ off < 0xB200 then
      match r.window.getD ((off - 0xB100) / 32) none with
      | some x => bytesAt (recordBytes x) ((off - 0xB100) % 32) 4
      | none => 0
    else s.regv off
def State.engReg (s : State) (off : Nat) : Nat :=
  let c := s.cfg
  let b := s.brake
  match off with
  | 0xC000 =>
    pk [(0, 1, bit1 c.runningB), (1, 1, bit1 c.otherValid), (2, 1, bit1 s.sys.recovery), (8, 8, c.otherReason)]
  | 0xC004 => lo32 c.fwVersion
  | 0xC00C => lo32 c.otherVersion
  | 0xC014 => lo32 s.sys.rollback.toNat
  | 0xC020 => s.sys.rollbackLeft
  | 0xC030 => pk [(0, 16, b.engRun.toNat), (16, 16, s.clk.halted.toNat)]
  | 0xC040 => pk [(0, 1, bit1 b.inFloor), (8, 8, b.standing.toNat), (16, 8, b.atEntry.toNat)]
  | 0xC044 => pk [(0, 8, b.clipEpoch), (8, 24, b.clipTotal)]
  | 0xC340 => c.floorSw.toNat
  | _ =>
    if 0xC300 ≤ off ∧ off < 0xC340 then
      let f := c.floorRail.getD ((off - 0xC300) / 4) (0, false)
      pk [(0, 16, f.1), (16, 1, bit1 f.2)]
    else if 0xC380 ≤ off ∧ off < 0xC3E0 then roundN 110 (s.sw ((off - 0xC380) / 4)).i2t
    else s.regv off
def State.maintReg (s : State) (off : Nat) : Nat :=
  let m := s.maint
  match off with
  | 0xD000 => pk [(0, 9, m.running.toNat), (16, 8, m.lastCode), (24, 2, m.lastOut)]
  | 0xD00C => m.swFail.toNat
  | 0xD010 => m.swTested.toNat
  | 0xD014 => m.refused
  | _ => s.regv off
/-- The registers of the field windows (R784). -/
def State.fieldReg (s : State) (off : Nat) : Nat :=
  let up : Nat := if s.sys.role = .manager then 0 else s.cfgf 0xA000 0 3
  match off with
  | 0xF000 =>
    pk [(0, 1, bit1 s.sys.bridgeFlush), (1, 1, bit1 s.sys.bridgePending), (8, 3, s.sys.bridgeDom), (16, 16, s.sys.flushCnt)]
  | 0xF004 => min (2 ^ 32 - 1) (roundN 120 ((s.sys.stallMax : Rat) / 1000))
  | 0xF100 => pk [(0, 16, s.smp.v33Mv), (16, 16, s.smp.v18Mv)]
  | 0xF104 => s16 s.cap.tRaw
  | 0xF108 => pk [(0, 16, min 65535 s.clk.resampleTotal), (16, 16, min 65535 s.clk.missTotal)]
  | 0xF200 => pk [(0, 16, s.smp.vaonMv), (16, 16, s.cfg.vaonLossMv)]
  | 0xF204 =>
    pk [(1, 1, bit1 s.smp.pbHigh), (2, 1, bit1 s.smp.mrHigh), (8, 1, bit1 (s.cfg.wakeSrc.getLsbD 0)),
      (9, 1, bit1 (s.cfg.wakeSrc.getLsbD 1 && s.sys.variant.hasPath))]
  | 0xF208 => min 65535 s.sys.hibCount
  | 0xF300 => twos 48 s.gauge.acc % 2 ^ 32
  | 0xF308 => i32 s.gauge.last
  | 0xF400 => pk [(0, 3, up), (3, 1, bit1 s.dray.upPlca), (8, 8, 8), (16, 8, 32)]
  | 0xF404 => s.dray.rxUp
  | 0xF500 => pk [(3, 1, bit1 s.dray.dnPlca), (8, 8, 8), (16, 8, 32)]
  | 0xF504 => s.dray.rxDn
  | _ => 0

/-! ### Global -/

def Role.code : Role → Nat
  | .branch => 0 | .zone => 1 | .manager => 2
/-- GLB_READY.ALL (R132). -/
def State.readyAll (s : State) : Bool :=
  let v := s.sys.variant
  (List.range 11).all fun f =>
    f == fUP || s.sys.ready.getLsbD f || s.sys.skipped.getLsbD f ||
    ((f == fPATH || f == fGAUGE) && !v.hasPath) || (f == fTDM && !v.hasTdm) || (f == fDOWN && !v.hasDown)
def State.glbReady (s : State) : Nat :=
  pk [(0, 11, s.sys.ready.toNat), (16, 11, s.sys.fail.toNat), (31, 1, bit1 (s.readyAll && s.sys.booted))]
/-- GLB_ATTN (R788). -/
def State.glbAttn (s : State) : Nat :=
  pk [(0, 1, bit1 s.brake.inFloor), (1, 1, bit1 (s.protSum 4 != 0)), (2, 1, bit1 (s.protSum 8 != 0)),
    (3, 1, bit1 (s.swSum 8 != 0)), (4, 1, bit1 (s.sys.variant.hasPath && s.path.fault != 0)),
    (5, 1, bit1 (s.hif.rings.any fun g => g.st == .error)), (6, 1, bit1 s.degraded), (7, 1, bit1 s.seq.faultLow),
    (8, 1, bit1 (s.hif.event != 0)), (9, 1, bit1 (s.dray.upState == 3)), (10, 1, bit1 s.maint.unlocked),
    (11, 1, bit1 s.sys.recovery)]
def State.glbReg (s : State) (off : Nat) : Nat :=
  let v := s.sys.variant
  match off with
  | 0x0000 => pk [(0, 16, v.devId), (16, 8, Config.stepping.toNat)]
  | 0x0004 => lo32 Config.uid.toNat
  | 0x000C => lo32 Config.mac.toNat
  | 0x0018 =>
    pk [(0, 6, v.phases), (6, 5, v.rails), (11, 5, v.sws), (16, 1, bit1 v.hasPath), (17, 1, bit1 v.hasPath),
      (18, 1, bit1 v.hasTdm), (19, 1, bit1 v.hasDown), (24, 2, v.code)]
  | 0x001C =>
    pk [(0, 2, s.sys.strapRole.toNat), (2, 1, bit1 (s.sys.strapSide && v.hasTdm)), (3, 2, s.sys.role.code),
      (5, 1, bit1 s.sys.sideB), (6, 1, bit1 s.sys.conflict), (7, 1, bit1 s.sys.signedOnly)]
  | 0x0020 => s.glbReady
  | 0x0024 => bit1 s.sys.lock
  | 0x0028 => pk [(0, 4, s.sys.resetLast), (16, 16, s.sys.warmCount)]
  | 0x002C => pk [(0, 7, s.sys.live.toNat), (16, 7, s.sys.running.toNat)]
  | 0x0030 => s.glbAttn
  | 0x0034 => bit1 s.maint.unlocked + 2 * bit1 s.smp.bench
  | 0x0038 => s.hif.scratch.toNat
  | 0x0204 => s.hif.event.toNat
  | 0x0208 => s.hifStatus
  | _ => if 0x0220 ≤ off ∧ off < 0x02A0 then winReg (s.hif.wins.getD ((off - 0x0220) / 16) {}) ((off - 0x0220) % 16) else s.regv off
def State.frmTimeReg (s : State) (off : Nat) : Nat :=
  match off with
  | 0x1000 => s.clk.count.toNat
  | 0x1004 => s.clk.epoch.toNat
  | 0x1008 => s.clk.pos
  | 0x1010 => lo32 s.clk.devTime
  | 0x1018 => twos 64 s.clk.wallOfs % 2 ^ 32
  | 0x1020 =>
    pk [(0, 2, s.clk.refSrc), (2, 1, bit1 s.clk.xtalOk), (3, 1, bit1 s.clk.engLock), (4, 1, bit1 s.clk.ptuLock),
      (5, 1, bit1 s.clk.pcieLock), (6, 1, bit1 s.clk.d2dLock), (7, 1, bit1 s.clk.fbComp)]
  | 0x1024 => s.alignStatus
  | 0x1028 => i32 s.clk.alignErr
  | 0x1030 => twos 64 s.clk.alignOfs % 2 ^ 32
  | 0x1038 => s.clk.ovrTotal
  | _ => s.frmReg off

/-- The upper word behind a read-only _LO register (R779), or none where the offset is no such register. -/
def State.hiOf (s : State) (off : Nat) : Option Nat :=
  match off with
  | 0x0004 => some (hi32 Config.uid.toNat)
  | 0x000C => some (hi32 Config.mac.toNat)
  | 0x1010 => some (hi32 s.clk.devTime)
  | 0x1018 => some (twos 64 s.clk.wallOfs / 2 ^ 32)
  | 0x1030 => some (twos 64 s.clk.alignOfs / 2 ^ 32)
  | 0x9010 => some (hi32 s.way.genWritten)
  | 0xC004 => some (hi32 s.cfg.fwVersion)
  | 0xC00C => some (hi32 s.cfg.otherVersion)
  | 0xC014 => some (hi32 s.sys.rollback.toNat)
  | 0xF300 => if s.sys.variant.hasPath then
      some (pk [(0, 16, twos 48 s.gauge.acc / 2 ^ 32), (16, 16, if s.gauge.acc < 0 then 65535 else 0)]) else none
  | _ => none

/-- What a read of a BAR0 register returns (R6, R556, R773): a HI half returns the latch (R779). -/
def State.readReg (s : State) (off : Nat) : Nat :=
  if absentReg s.sys.variant off then 0
  else if 4 ≤ off ∧ (s.hiOf (off - 4)).isSome then s.hif.latchHi.toNat
  else if off < 0x1000 then s.glbReg off
  else if off < 0x2000 then s.frmTimeReg off
  else if off < 0x3000 then s.railReg ((off - 0x2000) / 0x100) (off % 0x100)
  else if off < 0x3800 then s.phReg ((off - 0x3000) / 0x40) (off % 0x40)
  else if off < 0x3C00 then s.protReg ((off - 0x3800) / 0x40) (off % 0x40)
  else if off < 0x4000 then s.protSum (off - 0x3C00)
  else if off < 0x4C00 then s.swReg ((off - 0x4000) / 0x80) (off % 0x80)
  else if off < 0x5000 then s.swSum (off - 0x4C00)
  else if off < 0x6000 then s.seqReg off
  else if off < 0x6800 then s.pathReg off
  else if off < 0x7000 then s.gaugeReg off
  else if off < 0x8000 then s.tdmReg off
  else if off < 0x9000 then s.ringReg ((off - 0x8000) / 0x40) (off % 0x40)
  else if off < 0xA000 then
    (match off with
     | 0x900C => pk [(0, 2, s.way.st), (2, 2, s.way.cause)]
     | 0x9010 => lo32 s.way.genWritten
     | 0x9018 => s.way.skipped
     | _ => s.regv off)
  else if off < 0xB000 then s.drayReg off
  else if off < 0xC000 then s.recReg off
  else if off < 0xD000 then s.engReg off
  else if off < 0xE000 then s.maintReg off
  else if off < 0xF000 then (if off = 0xE024 then s.maint.injected else s.regv off)
  else s.fieldReg off

/-- LO_READ_LATCH (R70, R779): a read of a read-only _LO register latches its HI half. -/
def execLoReadLatch (off : Nat) (s : State) : Host.Outcome State Fault Refusal :=
  match s.hiOf off with
  | some h =>
    if s.sys.linkUp then
      .next { s with hif.latchHi := BitVec.ofNat 32 h, hif.readData := BitVec.ofNat 32 (s.readReg off) }
    else .next s
  | none => .next s

end Sys2Proof.Machine
end

