-- ==== Sys2Proof/Machine/Waybill.lean ====
section
/-! DEFINITION. The Waybill (spec/16): the image of a build frame, its generations and placement, and its writing. -/

namespace Sys2Proof.Machine

/-! ### Bytes -/

/-- A byte string cut or padded with zeros to `n` bytes. -/
def padTo (n : Nat) (l : List Byte) : List Byte := (l ++ List.replicate (n - l.length) 0).take n
/-- 32-bit words, little-endian. -/
def words (l : List Nat) : List Byte := l.flatMap (leBytes 4)
/-- Bytes from `a` on replaced. -/
def spliceAt (l : List Byte) (a : Nat) (b : List Byte) : List Byte := l.take a ++ b ++ l.drop (a + b.length)

/-! ### The node summary (R645) -/

/-- Tandem pair, in the sense of the summary: the twin has a peer of the other side, or had one. -/
def State.inPair (s : State) : Bool :=
  s.sys.variant.hasTdm && s.tdm.st != .single && s.tdm.st != .init && s.tdm.st != .waitLink
/-- Epoch averages as they stand at the end of the build frame. -/
def State.pAvgEpoch (s : State) : Int := roundQ 111 ((s.cap.pEpoch : Rat) / 100000)
def State.tdieEpochNow (s : State) : Int :=
  if s.cap.sensor = 2 ∨ s.cap.tN = 0 then -32768 else roundQ 56 ((s.cap.tSum : Rat) / s.cap.tN)
/-- The 48 bytes of the device's own summary as of the present frame. -/
def State.nodeSummary (s : State) : List Byte :=
  let v := s.sys.variant
  let hu : Bool := v.hasPath && (s.path.st == .handover || s.path.st == .holdup)
  let stat := pk [(0, 1, bit1 s.brake.inFloor), (1, 1, bit1 s.degraded), (2, 1, bit1 hu), (3, 1, bit1 s.seq.pgood),
    (4, 1, bit1 s.seq.faultLow), (5, 1, bit1 (s.cap.stage == 5)), (6, 1, bit1 s.inPair), (7, 1, bit1 (s.sys.hib != .none))]
  let cnt (f : Rail → Bool) : Nat := maskOf (s.railIdx.filter fun n => f (s.rail n))
  padTo 48 (leBytes 4 (i32 s.pAvgEpoch) ++ leBytes 4 s.pCap ++ leBytes 2 stat ++ leBytes 1 s.cap.stage ++
    leBytes 1 (if v.hasTdm then s.tdm.st.code else 0) ++ leBytes 2 (cnt (·.pg)) ++ leBytes 2 (cnt (·.isOn)) ++
    leBytes 4 (s.swMask (·.st == .on)) ++ leBytes 4 (s.swMask (·.st == .latched)) ++ leBytes 2 (cnt (·.lstate == .latched)) ++
    leBytes 2 (if s.gaugeOn then s.soc else 0xFFFF) ++ leBytes 4 (if v.hasPath then s.pathReg 0x6058 else 2 ^ 32 - 1) ++
    leBytes 2 (s16 s.tdieEpochNow) ++ leBytes 1 (if v.hasPath then s.path.st.code else 0xFF) ++ leBytes 1 s.seq.stageSent ++
    leBytes 4 (s.way.gen % 2 ^ 32) ++ leBytes 4 s.recHead.toNat)

/-! ### Sections -/

/-- Ready, for the Drayline sections: some port that the device uses has come up. -/
def State.drayReady (s : State) : Bool :=
  let use (f : Nat) : Bool := !s.sys.skipped.getLsbD f && (f != fDOWN || s.sys.variant.hasDown)
  !(use fUP || use fDOWN) || (use fUP && s.isReady fUP) || (use fDOWN && s.isReady fDOWN)
/-- SECT_FLAGS of a section: 1 ABSENT, 2 NOT_READY (R640, R641). Capping and speculation stand with the rails. -/
def State.sectFlags (s : State) (n : Nat) : Nat :=
  let v := s.sys.variant
  let rdy (f : Nat) : Nat := if s.isReady f then 0 else 2
  match n with
  | 1 | 2 | 7 | 13 => rdy fRAIL
  | 3 => rdy fSW
  | 4 => rdy fSEQ
  | 5 => if v.hasPath then rdy fPATH else 1
  | 6 => if v.hasPath then rdy fGAUGE else 1
  | 8 => if v.hasTdm then rdy fTDM else 1
  | 9 => rdy fRING
  | 10 | 14 => if s.drayReady then 0 else 2
  | 11 => rdy fREC
  | 12 => rdy fBRAKE
  | _ => 0
/-- A section's bytes: zero while it is absent or not ready. -/
def State.section (s : State) (n len : Nat) (l : List Byte) : List Byte :=
  padTo len (if s.sectFlags n = 0 then l else [])

def State.wayRail (s : State) (n : Nat) : List Byte :=
  let r := s.rail n
  if s.sys.variant.rails ≤ n then padTo 64 [1]
  else
    padTo 64 (leBytes 2 (pk [(1, 1, bit1 r.isOn), (2, 1, bit1 r.pg), (3, 1, bit1 r.mask), (4, 1, bit1 (s.isFollower n)),
        (5, 1, bit1 r.shed)]) ++ leBytes 1 r.st.code ++ leBytes 1 (match r.cls with | .c => 0 | .e => 1 | .s => 2) ++
      leBytes 2 (roundN 20 r.vref) ++ leBytes 2 r.vtarget ++ leBytes 2 r.mv ++ leBytes 2 0 ++ leBytes 4 (i32 r.iout) ++
      leBytes 4 (q32 112 ((r.pEpoch : Rat) / 100)) ++ leBytes 1 (r.active % 16 + 16 * (s.railPhases n).length) ++
      leBytes 1 (s.protStatus n % 32) ++ leBytes 1 (s.protLatch n % 256) ++ leBytes 1 (r.lstate.code + 4 * (r.retries % 16)) ++
      leBytes 4 (r.capLim.getD 0) ++ leBytes 4 (r.gain % 2 ^ 20) ++ leBytes 4 (q32 103 r.droop))
def State.wayPhase (s : State) (m : Nat) : List Byte :=
  let p := s.phase m
  if s.sys.variant.phases ≤ m then padTo 8 (leBytes 4 0 ++ [1])
  else leBytes 4 (i32 p.iavg) ++ leBytes 1 (pk [(1, 1, bit1 p.active), (2, 1, bit1 p.flt), (3, 1, bit1 p.latched),
    (4, 1, bit1 p.idle)]) ++ leBytes 1 p.owner ++ leBytes 2 p.pulses
def State.waySw (s : State) (n : Nat) : List Byte :=
  let c := s.sw n
  if s.sys.variant.sws ≤ n then padTo 32 [1]
  else
    padTo 32 (leBytes 1 (pk [(1, 1, bit1 c.good), (2, 1, bit1 c.limit), (3, 1, bit1 c.fold), (4, 1, bit1 c.seated),
        (5, 1, bit1 c.capLim.isSome), (6, 1, bit1 c.shed), (7, 1, bit1 c.stbyHold)]) ++ leBytes 1 c.st.code ++
      leBytes 1 (match c.cls with | .c => 0 | .e => 1 | .s => 2) ++ leBytes 1 c.cause.toNat ++ leBytes 4 (i32 c.ma) ++
      leBytes 4 c.srcMv ++ leBytes 4 (roundN 108 (s.swL n)) ++ leBytes 4 (s.swTmodel n) ++ leBytes 2 c.fTimer ++
      leBytes 1 c.retries ++ leBytes 1 0 ++ leBytes 4 (s.swReg n 0x60))
/-- Bits of the rings in a state. -/
def State.ringMask (s : State) (st : RSt) : Nat := maskOf ((List.range 64).filter fun r => (s.ring r).st == st)

/-! ### The vehicle section (R644 to R647) -/

/-- The node ID an entry's index stands for, and whether it is a Zone's entry (R644); none for an entry the role leaves
EMPTY. -/
def State.entryNode (s : State) (i : Nat) : Option (Nat × Bool) :=
  match s.sys.role with
  | .manager => some (if i % 8 = 0 then i / 8 + 1 else i % 8, i % 8 == 0)
  | .zone => if 1 ≤ i ∧ i ≤ 7 then some (i, false) else none
  | .branch => none
def State.entryStale (s : State) (e : VEntry) : Bool := decide (s.way.staleEp < s.epochNo - e.epoch)
def State.wayEntry (s : State) (i : Nat) : List Byte :=
  let e := s.dray.vehicle.getD i {}
  match s.entryNode i with
  | none => padTo 64 [0, 8]
  | some (id, _) =>
    if !e.joinedEver then padTo 64 (leBytes 1 id ++ [8])
    else padTo 64 (leBytes 1 id ++ leBytes 1 (pk [(0, 1, bit1 (!e.lost)), (1, 1, bit1 (s.entryStale e)), (2, 1, bit1 e.lost)]) ++
      leBytes 2 0 ++ leBytes 4 e.epoch ++ leBytes 4 (s.epochNo - e.epoch) ++ leBytes 4 0 ++ padTo 48 e.summary)
/-- The 56 entries that count, with their index (R647). -/
def State.counted (s : State) : List (Nat × VEntry) :=
  ((List.range 56).map fun i => (i, s.dray.vehicle.getD i {})).filter fun p =>
    (s.entryNode p.1).isSome && p.2.joinedEver && !p.2.lost
def State.isZoneEntry (s : State) (i : Nat) : Bool := match s.entryNode i with | some (_, z) => z | none => false
def State.vehicleHeader (s : State) : List Byte :=
  let zones (f : VEntry → Bool) : Nat :=
    maskOf (((List.range 7).filter fun k => s.sys.role == .manager &&
      (let e := s.dray.vehicle.getD (8 * k) {}; e.joinedEver && f e)).map (· + 1))
  let c := s.counted
  let sum (o : Nat) (z : Bool) : Int :=
    ((c.filter fun p => s.isZoneEntry p.1 == z).map fun p => signedOf 32 (bytesAt p.2.summary o 4)).sum
  let n (b : Nat) : Nat := (c.filter fun p => (bytesAt p.2.summary 8 2).testBit b).length
  padTo 64 (leBytes 4 s.epochNo ++ leBytes 1 (zones fun e => !e.lost) ++ leBytes 1 (zones s.entryStale) ++
    leBytes 1 (zones (·.lost)) ++ leBytes 1 0 ++ leBytes 4 (i32 s.pAvgEpoch) ++ leBytes 4 (i32 (sum 0 true)) ++
    leBytes 4 (i32 (sum 0 false)) ++ leBytes 4 (i32 (sum 4 true)) ++ leBytes 1 (n 0) ++ leBytes 1 (n 2) ++ leBytes 1 (n 1))
def State.vehicle (s : State) : List Byte :=
  let id : Nat := if s.sys.role = .manager then 0 else s.cfgf 0xA000 0 3
  let own := padTo 64 (leBytes 1 id ++ [1, 0, 0] ++ leBytes 4 s.epochNo ++ leBytes 8 0 ++ s.nodeSummary)
  s.vehicleHeader ++ own ++ (List.range 56).flatMap s.wayEntry

/-! ### The image -/

/-- The header but for GEN_BEGIN, FLAGS and CPL_MARK, which are put in as the image is written. -/
def State.wayHeader (s : State) : List Byte :=
  let state := if s.sys.hib ≠ .none then 2 else if s.brake.inFloor then 1 else if s.sys.configured then 0 else 3
  padTo 128 (leBytes 8 0 ++ [0x50#8, 0x5A#8, 0x57#8, 0x42#8] ++ leBytes 2 1 ++ leBytes 1 s.sys.variant.code ++
    leBytes 1 (s.sys.role.code + 4 * bit1 s.sys.sideB) ++ leBytes 4 s.epochNo ++ leBytes 4 s.frame ++ leBytes 8 s.clk.strobe ++
    leBytes 8 (twos 64 s.clk.wallOfs) ++ leBytes 1 state ++ leBytes 1 (bit1 s.degraded) ++ leBytes 2 0 ++ leBytes 4 s.glbReady ++
    leBytes 4 0 ++ leBytes 4 s.rcd.bootSeq.toNat ++ leBytes 8 0 ++ leBytes 1 0 ++
    (List.range 14).flatMap (fun k => leBytes 1 (s.sectFlags (k + 1))) ++ leBytes 1 0)

/-- Bytes 0 to 0x1FF7 of the image of the present frame (R638). -/
def State.wayImage (s : State) : List Byte :=
  let r (o : Nat) : Nat := s.readReg o
  let t := s.tdm
  let acts : Nat := (s.rails.map (·.specAct)).sum
  let undo : Nat := (s.rails.map (·.specUndo)).sum
  let running := ((bitsOf 9 s.maint.running.toNat).head?).getD 0
  let clipE := s.brake.clipEpoch
  padTo 0x1FF8 (s.wayHeader ++ List.replicate 128 0 ++
    s.section 1 1024 ((List.range 16).flatMap s.wayRail) ++ s.section 2 256 ((List.range 32).flatMap s.wayPhase) ++
    s.section 3 768 ((List.range 24).flatMap s.waySw) ++
    s.section 4 64 (words [r 0x5000, r 0x5008, r 0x5014, r 0x5050, r 0x5034, r 0x5044, r 0x5140]) ++
    s.section 5 64 (words [r 0x6040, r 0x6044, r 0x6048, r 0x604C, r 0x6050, r 0x6054, r 0x6058, r 0x6060, r 0x6064, r 0x606C,
      r 0x6070]) ++
    s.section 6 64 (words [r 0x6840, r 0x6844, r 0x6848, r 0x684C, r 0x6850, r 0x685C, r 0x6860]) ++
    s.section 7 64 (words [r 0x1128, r 0x1120, r 0x1124, r 0x112C, r 0x1130, r 0x1134, r 0x1140, r 0x1144, r 0x1148]) ++
    s.section 8 64 (words [r 0x7008, r 0x701C, r 0x7010, r 0x7018, r 0x7020, t.fLastTake]) ++
    s.section 9 64 (words [r 0x0208] ++ leBytes 8 (s.ringMask .active) ++ leBytes 8 (s.ringMask .error) ++
      words [s.hif.takenEpoch, s.hif.writtenEpoch]) ++
    s.section 10 64 (words [r 0x1024, r 0x1028, s.joinedMask + 2 ^ 8 * bit1 s.dray.upJoined, s.dray.staleEpoch, s.dray.beaconEp]) ++
    s.section 11 64 (words [s.recHead.toNat, s.rcd.flashSeq.toNat, s.rcd.suppEpoch, r 0xB02C % 1024]) ++
    s.section 12 64 (words [s.brake.standing.toNat, clipE, s.clk.ovrTotal, s.clk.overranEpoch.toNat, lo32 s.cfg.fwVersion] ++
      leBytes 1 (bit1 s.cfg.runningB)) ++
    s.section 13 64 (leBytes 8 acts ++ leBytes 8 undo ++ leBytes 1 running ++ leBytes 1 s.maint.lastCode ++ leBytes 1 s.maint.lastOut) ++
    List.replicate 128 0 ++ s.section 14 3712 s.vehicle)

/-- What the Waybill and the Drayline composer take from the build frame, at its end (R633, R657). -/
def State.waySnap (s : State) : State :=
  { s with way.snap := s.wayImage, dray.ownSummary := s.nodeSummary }

/-! ### Generations and placement (R630 to R636, R643) -/

/-- A change of WAY_STATUS.STATE, with WAYBILL_STATE. -/
def State.wayTo (s : State) (st cause : Nat) : State :=
  if s.way.st = st then { s with way.cause := cause }
  else { s with way.st := st, way.cause := cause }.emit 0x0908 14 [s.way.st, st, cause, s.way.gen % 2 ^ 32]
/-- The held image is never written: 1 held, 2 replaced while held. -/
def State.waySkip (s : State) (reason : Nat) : State :=
  match s.way.held with
  | none => s
  | some (g, _, _) =>
    { s with way.held := none, way.skipped := satInc 32 s.way.skipped }.emit 0x0909 14 [g % 2 ^ 32, 1, reason]
/-- An image of a build frame can be written now (R520, R553). -/
def State.wayCan (s : State) (frame : BitVec 32) : Bool := s.dmaOn && s.released frame && !s.tdm.soloHold

/-- An image of the epoch that ends is begun with a new generation (R632), under the placement that epoch had. -/
def State.wayBegin (s : State) : State :=
  if s.isReady fRING && s.way.en && s.inWindow true s.way.base 16384 then
    let s := s.waySkip 2
    { s with way.gen := s.way.gen + 1, way.held := some (s.way.gen + 1, s.clk.lastCount, s.way.snap) }
  else s

/-- The epoch boundary of the Waybill: an image is begun, and then the registers take effect (R643). -/
def State.wayBuild (s : State) : State :=
  let w (o : Nat) : Nat := s.regv (0x9000 + o)
  let s := { s.wayBegin with
    way.en := w 0 % 2 == 1
    way.base := w 0 / 4096 * 4096 + 2 ^ 32 * w 4
    way.vec := w 8 % 64
    way.irqEn := w 8 / 64 % 2 == 1
    way.staleEp := w 8 / 256 % 256 }
  if !s.isReady fRING then s
  else if !s.way.en then (s.waySkip 1).wayTo 0 0
  else if !s.inWindow true s.way.base 16384 then (s.waySkip 1).wayTo 3 1
  else s.wayTo (if s.way.held.isNone || s.wayCan s.clk.lastCount then 1 else 2) 0

/-- The image as it is written: GEN_BEGIN, FLAGS and CPL_MARK put in. -/
def State.wayFinal (s : State) (g : Nat) (b : List Byte) : List Byte :=
  let flags := bytesAt b 41 1 + 2 * bit1 s.way.tkFirst + 4 * bit1 s.way.first
  spliceAt (spliceAt (spliceAt b 0 (leBytes 8 g)) 41 (leBytes 1 flags)) 48 (leBytes 4 s.cplMark.toNat)

/-- Writes the held image into its half: GEN_BEGIN, the rest, GEN_END (R631, R635). -/
def State.wayWrite (s : State) (g : Nat) (b : List Byte) : State :=
  let a := s.way.base + 8192 * (g % 2)
  let im := s.wayFinal g b
  let s := s.postMem a (im.take 8)
  let s := s.postMem (a + 8) (im.drop 8)
  let s := s.postMem (a + 0x1FF8) (leBytes 8 g)
  let s := { s with
    way.held := none, way.genWritten := g, way.first := false, way.tkFirst := false }
  let s := if s.way.irqEn then s.signal s.way.vec else s
  s.wayTo 1 0

/-- WAYBILL_WRITE (R634). -/
def execWaybillWrite (s : State) : Host.Outcome State Fault Refusal :=
  match s.way.held with
  | some (g, f, b) =>
    .next (if s.commands && s.way.st != 3 && s.wayCan f && s.running then s.wayWrite g b else s)
  | none => .next s

end Sys2Proof.Machine
end

