-- ==== Sys2Proof/Machine/Dray.lean ====
section
/-! DEFINITION. Drayline (spec/17): received messages, time alignment (R72–R77), what a leader and a led node send, and the
descriptors of class 0x0C. -/

namespace Sys2Proof.Machine

/-! ### Ports -/

/-- DRAY_CFG.UP_ID, where the role has an uplink (R651). -/
def State.upId (s : State) : Nat := if s.sys.role = .manager then 0 else s.cfgf 0xA000 0 3
def State.upUsed (s : State) : Bool := s.upId != 0
/-- The device leads a downlink: its role has one and DOWN_EN is set (R682). -/
def State.downUsed (s : State) : Bool :=
  s.sys.variant.hasDown && s.sys.role != .branch && s.cfgb 0xA000 3
def State.node (s : State) (n : Nat) : Node := s.dray.nodes.getD n {}
def State.modNode (s : State) (n : Nat) (f : Node → Node) : State :=
  { s with dray.nodes := s.dray.nodes.modify n f }
/-- A downward message this port takes: from the leader, to this node or to all (R651, R654). -/
def State.hearsUp (s : State) (h : DrayHdr) : Bool :=
  h.port == 0 && h.src == 0 && s.upUsed && (h.dst == 0xFF || h.dst == s.upId) && s.running
/-- An upward message this port takes: from a led node, to node 0. -/
def State.hearsDown (s : State) (h : DrayHdr) : Bool :=
  h.port == 1 && decide (1 ≤ h.src) && decide (h.src ≤ 7) && h.dst == 0 && s.downUsed && s.running
/-- Counts a frame its port received. -/
def State.countRx (s : State) (h : DrayHdr) : State :=
  if h.port = 0 then { s with dray.rxUp := satInc 32 s.dray.rxUp, dray.upPlca := true }
  else { s with dray.rxDn := satInc 32 s.dray.rxDn }

/-! ### Stale messages and sessions (R673, R674) -/

/-- Later by serial comparison of `w` bits. -/
def laterBy (w a b : Nat) : Bool :=
  let d := (a + 2 ^ w - b % 2 ^ w) % 2 ^ w
  d != 0 && decide (d < 2 ^ (w - 1))
def State.track (s : State) (h : DrayHdr) : Option Track := s.dray.tracks.find? fun t => t.port == h.port && t.node == h.src
/-- The reason a message is stale under 1 to 3 of R673; 0 where none applies. -/
def State.staleReason (s : State) (h : DrayHdr) : Nat :=
  let old : Bool := s.clk.alignState == .locked && h.aligned && decide (h.epoch + 2 < s.epochNo)
  match s.track h with
  | none => if old then 1 else 0
  | some t =>
    if laterBy 16 h.session t.session then 0
    else if old then 1
    else if h.session % 2 ^ 16 = t.session % 2 ^ 16 then
      (if h.epoch < t.epoch ∨ (h.epoch = t.epoch ∧ laterBy 12 h.seq t.seq = false) then 2 else 0)
    else 3
/-- Drops a stale message: counted and recorded. -/
def State.dropStale (s : State) (h : DrayHdr) (reason : Nat) : State :=
  { s with dray.stale := satInc 32 s.dray.stale, dray.staleEpoch := s.dray.staleEpoch + 1 }.emit 0x0A02 14
    [h.src, h.seq % 4096, h.epoch, reason]
/-- Whether the message opens a new session of a node already tracked (R674). -/
def State.newSession (s : State) (h : DrayHdr) : Bool :=
  match s.track h with
  | none => false
  | some t => laterBy 16 h.session t.session
/-- Keeps an accepted message's identifier. -/
def State.keepTrack (s : State) (h : DrayHdr) : State :=
  { s with dray.tracks := (s.dray.tracks.filter fun t => !(t.port == h.port && t.node == h.src)) ++
      [⟨h.port, h.src, h.session, h.epoch, h.seq⟩] }
/-- DRAY_JOIN: 1 joined, 2 left, 3 new session. -/
def State.joinRecord (s : State) (port node session event : Nat) : State := s.emit 0x0A01 14 [port, node, session, event]

/-! ### Downward messages at a led node -/

/-- Retires the leader's entry of every rail (R238, R674, R677). -/
def State.retireLead (s : State) : State := s.each s.railIdx fun s n => s.retireFc n true stDONE 2

/-- A change of FRM_ALIGN_STATUS.STATE, with ALIGN_STATE. -/
def State.alignTo (s : State) (st : AlignState) : State :=
  { s with clk.alignState := st }.emit 0x0107 14 [s.clk.alignState.code, st.code, i32 s.clk.alignErr, s.epochNo]
/-- ALIGN_LOCK's record. -/
def State.alignLockRecord (s : State) : State :=
  s.emit 0x0106 14 [twos 64 s.clk.alignOfs % 2 ^ 32, twos 64 s.clk.alignOfs / 2 ^ 32, i32 s.clk.alignErr, s.dray.beaconEp]
/-- The multiple of 10,000 ns nearest to a difference of times (R74). -/
def nearestFrame (d : Int) : Int := (d + 5000) / 10000 * 10000

/-- A valid BEACON pairs the leader's time with the node's own (R662): the offset is set on the first of a session that asks
for it (R74, R77), and otherwise the error is measured and slewed out (R75, R76). -/
def State.alignSample (s : State) (leader own : Int) : State :=
  if !s.clk.ofsSet || s.dray.alignNew then
    let again := s.dray.alignNew && s.clk.ofsSet
    let ofs := nearestFrame (leader - own)
    let s := { s with
      clk.alignOfs := ofs, clk.ofsSet := true, clk.alignErr := own + ofs - leader, clk.lockRun := 0
      dray.alignNew := false }
    let s := s.alignTo .acquiring
    if again then { s.alignLockRecord with dray.sessionAdv := s.downUsed } else s
  else
    let err := own + s.clk.alignOfs - leader
    let s := { s with
      clk.alignErr := err
      clk.alignRate := roundQ 112 (s.freeIn (-15000) 15000)
      clk.lockRun := if err.natAbs ≤ 2000 then s.clk.lockRun + 1 else 0 }.freeStep
    if s.clk.alignState = .holdover then s.alignTo .acquiring else s

/-- BEACON's part at a led node (R662, R674, R675). -/
def State.beaconIn (s : State) (h : DrayHdr) (prevSfd : Nat) (joined : BitVec 8) (stamp : Nat) : State :=
  let new := s.newSession h
  let s := s.keepTrack h
  let s := if new then
      (s.joinRecord 0 0 h.session 3).retireLead
    else s
  let s := if new then { s with dray.alignNew := true } else s
  let s := match s.dray.lastStamp with
    | some own =>
      if prevSfd ≠ 0 ∧ s.dray.lastEp + 1 = h.epoch then
        let s := { s with dray.beaconEp := (h.epoch + 1) % 2 ^ 32 }
        let s := s.alignSample ((prevSfd : Int) + s.cfgf 0xA004 0 16) own
        { s with
          clk.noBeacon := 0, dray.upSilent := 0, dray.upHeard := true
          dray.upState := if s.dray.upState = 3 then 1 else s.dray.upState }
      else s
    | none => s
  let s := { s with dray.lastStamp := some stamp, dray.lastEp := h.epoch }
  let j := joined.getLsbD s.upId
  let s := if j = s.dray.upJoined then s else
    { s with dray.upJoined := j }.joinRecord 0 s.upId h.session (if j then 1 else 2)
  { s with dray.upState := if j && s.dray.upState != 3 then 2 else if s.dray.upState = 2 then 1 else s.dray.upState }

/-- BEACON (R662). -/
def execBeacon (h : DrayHdr) (prevSfd : Nat) (_leaderState : Nat) (joined : BitVec 8) (_flags : BitVec 8) (stamp : Nat)
    (s : State) : Host.Outcome State Fault Refusal :=
  if s.hearsUp h then
    let s := s.countRx h
    let r := s.staleReason h
    if r ≠ 0 then .next (s.dropStale h r) else .next (s.beaconIn h prevSfd joined stamp)
  else .next s

/-- ALIGN_LOCK (R75). -/
def execAlignLock (s : State) : Host.Outcome State Fault Refusal :=
  .next (if s.clk.alignState = .acquiring ∧ 10 ≤ s.clk.lockRun then (s.alignTo .locked).alignLockRecord else s)

/-- HOLDOVER (R76). -/
def execHoldover (s : State) : Host.Outcome State Fault Refusal :=
  .next (if (s.clk.alignState = .acquiring ∨ s.clk.alignState = .locked) ∧ 10 ≤ s.clk.noBeacon then
    { s.alignTo .holdover with clk.lockRun := 0 } else s)

/-- CAP (R665, R679): the node's entry becomes its leader cap; in the safe floor it is only acknowledged. -/
def execCap (h : DrayHdr) (caps : List Nat) (s : State) : Host.Outcome State Fault Refusal :=
  if s.hearsUp h then
    let s := s.countRx h
    let r := s.staleReason h
    if r ≠ 0 then .next (s.dropStale h r)
    else
      let s := s.keepTrack h
      let s := { s with dray.capEpoch := h.epoch }
      .next (if s.brake.inFloor then s
        else { s.changeCap true (caps.getD (s.upId - 1) 0 % 2 ^ 32) with dray.fallback := false })
  else .next s

/-- Why a node refuses a FORECAST, as FORECAST_POST's RESULT; 0 where it takes it (R671). -/
def State.fcRefusal (s : State) (t : Nat) (di : Int) (rise window rail : Nat) : Nat :=
  if s.sys.variant.rails ≤ rail || !(s.rail rail).isOn then 1
  else if s.railf rail 0x8C 24 1 = 0 then 2
  else if s.isFollower rail then 3
  else if !fcFieldsOk di rise window || decide (s.evalStrobe + 100000000 < t) then 4
  else 0

/-- FORECAST (R671, R679). -/
def execForecast (h : DrayHdr) (t : Nat) (di : Int) (rise window rail : Nat) (s : State) :
    Host.Outcome State Fault Refusal :=
  if s.hearsUp h then
    let s := s.countRx h
    let r := s.staleReason h
    if r ≠ 0 then .next (s.dropStale h r)
    else
      let s := s.keepTrack h
      let s := { s with dray.fcAck := some (h.seq % 4096) }
      if s.brake.inFloor then .next s
      else
        let own := ((t : Int) - s.clk.alignOfs).toNat
        let c := s.fcRefusal own di rise window rail
        let s := s.emit 0x0A08 14 [rail, i32 di, c, h.seq % 4096]
        .next (if c = 0 then
          s.putForecast rail true { t := own, di := di, rise := rise, window := window, slot := none } else s)
  else .next s

/-- ACK (R668): an ALARM whose SEQ it names is no longer repeated. -/
def execAck (h : DrayHdr) (entries : List (Nat × Nat)) (s : State) : Host.Outcome State Fault Refusal :=
  if s.hearsUp h then
    let s := s.countRx h
    let r := s.staleReason h
    if r ≠ 0 then .next (s.dropStale h r)
    else
      let s := s.keepTrack h
      let mine := (entries.filter (·.1 = s.upId)).map (·.2 % 4096)
      .next { s with dray.alarms := s.dray.alarms.filter fun a => !(s.upUsed && a.seqs.any mine.contains) }
  else .next s

/-! ### Upward messages at a leader -/

/-- R653: whether a frame comes from a second address under a node's ID, and not from the other twin of its pair. -/
def State.conflicts (s : State) (h : DrayHdr) : Bool :=
  let nd := s.node h.src
  nd.joined && nd.mac != h.mac &&
    !(h.pair && (match s.track h with | some t => t.session % 2 ^ 16 == h.session % 2 ^ 16 | none => false))
/-- Sets the conflict bit, with DRAY_ID_CONFLICT where it was clear. -/
def State.conflictIn (s : State) (h : DrayHdr) : State :=
  let was := (s.node h.src).mac2.isSome
  let s := s.modNode h.src fun n => { n with mac2 := some h.mac, mac2Silent := 0 }
  if was then s else s.emit 0x0A06 14 [h.src, h.mac.toNat % 2 ^ 32, h.mac.toNat / 2 ^ 32, 0]

/-- The vehicle entry a summary belongs to (R644, R666); none where the role keeps none. -/
def State.entryOf (s : State) (node subject : Nat) : Option Nat :=
  match s.sys.role with
  | .manager => some (8 * (node - 1) + subject)
  | .zone => if subject = 0 then some node else none
  | .branch => none
/-- Reason 4: the summary is earlier than its entry's. -/
def State.earlier (s : State) (h : DrayHdr) (p : DrayUp) : Bool :=
  match s.entryOf h.src (p.subject % 8) with
  | some i =>
    let e := s.dray.vehicle.getD i {}
    e.joinedEver && decide (p.subjEpoch < e.subj) && !s.newSession h
  | none => false

/-- A node's DRAY_CAP and DRAY_FORECAST that its acknowledgements complete (R669, R670). -/
def State.nodeAcks (s : State) (n : Nat) (p : DrayUp) : State :=
  let fits (c : Nat × Option Nat) : Bool := match c.2 with | some e => p.capEpoch != 0 && decide (e ≤ p.capEpoch) | none => false
  let done := (s.node n).capSlots.filter fits
  let s := s.modNode n fun d => { d with capSlots := d.capSlots.filter fun c => !fits c }
  let s : State := done.foldl (fun s c => s.complete c.1 stDONE (c.2.getD 0)) s
  let acked (q : DrayQ) : Bool := match q with
    | .fc _ node _ _ _ _ _ _ _ seqs => p.fcAckValid && node == n && seqs.contains (p.fcAckSeq % 4096)
    | .st .. => false
  let fin := s.dray.queue.filter acked
  let s := { s with dray.queue := s.dray.queue.filter fun q => !acked q }
  fin.foldl (fun s q => match q with
    | .fc slot _ _ _ _ _ _ _ first _ => s.complete slot stDONE (first.getD 0)
    | .st .. => s) s

/-- What every accepted upward frame does (R646, R666, R672, R675). -/
def State.upIn (s : State) (h : DrayHdr) (p : DrayUp) : State :=
  let n := h.src
  let new := s.newSession h
  let was := (s.node n).joined
  let s := s.keepTrack h
  let s := if !was then s.joinRecord 1 n h.session 1 else if new then s.joinRecord 1 n h.session 3 else s
  let s := s.modNode n fun d => { d with joined := true, mac := h.mac, heard := true, silent := 0 }
  let s := match s.entryOf n (p.subject % 8) with
    | some i =>
      let e : VEntry := { joinedEver := true, lost := false, epoch := h.epoch, subj := p.subjEpoch, summary := p.summary }
      { s with dray.vehicle := s.dray.vehicle.modify i fun _ => e }
    | none => s
  let s := if p.subject % 8 = 0 then s.modNode n fun d => { d with stage := some (bytesAt p.summary 35 1) } else s
  s.nodeAcks n p

/-- Judges an upward frame (R653, R673) and, where it is accepted, applies it and `f`. -/
def State.upward (s : State) (h : DrayHdr) (p : DrayUp) (f : State → State) : State :=
  if s.hearsDown h then
    let s := s.countRx h
    if s.conflicts h then s.conflictIn h
    else
      let r := s.staleReason h
      if r ≠ 0 then s.dropStale h r
      else if s.earlier h p then s.dropStale h 4
      else f (s.upIn h p)
  else s

/-- REPORT (R666). -/
def execReport (h : DrayHdr) (p : DrayUp) (s : State) : Host.Outcome State Fault Refusal :=
  .next (s.upward h p id)

/-- STAGE (R672): from the leader the latest stage for STAGE_UP, from a led node its stage for STAGE_DOWN. -/
def execStage (h : DrayHdr) (stage : Nat) (up : Option DrayUp) (s : State) : Host.Outcome State Fault Refusal :=
  match up with
  | some p => .next (s.upward h p fun s => s.modNode h.src fun d => { d with stage := some (p.event % 256) })
  | none =>
    if s.hearsUp h then
      let s := s.countRx h
      let r := s.staleReason h
      if r ≠ 0 then .next (s.dropStale h r) else .next { s.keepTrack h with seq.stageUp := some (stage % 256) }
    else .next s

/-- ALARM (R667, R668): acknowledged in the next ACK, and relayed by a Zone. -/
def execAlarm (h : DrayHdr) (p : DrayUp) (s : State) : Host.Outcome State Fault Refusal :=
  .next (s.upward h p fun s =>
    let s := s.emit 0x0A05 14 [1, h.src, p.subject % 8, p.event % 256]
    let s := { s with dray.ackQ := s.dray.ackQ ++ [(h.src, h.seq % 4096, s.clk.tick)] }
    if s.sys.role = .zone ∧ p.subject % 8 = 0 ∧ s.upUsed = true then
      let mine (a : AlarmQ) : Bool := a.subject == h.src
      let old := (s.dray.alarms.find? mine).getD ⟨h.src, 0, [], [], 0, s.clk.tick⟩
      let a : AlarmQ := { old with cause := old.cause ||| (p.event % 256), summary := p.summary, subjEpoch := h.epoch }
      { s with dray.alarms := (s.dray.alarms.filter fun a => !mine a) ++ [a] }
    else s)

/-! ### Losses, conflicts and discarded frames -/

/-- A device alarm for the leader (R659): its cause bits. -/
def State.alarmRaise (s : State) (bits : Nat) : State :=
  if bits = 0 || !s.upUsed || !s.cfgb 0xA000 4 then s
  else { s with dray.alarms := s.dray.alarms ++ [⟨0, bits, [], [], 0, s.clk.tick⟩] }

/-- NODE_LOSS (R676, R627). -/
def execNodeLoss (n : Nat) (s : State) : Host.Outcome State Fault Refusal :=
  let d := s.node n
  if d.joined && decide (s.cfgf 0xA008 0 8 ≤ d.silent) && s.downUsed then
    let session := (s.dray.tracks.find? fun t => t.port == 1 && t.node == n).map (·.session)
    let mine (q : DrayQ) : Bool := match q with | .fc _ node _ _ _ _ _ _ _ _ => node == n | .st .. => false
    let gone := s.dray.queue.filter mine
    let s := s.modNode n fun d => { d with joined := false, silent := 0, heard := false, capSlots := [], stage := none }
    let hit (i : Nat) : Bool := match s.sys.role with
      | .manager => i / 8 + 1 == n
      | .zone => i == n
      | .branch => false
    let s := { s with
      dray.queue := s.dray.queue.filter fun q => !mine q
      dray.vehicle := s.dray.vehicle.mapIdx fun i (e : VEntry) => if hit i && e.joinedEver then { e with lost := true } else e }
    let s := s.joinRecord 1 n (session.getD 0) 2
    let s : State := d.capSlots.foldl (fun s c => s.complete c.1 stABORTED 1) s
    let s : State := gone.foldl (fun s q => match q with
      | .fc slot _ _ _ _ _ _ _ _ _ => s.complete slot stABORTED 1
      | .st .. => s) s
    .next (s.alarmRaise 0x40)
  else .next s

/-- ID_CONFLICT_CLEAR (R653). -/
def execIdConflictClear (n : Nat) (s : State) : Host.Outcome State Fault Refusal :=
  let d := s.node n
  .next (if d.mac2.isSome && decide (s.cfgf 0xA008 0 8 ≤ d.mac2Silent) then
    s.modNode n fun d => { d with mac2 := none, mac2Silent := 0 } else s)

/-- DRAY_UPLINK_LOSS (R677). -/
def execDrayUplinkLoss (s : State) : Host.Outcome State Fault Refusal :=
  if s.upUsed && s.dray.upState != 0 && s.dray.upState != 3 && decide (s.cfgf 0xA008 8 8 ≤ s.dray.upSilent) then
    let pol := s.cfgf 0xA008 16 2
    let before := s.cap.leader
    let after := match pol with | 0 => before | 2 => s.cfgv 0xA00C | _ => 0
    let s := s.emit 0x0A04 14 [s.dray.upSilent, pol, before, after]
    let s := s.retireLead.changeCap true after
    .next { s with dray.upState := 3, dray.upJoined := false, dray.upPlca := false, dray.fallback := pol != 0 }
  else .next s

/-- DRAY_CRC_DISCARD (R654). -/
def execDrayCrcDiscard (port : Nat) (s : State) : Host.Outcome State Fault Refusal :=
  let first := s.dray.crcEpoch.all (· == 0)
  .next (if (port = 0 ∧ s.upUsed = true ∨ port = 1 ∧ s.downUsed = true) ∧ s.running = true then
    { s with
      dray.crc := satInc 32 s.dray.crc
      dray.crcEpoch := s.dray.crcEpoch.modify port (· + 1)
      dray.crcFirst := if first then s.clk.strobe else s.dray.crcFirst }
  else s)

/-! ### What the device composes and sends (R655–R661) -/

/-- FLAGS of a frame it sends. -/
def State.drayFlags (s : State) : BitVec 8 :=
  BitVec.ofNat 8 (bit1 (s.clk.ofsSet || s.sys.role == .manager) + 2 * bit1 s.inPair)
/-- One frame on the wire: the perturbation unit may drop or hold it (R768). -/
def State.putFrame (s : State) (f : DraySent) : State :=
  if s.perturbs 4 && s.cfgf 0xE018 0 1 == 1 - (if f.port = 0 then 1 else 0) then
    let drop := decide ((Config.freeWord s.freeCtr).toNat % 256 < s.cfgf 0xE018 16 8)
    let delay := s.cfgf 0xE018 8 4
    let s := s.freeStep
    if drop then s.inject
    else if delay ≠ 0 then { s with dray.heldTx := s.dray.heldTx ++ [(s.clk.tick + 100 * delay, f)] }.inject
    else { s with dray.sent := s.dray.sent ++ [f] }
  else { s with dray.sent := s.dray.sent ++ [f] }
/-- Sends a downward frame under the next SEQ. -/
def State.sendDown (s : State) (type dst : Nat) (payload : List Byte) : State :=
  let s := s.putFrame {
    port := 1, type := type, dst := dst, seq := s.dray.downSeq, session := s.dray.session.toNat, epoch := s.dray.buildEp
    flags := s.drayFlags, payload := payload }
  { s with dray.downSeq := (s.dray.downSeq + 1) % 4096 }
/-- Sends an upward frame under the next SEQ: subject, event, summary and its epoch. -/
def State.sendUp (s : State) (type subject event : Nat) (summary : List Byte) (subjEpoch : Nat) : State :=
  let ack := match s.dray.fcAck with | some q => q % 4096 + 2 ^ 15 | none => 0
  let payload := padTo 64 (padTo 48 summary ++ leBytes 1 subject ++ leBytes 1 event ++ leBytes 2 ack ++
    leBytes 4 s.dray.capEpoch ++ leBytes 4 subjEpoch)
  let s := s.putFrame {
    port := 0, type := type, dst := 0, seq := s.dray.upSeq, session := s.dray.session.toNat, epoch := s.dray.buildEp
    flags := s.drayFlags, payload := payload }
  { s with dray.upSeq := (s.dray.upSeq + 1) % 4096 }

def DrayQ.since : DrayQ → Nat
  | .fc _ _ _ _ _ _ _ since _ _ => since
  | .st _ _ since => since
/-- The one further frame of the burst: the oldest FORECAST or STAGE composed before this epoch (R657, R658); none in the
safe floor (R679). -/
def State.nextItem (s : State) : Option DrayQ :=
  if s.brake.inFloor then none else s.dray.queue.find? fun q => decide (q.since < s.clk.epTick)
/-- Sends it. A STAGE completes its DRAY_STAGE; a FORECAST stays until it is acknowledged (R670). -/
def State.sendItem (s : State) (q : DrayQ) : State :=
  match q with
  | .st stage slot _ =>
    let s := { s with dray.queue := s.dray.queue.erase q }
    let s := s.sendDown 5 0xFF (padTo 4 (leBytes 1 stage))
    match slot with | some k => s.complete k stDONE s.epochNo | none => s
  | .fc slot node t di rise window rail since first seqs =>
    let q' := DrayQ.fc slot node t di rise window rail since (some (first.getD s.epochNo)) (seqs ++ [s.dray.downSeq])
    let s := { s with dray.queue := s.dray.queue.replace q q' }
    s.sendDown 4 node (padTo 20 (leBytes 8 t ++ leBytes 4 (i32 di) ++ leBytes 2 rise ++ leBytes 2 window ++ leBytes 1 rail))

/-- The ALARMs the next ACK names: those applied before this epoch. -/
def State.ackNow (s : State) : List (Nat × Nat × Nat) := (s.dray.ackQ.filter fun a => decide (a.2.2 < s.clk.epTick)).take 7
/-- The downlink's burst (R656, R658). -/
def State.burstDown (s : State) (sfd : Nat) : State :=
  let hold : Bool := s.sys.variant.hasPath && (s.path.st == .handover || s.path.st == .holdup)
  let s := s.sendDown 1 0xFF (padTo 16 (leBytes 8 s.dray.prevSfd ++ leBytes 1 s.clk.alignState.code ++
    leBytes 1 s.joinedMask ++ leBytes 1 (bit1 s.brake.inFloor + 2 * bit1 hold)))
  let s := s.sendDown 2 0xFF (padTo 32 (s.dray.capsOut.flatMap (leBytes 4)))
  let acks := s.ackNow
  let s := if acks.isEmpty then s
    else s.sendDown 7 0xFF (padTo 28 (acks.flatMap fun a => leBytes 1 a.1 ++ [0] ++ leBytes 2 a.2.1))
  let s := { s with dray.ackQ := s.dray.ackQ.filter fun a => !acks.contains a }
  let s := match s.nextItem with | some q => s.sendItem q | none => s
  { s with
    dray.prevSfd := ((sfd : Int) + s.clk.alignOfs).toNat, dray.capsSent := s.dray.capsOut, dray.downDue := false }

/-- The led node whose summary the next REPORT carries: the sender, then its joined nodes in ascending ID (R659). -/
def State.nextSubject (s : State) : Nat :=
  if s.downUsed && s.sys.role == .zone then
    ((List.range 8).find? fun n => decide (s.dray.rot < n) && (s.node n).joined).getD 0
  else 0
/-- The uplink's one frame of the epoch (R659). -/
def State.frameUp (s : State) : State :=
  let own := s.dray.ownSummary
  let ep := s.dray.buildEp
  let ready := s.dray.alarms.filter fun a => decide (a.since < s.clk.epTick)
  let alarm := (ready.find? (·.subject = 0)).or (ready.find? (·.subject ≠ 0))
  let s := { s with dray.upDue := false }
  match alarm with
  | some a =>
    let s := { s with dray.alarms := s.dray.alarms.replace a { a with seqs := a.seqs ++ [s.dray.upSeq] } }
    let s := if a.seqs.isEmpty then s.emit 0x0A05 14 [0, s.upId, a.subject, a.cause] else s
    if a.subject = 0 then s.sendUp 6 0 a.cause own ep else s.sendUp 6 a.subject a.cause a.summary a.subjEpoch
  | none =>
    match (if s.brake.inFloor then none else s.dray.upStages.find? fun g => decide (g.2.2 < s.clk.epTick)) with
    | some g =>
      let s := { s with dray.upStages := s.dray.upStages.erase g }
      let s := s.sendUp 5 0 g.1 own ep
      (match g.2.1 with | some k => s.complete k stDONE s.epochNo | none => s)
    | none =>
      let n := s.nextSubject
      let s := { s with dray.rot := n }
      let e := s.dray.vehicle.getD n {}
      if n = 0 then s.sendUp 3 0 0 own ep else s.sendUp 3 n 0 e.summary e.epoch

/-- Whether a port sends at all: its twin commands, and its function is up, or for the uplink a valid BEACON has come
(R675, R678). -/
def State.maySend (s : State) (port : Nat) : Bool :=
  s.commands && s.running &&
    (if port = 0 then s.upUsed && s.dray.beaconEp != 0 && s.dray.upState != 0 else s.downUsed && s.isReady fDOWN)

/-- DRAY_TRANSMIT (R658–R660): the port's transmit opportunity of the epoch. On a mirrored active the build frame's block is
acknowledged first (R520). -/
def execDrayTransmit (port sfd : Nat) (s : State) : Host.Outcome State Fault Refusal :=
  if s.maySend port && decide (s.clk.pos < 90) && s.released s.clk.lastCount && !s.tdm.soloHold then
    if port = 0 then .next (if s.dray.upDue then s.frameUp else s)
    else .next (if s.dray.downDue then s.burstDown sfd else s)
  else .next s

/-! ### The frame and the epoch -/

/-- The alarm conditions of a frame: floor, hold-up, FAULT_N low, PGOOD low, UNMET. -/
def State.alarmBits (s : State) : Nat :=
  let hold : Bool := s.sys.variant.hasPath && (s.path.st == .handover || s.path.st == .holdup)
  bit1 s.brake.inFloor + 2 * bit1 hold + 4 * bit1 s.seq.faultLow + 8 * bit1 (!s.seq.pgood) + 16 * bit1 (s.cap.stage == 5)

/-- The cap each led node gets (R664). -/
def State.capFor (s : State) (n : Nat) : Nat :=
  let host := (s.node n).hostCap
  let auto := s.cfgf (0xA040 + 4 * n) 0 8 * s.pCap / 100
  if host = 0 then auto else if auto = 0 then host else min host auto

/-- The end of a frame: alarms, the ports' states, forecasts out of time (R670), and in a build frame the caps and the
summary (R657). -/
def State.drayFrame (s : State) : State :=
  let bits := s.alarmBits
  let new := bits &&& (31 - (s.dray.prevBits.toNat &&& 31))
  let s := s.alarmRaise new
  let down : Nat := if s.downUsed && s.isReady fDOWN then (if s.commands then 1 else 2) else 0
  let s := { s with
    dray.prevBits := BitVec.ofNat 8 bits
    dray.downState := down
    dray.dnPlca := down == 1
    dray.upState := if !s.upUsed then 0 else if s.dray.upState = 0 && s.isSettled fTDM then 1 else s.dray.upState }
  let late (q : DrayQ) : Bool := match q with
    | .fc _ _ t _ _ window _ _ _ _ => decide (((t + 1000 * window : Nat) : Int) < s.aligned)
    | .st .. => false
  let gone := s.dray.queue.filter late
  let s := { s with dray.queue := s.dray.queue.filter fun q => !late q }
  let s : State := gone.foldl (fun s q => match q with
    | .fc slot _ _ _ _ _ _ _ _ _ => s.complete slot stDEADLINE 0
    | .st .. => s) s
  if s.clk.pos = 99 then
    let s := { s with dray.buildEp := s.epochNo }
    if s.brake.inFloor then s
    else
      { s with
        dray.capsOut := (List.range 7).map fun k => s.capFor (k + 1)
        dray.nodes := s.dray.nodes.map fun (d : Node) =>
          { d with capSlots := d.capSlots.map fun c => (c.1, some (c.2.getD s.epochNo)) } }
  else s

/-- A CAP that was not sent carried nothing: the DRAY_CAPs it would have been the first for wait for the next. -/
def capUnsent (ep : Nat) (d : Node) : Node :=
  { d with capSlots := d.capSlots.map fun (c : Nat × Option Nat) => (c.1, if c.2 = some (ep - 1) then none else c.2) }
/-- Frames of a port that could not start in time (R660). -/
def State.skipPort (s : State) (port : Nat) : State :=
  let due : Bool := if port = 0 then s.dray.upDue else s.dray.downDue
  if due && s.maySend port then
    let n := if port = 0 then 1 else 2 + bit1 (!s.ackNow.isEmpty) + bit1 s.nextItem.isSome
    let type := if port = 0 then
      (if s.dray.alarms.isEmpty then (if s.dray.upStages.isEmpty then 3 else 5) else 6) else 1
    { s with
      dray.skip := satAdd 32 s.dray.skip n
      dray.skipType := if s.dray.skipEpoch = 0 then type else s.dray.skipType
      dray.skipFirst := if s.dray.skipEpoch = 0 then s.clk.lastStrobe else s.dray.skipFirst
      dray.skipEpoch := s.dray.skipEpoch + n
      dray.nodes := if port = 0 then s.dray.nodes else s.dray.nodes.map (capUnsent s.dray.buildEp) }
  else s

/-- The epoch boundary of Drayline: skips and discards of the epoch that ends, silences, the session's advance (R674), and
what the ports owe in the epoch that begins. -/
def State.drayEpoch (s : State) : State :=
  let s := (s.skipPort 1).skipPort 0
  let s := if s.dray.skipEpoch = 0 then s
    else s.emitSum s.dray.skipFirst 0x0A07 14 [s.dray.skipEpoch, s.dray.skipType, s.clk.lastEpoch.toNat, 0]
  let s := s.each [0, 1] fun s p =>
    if s.dray.crcEpoch.getD p 0 = 0 then s
    else s.emitSum s.dray.crcFirst 0x0A03 14 [p, s.dray.crcEpoch.getD p 0, s.clk.lastEpoch.toNat, 0]
  let adv := s.dray.sessionAdv
  let freed := s.dray.heldTx.filter fun x => decide (x.1 ≤ s.clk.tick)
  let heard := s.dray.upHeard
  let s := { s with
    dray.skipEpoch := 0
    dray.crcEpoch := [0, 0]
    dray.staleEpoch := 0
    dray.sent := s.dray.sent ++ freed.map Prod.snd
    dray.heldTx := s.dray.heldTx.filter fun x => decide (s.clk.tick < x.1)
    dray.session := if adv then s.dray.session + 1 else s.dray.session
    sys.bootSession := if adv then s.sys.bootSession + 1 else s.sys.bootSession
    dray.sessionAdv := false
    clk.noBeacon := if heard then 0 else s.clk.noBeacon + 1
    dray.upSilent := if heard then 0 else s.dray.upSilent + 1
    dray.upHeard := false
    dray.nodes := s.dray.nodes.map fun (d : Node) => { d with
      silent := if d.heard then 0 else d.silent + 1
      heard := false
      mac2Silent := d.mac2Silent + 1 } }
  { s with dray.upDue := s.maySend 0, dray.downDue := s.maySend 1 }

/-! ### Descriptors (spec/15, class 0x0C) -/

/-- DRAY_CAP (R669). -/
def execDrayCap (slot : Nat) (s : State) : Host.Outcome State Fault Refusal :=
  .next (s.applyDesc 0x0C01 slot (fun _ => some fDOWN) fun d s =>
    let n := descIndex d
    let mw := descField d 24 4
    if mw ≠ 0 ∧ mw < 100000 then s.reject slot stBADPARAM 1
    else if !s.downUsed then s.reject slot stBADPARAM 3
    else if !(s.node n).joined then s.reject slot stBADPARAM 2
    else (s.modNode n fun d => { d with hostCap := mw, capSlots := d.capSlots ++ [(slot, none)] }).hold slot)

/-- DRAY_FORECAST (R661, R670): held while 32 messages are queued. -/
def execDrayForecast (slot : Nat) (s : State) : Host.Outcome State Fault Refusal :=
  .next (s.applyDesc 0x0C02 slot (fun _ => some fDOWN) fun d s =>
    let n := descIndex d
    let t := descField d 24 8
    let di := signedOf 32 (descField d 32 4)
    let rise := descField d 36 2
    let window := descField d 38 2
    let intake : Int := (s.tag slot).intakeAt + s.clk.alignOfs
    if !s.downUsed then s.reject slot stBADPARAM 3
    else if !(s.node n).joined then s.reject slot stBADPARAM 2
    else if !fcFieldsOk di rise window || decide (intake + 100000000 < t) then s.reject slot stBADPARAM 4
    else if decide (((t + 1000 * window : Nat) : Int) < s.aligned) then s.reject slot stDEADLINE 0
    else if 32 ≤ s.dray.queue.length then s
    else { s with dray.queue := s.dray.queue ++ [DrayQ.fc slot n t di rise window (descField d 40 1) s.clk.tick none []] }.hold slot)

/-- The function whose readiness governs DRAY_STAGE: its port's (R615). -/
def stageFn (d : RawDesc) : Option Nat :=
  match descField d 24 1 with | 0x70 => some fDOWN | 0x71 => some fUP | _ => none
/-- DRAY_STAGE (R406, R661). -/
def execDrayStage (slot : Nat) (s : State) : Host.Outcome State Fault Refusal :=
  .next (s.applyDesc 0x0C03 slot stageFn fun d s =>
    let port := descField d 24 1
    let v := descField d 25 1
    if port ≠ 0x70 ∧ port ≠ 0x71 then s.reject slot stBADPARAM 1
    else if (port = 0x70 ∧ s.downUsed = false) ∨ (port = 0x71 ∧ s.sys.role = .manager) then s.reject slot stBADPARAM 3
    else if port = 0x70 then
      (if 32 ≤ s.dray.queue.length then s
       else { s with dray.queue := s.dray.queue ++ [DrayQ.st v (some slot) s.clk.tick], seq.stageSent := v }.hold slot)
    else
      { s with dray.upStages := s.dray.upStages ++ [(v, some slot, s.clk.tick)], seq.stageSent := v }.hold slot)

end Sys2Proof.Machine
end

