-- ==== Sys2Proof/Machine/FrameCore.lean ====
section
/-! DEFINITION. A frame's work as operations (R53, R63, R66): the control steps, which a standby runs on the active's sample
set (R523), the hardware's own part, the clock, the epoch's control work, and the per-epoch summaries (R67). -/

namespace Sys2Proof.Machine

/-! ### Control work -/

/-- The Brake's check of a switch's limit (R734): one clipping in a frame whose limit is above IPEAK, unless R629 moved it
inside. -/
def State.checkIpeak (s : State) (n : Nat) : State :=
  let c := s.sw n
  if (c.st == .ramp || c.st == .on) && decide ((s.ipeak n : Rat) < s.swAsked n) && !c.inside &&
      !s.clk.overranCtl.getLsbD (swEng n) && !s.brake.inFloor then
    s.brakeClip (0x40 + n) 5 (roundN 113 (s.swAsked n)) (s.ipeak n) (swEng n)
  else s

/-- Step 4's count of a qualifier and its outputs, which follow their sources once every row of the frame has come (R63,
R386, R408, R410, R412). -/
def State.outputsStep (s : State) : State :=
  if s.brake.inFloor then s.supervise else if s.clk.overranCtl.getLsbD 10 then s else s.seqJudge.supervise

/-- The end of step 4, stage 3 and the commit of a frame: outputs, regulation, capping and the path (R53, R734). -/
def State.ctlEnd (s : State) : State :=
  let s := s.outputsStep
  let s := s.each s.railIdx fun s n => s.railFrameEnd n
  let s := s.each s.swIdx fun s n => s.checkIpeak n
  let s := if s.clk.overranCtl.getLsbD 13 then s else s.capFrame
  if s.clk.overranCtl.getLsbD 11 then s else s.pathFrame

/-- Steps 1 to 4 of R63 on the sample set in `s.smp`; the switches' own part where they are this twin's. -/
def State.ctlSteps (s : State) (sws : Bool) : State :=
  let s := s.each s.railIdx fun s n => s.railSample n
  let s := if sws then s.each s.swIdx fun s n => s.swSample n else s
  let s := s.tsense
  let s := s.each s.railIdx fun s n => s.railStep1 n
  let s := if sws then s.each s.swIdx fun s n => s.swStep1 n else s
  let s := s.pathStep
  let s := s.each s.railIdx fun s n => (s.confirmFc n false).confirmFc n true
  let s := s.each s.railIdx fun s n => s.railStep2 n
  let s := s.each s.railIdx fun s n => s.railStep3 n
  let s := if sws then s.each s.swIdx fun s n => s.swStep3 n else s
  s.seqFrame

/-- In the safe floor the engines do only the sensor checks, the path's part and the inputs' (R745), and
hardware its holds and runs; the switches' own part
where they are this twin's. -/
def State.floorSteps (s : State) (sws : Bool) : State :=
  let s := s.each s.railIdx fun s n => s.railSample n
  let s := if sws then s.each s.swIdx fun s n => (s.swSample n).swStep1 n else s
  let s := s.each s.railIdx fun s n => s.railStep1 n
  (s.tsense.pathStep).seqFrame

/-! ### The clock (R66, R69, R72) -/

/-- The next Sample strobe: 10,000 ns on, or after a pause the first frame boundary the device time has not passed. -/
def State.nextStrobe (s : State) : Nat :=
  if s.clk.begun && decide (s.clk.devTime ≤ s.clk.strobe + 10000) then s.clk.strobe + 10000
  else (max s.clk.devTime (s.clk.strobe + 10000) + 9999) / 10000 * 10000

/-- The frame boundary: the strobe, the counters that aligned time gives, and what starts anew with a frame. -/
def State.clockFrame (s : State) : State :=
  let t := s.nextStrobe
  let a : Int := (t : Int) + s.clk.alignOfs
  { s with
    clk.lastCount := s.clk.count
    clk.lastEpoch := s.clk.epoch
    clk.lastStrobe := s.clk.strobe
    clk.strobe := t
    clk.devTime := max s.clk.devTime t
    clk.tick := s.clk.tick + 1
    clk.begun := true
    clk.count := BitVec.ofInt 32 (a / 10000)
    clk.pos := (a / 10000 % 100).toNat
    clk.epoch := BitVec.ofInt 32 (a / 1000000)
    clk.overran := 0
    clk.overranCtl := s.clk.halted
    hif.decLog := [] }

/-! ### Frame boundary work of the other engines -/

/-- Wall offsets set in the frame that ended take effect (R79). -/
def State.wallTake (s : State) : State :=
  let l := s.clk.wallNew
  let s : State := { s with clk.wallNew := [] }
  l.foldl (fun (s : State) (p : Int × Nat) =>
    let old := twos 64 s.clk.wallOfs
    let new := twos 64 p.1
    let s := { s with clk.wallOfs := p.1 }
    (s.emit 0x0105 14 [lo32 old, hi32 old, lo32 new, hi32 new]).complete p.2 stDONE 0) s

/-- The intake of the frame that begins (R54, R580). -/
def State.intakeFrame (s : State) : State :=
  { s with
    hif.intakeCur := s.hif.intakeNow
    hif.intakeNow := []
    hif.takenNow := 0
    hif.visit := none
    hif.rrStart := if s.hif.rrSeen then s.hif.rrStart % 63 + 1 else s.hif.rrStart
    hif.rrSeen := false
    hif.silence := s.hif.silence + 1
    hif.linkDown := if s.sys.linkUp then 0 else s.hif.linkDown + 1 }

/-- The perturbation unit's own frame (R766, R768). -/
def State.testFrame (s : State) : State :=
  let b := s.smp.bench
  let s := { s with
    maint.bench := b
    maint.benchLow := if b then 0 else s.maint.benchLow + 1
    maint.benchHigh := if b then min 100 (s.maint.benchHigh + 1) else 0 }
  let s := if s.perturbs 0 && decide (s.cfgf 0xE008 0 11 ≠ 0) then s.inject else s
  if s.perturbs 2 && decide (s.clk.pos = 0) && decide (s.cfgf 0xE010 8 7 ≠ 0) then s.inject else s

/-- Configuration in force from this frame (R776): all but what takes effect at a rail's turn-on (RAIL_CFG, RAIL_FSW,
RAIL_VIN: R174) and at the epoch boundary (the Waybill's). -/
def liveLater (off : Nat) : Bool :=
  (0x2000 ≤ off && off < 0x3000 && off % 0x100 < 12) || (0x9000 ≤ off && off < 0xA000)
/-- Two lists of one kind of register, kept in rising order of offset. -/
def mergeRegs : Nat → List (Nat × Word) → List (Nat × Word) → List (Nat × Word)
  | 0, _, _ => []
  | _ + 1, [], b => b
  | _ + 1, a, [] => a
  | f + 1, (o, w) :: a, (p, x) :: b =>
    if o < p then (o, w) :: mergeRegs f a ((p, x) :: b) else (p, x) :: mergeRegs f ((o, w) :: a) b
def State.takeLive (s : State) : State :=
  let now := s.regs.filter fun r => !liveLater r.1
  let later := s.live.filter fun r => liveLater r.1
  { s with live := mergeRegs (now.length + later.length + 1) now later }

/-- What the sample set shows of the housekeeping supplies and the resampling of its words (R85, R119, R784). -/
def State.houseSample (s : State) : State :=
  let first := s.clk.resampleEpoch = 0 && decide (s.smp.resamples ≠ 0)
  let lost := s.sys.vaonLost && decide (s.smp.vaonMv < s.cfg.vaonLossMv)
  let back := s.sys.vaonLost && !lost
  let s := { s with
    clk.resampleTotal := s.clk.resampleTotal + s.smp.resamples
    clk.resampleEpoch := s.clk.resampleEpoch + s.smp.resamples
    clk.resampleFirst := if first then s.clk.strobe else s.clk.resampleFirst
    clk.goodSamples := s.clk.goodSamples + 1
    clk.missRun := 0
    sys.vaonMv := s.smp.vaonMv
    sys.v33Mv := s.smp.v33Mv
    sys.v18Mv := s.smp.v18Mv
    sys.vaonLost := lost }
  let s := if back then s.lostRecords else s
  if s.clk.goodSamples = 100 then s.clearCause 6 else s

/-! ### The epoch boundary (R67) -/

/-- Average currents and powers of the epoch, and the counts that start anew with it. -/
def State.epochAverages (s : State) : State :=
  { s with
    rails := s.rails.map fun r => { r with
      iEp := (r.iEpoch : Rat) / 100, iEpoch := 0, pEpoch := 0
      droopClampEpoch := false, vshLim := true }
    sws := s.sws.map fun c => { c with iEp := (c.iEpoch : Rat) / 100, iEpoch := 0 } }

/-- A rail's summaries: TRUNC_SUMMARY, LIMIT_SUMMARY and SHARE_LIMIT (R190, R303, R258). -/
def State.railSummaries (s : State) (n : Nat) : State :=
  let r := s.rail n
  let ep := s.clk.lastEpoch.toNat
  let s := if r.truncEpoch = 0 then s
    else s.emitSum r.truncFirst 0x0204 (railEng n) [n, r.truncEpoch, r.truncMax, ep]
  let s := if r.peakEpoch = 0 then s
    else s.emitSum r.peakFirst 0x030C (railEng n) [n, r.peakEpoch, r.peakMin, ep]
  let s := if s.isFollower n && r.isOn && r.vshLim then
      s.emit 0x020C (railEng n) [n, i32 (roundQ 114 r.vsh), i32 (roundQ 115 r.shareErr), ep]
    else s
  s.modRail n fun r => { r with truncEpoch := 0, truncMax := 0, peakEpoch := 0, peakMin := 0 }

/-- SPEC_SUMMARY (R234): actions taken and undone in the epoch, and entries retired, of the whole device; the totals as
registers show them move on. -/
def State.specSummary (s : State) : State :=
  let d (f : Nat × Nat × Nat × Nat → Nat) : Nat :=
    (s.rails.map fun r => f (r.fcConf, r.fcRet, r.specAct, r.specUndo) - f r.fcShown).sum
  let act := d (·.2.2.1)
  let undo := d (·.2.2.2)
  let s := if act = 0 ∧ undo = 0 then s
    else s.emitSum s.clk.lastStrobe 0x0E03 15 [act, undo, d (·.2.1), s.clk.lastEpoch.toNat]
  { s with rails := s.rails.map fun r => { r with fcShown := (r.fcConf, r.fcRet, r.specAct, r.specUndo) } }

/-- A switch's summary (R351). -/
def State.swSummary (s : State) (n : Nat) : State :=
  let c := s.sw n
  let s := if c.limEpoch = 0 ∧ c.foldEpoch = 0 then s
    else s.emitSum c.limFirst 0x0406 (swEng n) [n, c.limEpoch, c.foldEpoch, s.clk.lastEpoch.toNat]
  s.modSw n fun c => { c with limEpoch := 0, foldEpoch := 0 }

/-- The device's own summaries: re-samplings, stream replacements, SYNC, qualification, input limit, Tandem blocks. -/
def State.otherSummaries (s : State) : State :=
  let ep := s.clk.lastEpoch.toNat
  let c := s.clk
  let s := if c.resampleEpoch = 0 then s else s.emitSum c.resampleFirst 0x0108 0x12 [c.resampleEpoch, 0, ep, 0]
  let s := if c.streamRepl = 0 then s else s.emitSum c.streamReplFirst 0x0109 0x11 [c.streamRepl, ep, 0, 0]
  let s := if s.seq.syncAdv = 0 then s
    else s.emitSum s.seq.syncAdvFirst 0x0505 10 [s.seq.syncAdv, s.seq.syncCount, ep, 0]
  let s := if s.path.qualRestarts = 0 then s
    else s.emitSum s.path.qualFirst 0x0604 11 [s.path.qualRestarts, s.path.qualBest, ep, 0]
  let s := if s.path.limFrames = 0 then s
    else s.emitSum s.path.limFirst 0x060A 11 [s.path.limFrames, s.path.asstFrames, ep, 0]
  let s := if s.tdm.missEpoch = 0 ∧ s.tdm.crcEpoch = 0 then s
    else s.emitSum s.tdm.missFirst 0x0809 15 [s.tdm.missEpoch, s.tdm.crcEpoch, ep, 0]
  { s with
    clk.resampleEpoch := 0
    clk.streamRepl := 0
    clk.fbComp := true
    clk.overranEpoch := 0
    seq.syncAdv := 0
    path.qualRestarts := 0
    path.qualBest := 0
    path.limFrames := 0
    path.asstFrames := 0
    tdm.missEpoch := 0
    tdm.crcEpoch := 0
    brake.clipEpoch := 0
    hif.takenEpoch := 0
    hif.writtenEpoch := 0 }

/-- HOLDUP_ESTIMATE_SHED (R438): the estimate of the epoch, and in HOLDUP one class E load below HOLD_E_MIN. -/
def State.holdEpoch (s : State) : State :=
  if !s.sys.variant.hasPath then s
  else
    let est := s.holdEstimate
    let s := { s with path.holdEst := est.map fun q => roundN 116 q }
    let low : Bool := match est with
      | some q => decide (q < (1000 * s.cfgf 0x6018 16 8 : Nat))
      | none => false
    if s.path.st == .holdup && low && !s.brake.inFloor && !s.isStandby then
      match s.largest (s.loadsOn.filter fun u => s.capCls u == .e) with
      | some u => s.shedAll [u] 3
      | none => s
    else s

end Sys2Proof.Machine
end

