-- ==== Sys2Proof/Machine/FloorCore.lean ====
section
/-! DEFINITION. What entering and leaving the safe floor does to the units (R743, R748), shared by the Brake's own entry and a
standby that follows its active's block (R531). -/

namespace Sys2Proof.Machine

/-- Floor rails: S-class, IN_FLOOR set and on; a pair as its leader has it. -/
def State.inFloorTable (s : State) (n : Nat) : Bool :=
  (s.rail n).isOn && (s.rail n).cls == .s && (s.cfg.floorRail.getD n (0, false)).2

/-- Commands of a rail that floor entry ends, with the code of FLOOR_ENTER as R217 has it. -/
def State.floorEnds (s : State) (n : Nat) : State :=
  let r := s.rail n
  let s := match r.onSlot with | some k => s.complete k stABORTED 0x0C05 | none => s
  let s := match r.setSlot with | some (k, _) => s.complete k stABORTED 0x0C05 | none => s
  let s := s.modRail n fun r => { r with onSlot := none, setSlot := none }
  (s.retireFc n false stABORTED 0).retireFc n true stABORTED 0

/-- A rail at floor entry, its follower with it: to its floor setpoint, or off. -/
def State.floorRailAt (s : State) (n : Nat) : State :=
  if s.isFollower n || !(s.rail n).isOn then s
  else
    let floor := s.inFloorTable n
    let s := s.each (s.pairUnits n) fun s u => s.floorEnds u
    let s := if floor then
        s.putTarget n (s.cfg.floorRail.getD n (0, false)).1 (min (s.railf n 0x84 0 16) (s.slewMax n))
      else s.turnOff n 0x0C05
    s.each (s.pairUnits n) fun s u => s.modRail u fun r => { r with
      good := false, pg := false, voltMet := false, qual := 0, goodRun := 0
      capLim := none, prearm := none, seqTick := none }

/-- A switch at floor entry: an S-class channel that is ON and whose floor state is on stays on. -/
def State.floorSwAt (s : State) (n : Nat) : State :=
  let c := s.sw n
  let s := if c.st == .on && c.cls == .s && s.cfg.floorSw.getLsbD n then s
    else if c.st == .on || c.st == .ramp then s.swEnd n .off 0x0C05 else s
  s.modSw n fun c => { c with good := false, capLim := none, prearm := none, pump := c.pump && c.st == .on }

/-- Capping stops (R279): stage NONE, counts and demands 0. -/
def State.capStop (s : State) : State :=
  let s := if s.cap.stage = 0 then s else
    { s with cap.stage := 0 }.emit 0x0F02 13 [s.cap.stage, 0, i32 (roundQ 50 s.cap.pAvg), s.pCap]
  { s with
    cap.pHist := [], cap.x := -100, cap.overAll := true, cap.underAll := true, cap.grace := 0, cap.graceMet := false
    cap.unmet := false, cap.rel := 0, cap.relMet := false, cap.redDue := false, cap.raiseDue := false
    cap.duc := 0, cap.due := 0, cap.pwmC := 0, cap.pwmE := 0, cap.duty := [0, 0, 0, 0], cap.thrHigh := 0 }

/-- The sequencer stops and SYNC is released (R393, R405). -/
def State.floorSeq (s : State) : State :=
  { s.seqStop with
    seq.offOwn := [], seq.syncDriving := false, seq.homePulse := false, seq.abortBurst := false, seq.pulses := [] }

/-- Charging, detection and the search do not run in the floor (R444). -/
def State.floorPath (s : State) : State :=
  let s := s.searchEnd 2 0 0 0
  let s := { s with path.chgOn := false, path.suspended := false, path.chgSlot := none, path.detSlots := [] }
  if s.path.conv = .boost ∨ s.path.conv = .rampDown ∨ s.path.conv = .none then s else s.convTo .idle

/-- What every list of waiting work holds of the descriptors that end (R743). -/
def State.floorLists (s : State) : State :=
  { s with
    rails := s.rails.map fun r => { r with offSlots := [], onSlot := none, setSlot := none }
    sws := s.sws.map fun c => { c with onSlots := [], offSlots := [] }
    seq.runSlots := []
    gauge.saveSlots := []
    gauge.saveNext := []
    gauge.spSlot := none
    tdm.rejoinSlots := []
    tdm.joinSend := false
    maint.stopSlots := []
    dray.queue := []
    dray.upStages := []
    dray.nodes := s.dray.nodes.map fun (d : Node) => { d with capSlots := [] } }

/-- Rails, switches, sequencer, path and capping at floor entry. -/
def State.floorUnits (s : State) : State :=
  let s := s.floorSeq
  let s := s.each s.railIdx fun s n => s.floorRailAt n
  let s := s.each s.swIdx fun s n => s.floorSwAt n
  (s.floorPath).capStop

/-- Descriptors in flight or held, other than admin, recorder, EXIT_FLOOR and TDM_RETIRE, complete ABORTED_DISABLED. -/
def State.floorWork (s : State) : State :=
  s.each (List.range 128) fun s k =>
    let t := s.tag k
    if (t.st == .held || t.st == .applied) && !floorExempt (descOpcode t.desc) then s.complete k stABORTED 0 else s

/-- What begins anew at floor exit (R748, R811): power-good qualification and capping. -/
def State.floorLeave (s : State) : State :=
  let s := { s with rails := s.rails.map fun (r : Rail) => { r with qual := 0, voltMet := false, good := false, pg := false } }
  let s := s.capStop
  if s.path.st = .feed ∧ s.path.bat = .detect then s.detStart 0 else s

end Sys2Proof.Machine
end

