-- ==== Sys2Proof/Machine/Tandem.lean ====
section
/-! DEFINITION. The tandem pair (spec/13): twin states, the state and status blocks, recomputation and comparison, yield,
takeover, joining and the swap drill, and the descriptors of class 0x0B. -/

namespace Sys2Proof.Machine

/-! ### Twin states (R507, R551) -/

/-- A change of TDM_STATUS.STATE, with TDM_STATE. -/
def State.tdmTo (s : State) (st : TState) (cause : Nat) : State :=
  if s.tdm.st = st then s
  else { s with tdm.st := st, tdm.cause := cause }.emit 0x0802 15 [s.tdm.st.code, st.code, cause, s.tdm.peer]

/-- What a twin out of the pair holds no more: shadow rails, held switches, the comparison's runs. -/
def State.shadowEnd (s : State) : State :=
  let s := { s with
    tdm.evid := 0, tdm.lossTick := none, tdm.takePend := 0, tdm.shRecall := [], tdm.misRun := 0, tdm.noEq := 0
    tdm.misOver := false, tdm.equalRun := 0, tdm.skipCmp := false, tdm.resyncReq := 0, tdm.joinReady := false }
  s.each s.swIdx fun s n => if (s.sw n).stbyHold then s.modSw n fun c => { c.gateOff with st := .off } else s

/-- MISMATCH's record (R551). -/
def State.misRecord (s : State) (outcome : Nat) : State :=
  s.emit 0x0803 15 [s.tdm.misFirst, s.tdm.misMask.toNat, outcome, s.tdm.misRun]

/-! ### The state block (R517) -/

/-- The completions decided in this frame: CQ, entry and bytes. -/
def State.blockCompletions (s : State) : List (Nat × Nat × BitVec 128) :=
  let l := s.hif.decided
  let at' (i : Nat) : Option (Nat × Nat × BitVec 128) :=
    match l[i]? with
    | some c =>
      if c.tick = s.clk.tick then
        let q := (s.ring c.ring).bind
        let g := s.ring q
        let before := ((l.take i).filter fun d => (s.ring d.ring).bind == q).length
        let n := g.prod + before
        let ph : Bool := if g.entries ≤ n then !g.phase else g.phase
        some (q, n % g.entries, BitVec.ofNat 128 (leNat (cplBytes c ph)))
      else none
    | none => none
  (List.range l.length).filterMap at'

/-- The set-up digest of R511. -/
def State.digest (s : State) : BitVec 128 := Config.setupDigest (s.regs.filter fun r => isSetup r.1)

/-- The carried state of the compared engines. -/
def State.carry (s : State) : Carried :=
  { rails := s.rails, phases := s.phases, seq := s.seq, path := s.path, cap := s.cap, maint := s.maint, tags := s.hif.tags
    order := s.hif.order, runIds := s.hif.runIds }

/-- The block frozen in this frame. While the peer joins, or asks for a resync, the carried state goes with it (R530, R543);
the number of passes and of bytes is not modelled at the sender. -/
def State.stateBlock (s : State) : StateBlock :=
  let bv (n : Nat) (f : Nat → Bool) : Nat := maskOf ((List.range n).filter f)
  let join : Bool := s.tdm.peer == 5
  { frame := s.clk.count, epoch := s.clk.epoch, senderState := s.tdm.st.code, floor := s.brake.inFloor
    yieldCause := s.tdm.yieldReq, selfCheck := s.tdm.selfCheck, cplMark := s.cplMark, sample := s.smp
    intake := s.hif.intakeCur
    railOn := BitVec.ofNat 16 (bv 16 fun n => (s.rail n).isOn)
    railRefMv := (List.range 16).map fun n => roundN 117 (s.rail n).vref
    railTargetMv := (List.range 16).map fun n => (s.rail n).vtarget
    ovLevelMv := (List.range 16).map fun n => roundN 118 (s.rail n).ovLvl
    swOn := BitVec.ofNat 24 (bv 24 fun n => (s.sw n).st == .on)
    swOnGood := BitVec.ofNat 24 (bv 24 fun n => (s.sw n).st == .on && (s.sw n).good)
    shedRail := BitVec.ofNat 16 (bv 16 fun n => (s.rail n).shed)
    shedSw := BitVec.ofNat 24 (bv 24 fun n => (s.sw n).shed)
    syncReleased := !s.seq.syncDriving, pgoodReleased := s.seq.pgood, faultLow := s.seq.faultLow, rstoLow := s.seq.rstoLow
    completions := s.blockCompletions
    digests := (List.range 16).map fun e => Config.engineDigest e s.freeCtr
    prod := s.hif.rings.map fun g => if g.cq then g.cons else g.prod
    cons := s.hif.rings.map fun g => if g.cq then g.prod else g.cons
    tags := (List.range 128).filterMap fun k =>
      let t := s.tag k
      if t.st = .free then none else some (k, tagGen (descTag t.desc).toNat, t.ring)
    wayGen := s.way.gen, recSeq := s.rcd.next, session := s.dray.session, upSeq := s.dray.upSeq, downSeq := s.dray.downSeq
    drayEpoch := s.dray.buildEp, setupDigest := s.digest, imageCrc := s.cfg.imageCrc, fwVersion := s.cfg.fwVersion
    join := s.tdm.joinSend, retire := s.tdm.retireSend, spareBytes := 0, passEnd := join, joinFinal := join
    resyncMask := s.tdm.resyncSend, carried := if join || s.tdm.resyncSend != 0 then some s.carry else none }

/-- Nothing of the pair's work stays with a twin that gives it up: slots in flight are its peer's (R534, R537). -/
def State.forgetSlots (s : State) : State :=
  { s with
    hif.tags := s.hif.tags.map fun _ => {}
    hif.decided := []
    hif.repeats := []
    rails := s.rails.map fun r => { r with
      onSlot := none, offSlots := [], setSlot := none
      fcHost := r.fcHost.map fun e => { e with slot := none } }
    sws := s.sws.map fun c => { c with onSlots := [], offSlots := [] }
    seq.runSlots := []
    seq.start := none
    seq.running := false
    seq.pulses := []
    seq.offOwn := []
    path.detSlots := []
    path.chgSlot := none
    gauge.saveSlots := []
    gauge.saveNext := []
    gauge.spSlot := none
    tdm.rejoinSlots := []
    tdm.retireSlots := []
    maint.stopSlots := []
    rcd.trTrig := s.rcd.trTrig.map fun t => { t with slots := [] }
    clk.wallNew := []
    sys.hibSlots := []
    dray.queue := []
    dray.upStages := s.dray.upStages.map fun g => (g.1, none, g.2.2)
    dray.nodes := s.dray.nodes.map fun d => { d with capSlots := [] }
    way.held := none }

/-- The twin's outputs go off without discharge: phases to mid, gates to source (R507, R534). -/
def State.outputsOff (s : State) : State :=
  let s := s.each s.railIdx fun s n => (s.cancelRetry n).shortOff n 0
  let s := s.each s.railIdx fun s n => if (s.rail n).st = .turnOff then s.park n else s
  let s := s.each s.swIdx fun s n =>
    if (s.sw n).st = .latched then s else s.modSw n fun c => { c.gateOff with st := .off, gateLow := true }
  if s.sys.variant.hasPath then { s with path.searching := false }.convTo .idle else s

/-- A twin leaves the pair's work: nothing driven, nothing in flight (R507). -/
def State.standDown (s : State) : State := s.shadowEnd.outputsOff.forgetSlots

/-- A standby goes FAULTY (R529, R532, R544, R511). -/
def State.faulty (s : State) (cause : Nat) : State := s.standDown.tdmTo .faulty cause

/-- Starts a join as standby (R543). -/
def State.startJoin (s : State) : State :=
  { s.shadowEnd with
    tdm.joinTick := s.clk.tick, tdm.joinPasses := 0, tdm.joinBytes := 0, tdm.autoJoinAt := none, tdm.selfCheck := false
    tdm.mirror := [], tdm.fLast := 0, tdm.ownFault := none }.tdmTo .joining 0

/-- TDM_YIELD (R534, R545): after the block that carries the cause, the twin is RETIRED. -/
def State.yieldNow (s : State) : State :=
  let c := s.tdm.yieldReq
  let s := s.emit 0x0806 15 [c, s.frame]
  let s := { s with
    tdm.yields := satInc 16 s.tdm.yields
    tdm.yieldReq := 0
    tdm.mirrored := false
    tdm.autoJoinAt := if c = 5 then none else some (s.clk.tick + 100)
    tdm.drillPhase := if c = 6 then (if s.tdm.drillPhase = 1 then 4 else 0) else s.tdm.drillPhase }
  s.forgetSlots.outputsOff.tdmTo .retired 0

/-- The Copy sub-phase's block, and the yield after it. -/
def State.blockFrame (s : State) : State :=
  if !s.sys.variant.hasTdm || !s.tdm.linkUp then s
  else
    let s := if s.commands then
        { s with
          tdm.sent := some s.stateBlock, tdm.joinSend := false, tdm.retireSend := false, tdm.resyncSend := 0, freeCtr := s.freeCtr + 1 }
      else s
    if s.tdm.yieldReq ≠ 0 ∧ s.tdm.st = .active then s.yieldNow else s

/-! ### The standby's own frame -/

/-- Whether the joined outputs show that the active's contribution has stopped (R528). -/
def State.evidence (s : State) : Bool :=
  match s.tdm.mirror.head? with
  | none => false
  | some b =>
    if b.railOn = 0 then
      (List.range 24).any fun n => (s.sw n).stbyHold && decide (1000 ≤ (s.sw n).ma) &&
        decide (s.tdm.swN ≠ 0 ∧ 2 * s.tdm.swSum.getD n 0 ≤ (s.sw n).ma * s.tdm.swN)
    else
      (List.range 16).any fun n => b.railOn.getLsbD n &&
        decide (1000 * s.smp.railMv.getD n 0 ≤ 990 * b.railRefMv.getD n 0)

/-- What a standby's own sample set gives (R525, R527, R528): its phases' fault inputs, its switches, and the evidence. -/
def State.stbyFrame (s : State) : State :=
  let s := s.each s.swIdx fun s n => s.swSample n
  let s := s.each s.swIdx fun s n => s.swStep1 n
  let s := s.each s.swIdx fun s n => s.swStep3 n
  let s := { s with
    tdm.ownFlt := s.tdm.ownFlt.mapIdx fun m (c : Nat) => if s.smp.phFlt.getLsbD m then c + 1 else 0 }
  if s.tdm.st = .shadow then
    match s.tdm.lossTick with
    | some _ =>
      let run := if s.evidence then s.tdm.evid + 1 else 0
      { s with tdm.evid := run, tdm.takePend := if s.cfgf 0x7000 8 4 ≤ run then 2 else s.tdm.takePend }
    | none => s
  else s

/-! ### Recomputation and comparison (R523, R529–R531) -/

/-- Installs the carried state of the engines in a mask (R530); a phase's hardware stays its own. -/
def State.install (s : State) (c : Carried) (mask : BitVec 16) : State :=
  let has (e : Nat) : Bool := mask.getLsbD e
  let ph (m : Nat) (p : Phase) : Phase :=
    let q := c.phases.getD m p
    if q.owner < 16 && has (railEng q.owner) then
      { q with
        drive := p.drive, start := p.start, ilast := p.ilast, cycSum := p.cycSum, cycN := p.cycN, cycMean := p.cycMean
        onTime := p.onTime, iofs := p.iofs, pulsesNow := p.pulsesNow, idleNow := p.idleNow }
    else p
  { s with
    rails := s.rails.mapIdx fun n r => if has (railEng n) then c.rails.getD n r else r
    phases := s.phases.mapIdx ph
    seq := if has 10 then c.seq else s.seq
    path := if has 11 then c.path else s.path
    cap := if has 13 then c.cap else s.cap
    maint := if has 13 then c.maint else s.maint
    hif.tags := if has 14 then (if c.tags.length = s.hif.tags.length then c.tags else s.hif.tags) else s.hif.tags
    hif.order := if has 14 then c.order else s.hif.order
    hif.runIds := if has 14 then c.runIds else s.hif.runIds }

/-- Frames of the twin's own count since the block's frame. -/
def State.blockLag (s : State) (b : StateBlock) : Nat := (s.clk.count - b.frame).toNat % 100

/-- Slots whose completion the active has written are free again; decided ones have reached the host's side (R521). -/
def State.blockTags (s : State) (b : StateBlock) : State :=
  let live (k : Nat) (t : Tag) : Bool := b.tags.any fun x => x.1 == k && x.2.1 == tagGen (descTag t.desc).toNat
  { s with
    hif.decided := []
    hif.tags := s.hif.tags.mapIdx fun k (t : Tag) => if t.st != .free && !live k t then { t with st := .free } else t }

/-- The CQs' producers follow the block's completions. -/
def State.blockCqs (s : State) (b : StateBlock) : State :=
  b.completions.foldl (fun (s : State) (c : Nat × Nat × BitVec 128) => s.modRing c.1 fun g =>
    let next := (c.2.1 + 1) % g.entries
    let ph : Bool := c.2.2.getLsbD 40
    { g with prod := next, phase := if next = 0 then !ph else ph }) s

/-- Runs the active's control work on its block (R523): the end of the frame before, then this frame's steps and intake, at
the frame position the block has. -/
def State.recompute (s : State) (prev : Option Sample) (b : StateBlock) : State :=
  let own := s.smp
  let pos := s.clk.pos
  let lag := s.blockLag b
  let s := match prev with
    | some x => { s with smp := x, clk.pos := (pos + 199 - lag) % 100 }.ctlEnd
    | none => s
  let s := { s with smp := b.sample, clk.pos := (pos + 100 - lag) % 100 }
  let s : State := b.intake.foldl (fun (s : State) (d : Nat × RawDesc) =>
    (s.modRing d.1 fun g => { g with cons := (g.cons + 1) % g.entries }).intakeAs d.1 d.2 s.evalStrobe s.clk.tick b.frame false) s
  let s := if b.floor && !s.brake.inFloor then s.floorUnits
    else if !b.floor && s.brake.inFloor then s.floorLeave else s
  let s := { s with brake.inFloor := b.floor }
  let s := if b.floor then s.floorSteps false else s.ctlSteps false
  { s with smp := own, clk.pos := pos }

/-- Engines whose digests differ from the block's. -/
def State.digestMask (s : State) (b : StateBlock) : BitVec 16 :=
  BitVec.ofNat 16 (maskOf ((List.range 16).filter fun e =>
    e != 12 && e != 15 && Config.engineDigest e s.freeCtr != b.digests.getD e 0))

/-- An unequal comparison (R529, R532). -/
def State.unequal (s : State) (b : StateBlock) (mask : BitVec 16) : State :=
  let s := { s with
    tdm.misFrames := satInc 16 s.tdm.misFrames
    tdm.misFirst := if s.tdm.misRun = 0 then b.frame.toNat else s.tdm.misFirst
    tdm.misMask := if s.tdm.misRun = 0 then mask else s.tdm.misMask ||| mask
    tdm.misRun := s.tdm.misRun + 1
    tdm.noEq := s.tdm.noEq + 1
    tdm.equalRun := 0 }
  if s.tdm.st = .joining then s
  else if s.tdm.selfCheck then (s.misRecord 2).faulty 1
  else if b.selfCheck then { s.misRecord 3 with tdm.takePend := 3 }
  else if s.cfgb 0x7000 17 && decide ((bitsOf 16 mask.toNat).length ≤ 2) && mask != 0 && s.tdm.resyncReq == 0 then
    let hist := s.tdm.resyncHist.filter fun t => decide (s.clk.tick < t + 10000)
    if 2 ≤ hist.length then (s.misRecord 2).faulty 2
    else { s with tdm.resyncHist := hist ++ [s.clk.tick], tdm.resyncReq := mask, tdm.resyncs := satInc 16 s.tdm.resyncs }
  else s

/-- An equal comparison: two in a row resolve a mismatch (R530). -/
def State.equal (s : State) : State :=
  let run := s.tdm.misRun
  let s := { s with
    tdm.equalRun := s.tdm.equalRun + 1, tdm.noEq := 0, tdm.misOver := false
    tdm.misRun := if run = 0 then 0 else run + 1 }
  if run ≠ 0 ∧ 2 ≤ s.tdm.equalRun then
    let s := s.misRecord 1
    let s := if s.tdm.resMask = 0 then s
      else s.emit 0x0804 15 [s.tdm.resMask.toNat, s.tdm.resFrame, s.tdm.resBytes, 0]
    { s with tdm.misRun := 0, tdm.misMask := 0, tdm.resMask := 0 }
  else s

/-- The comparison of R523, skipped for the one frame after an installation (R530). What is compared is not laid out, so
whether it is equal is free (assumption 7). -/
def State.compare (s : State) (b : StateBlock) : State :=
  if s.tdm.st = .joining ∧ s.tdm.joinReady = false then s
  else if s.tdm.skipCmp then
    { s with
      tdm.skipCmp := false
      tdm.misRun := if s.tdm.misRun = 0 then 0 else s.tdm.misRun + 1
      tdm.noEq := if s.tdm.misRun = 0 then 0 else s.tdm.noEq + 1 }
  else
    let mask := s.digestMask b
    let eq : Bool := Config.recomputeEqual s.freeCtr && mask == 0
    let s := s.freeStep
    if eq then s.equal else s.unequal b mask

/-- Join and resync data that came with the block (R530, R543). -/
def State.blockData (s : State) (b : StateBlock) : State :=
  let s := if s.tdm.st = .joining then
      { s with
        tdm.joinPasses := s.tdm.joinPasses + bit1 b.passEnd, tdm.joinBytes := s.tdm.joinBytes + b.spareBytes }
    else s
  match b.carried with
  | some c =>
    if s.tdm.st = .joining && b.joinFinal && !s.tdm.joinReady then
      { s.install c 0xFFFF with tdm.joinReady := true, tdm.skipCmp := true }
    else if s.tdm.resyncReq != 0 && b.resyncMask != 0 then
      { s.install c b.resyncMask with
        tdm.skipCmp := true, tdm.resyncReq := 0, tdm.resMask := b.resyncMask, tdm.resFrame := s.frame
        tdm.resBytes := b.spareBytes }
    else s
  | none => s

/-- The status block a standby answers with (R515). -/
def State.statusBlock (s : State) : StatusBlock :=
  let f (k : Nat) : Option Nat := match s.tdm.ownFault with | some (c, u) => if c = k then some u else none | none => none
  { ackFrame := BitVec.ofNat 32 s.tdm.fLast, peerState := s.tdm.st.code, selfCheck := s.tdm.selfCheck, phaseFault := f 1
    swTrip := f 2, resyncMask := s.tdm.resyncReq, mismatchRun := s.tdm.noEq }

/-- STATE_BLOCK_RECEIVED's part at a twin that recomputes. -/
def State.blockIn (s : State) (b : StateBlock) : State :=
  let prev := s.tdm.mirror.head?.map (·.sample)
  let s := { s with
    tdm.mirror := (b :: s.tdm.mirror).take 64
    tdm.fLast := b.frame.toNat
    tdm.swSum := if s.tdm.swN = 0 then s.sws.map Switch.ma else List.zipWith (· + ·) s.tdm.swSum (s.sws.map Switch.ma)
    tdm.swN := s.tdm.swN + 1 }
  let s := (s.blockTags b).blockCqs b
  let s := if s.tdm.joinReady || s.tdm.st == .shadow then s.recompute prev b else { s with brake.inFloor := b.floor }
  let s := (s.compare b).blockData b
  let s := if b.yieldCause ≠ 0 ∧ s.tdm.st = .shadow then { s with tdm.takePend := 1 } else s
  let s := if s.tdm.selfCheck ∧ s.recomputes = true then s.faulty 1 else s
  let s := s.each s.swIdx fun s n => if s.isStandby then s.swShadow n else s
  { s with tdm.status := some s.statusBlock, tdm.ownFault := none }

/-- STATE_BLOCK_RECEIVED (R519, R523, R527, R549). -/
def execStateBlockReceived (b : StateBlock) (s : State) : Host.Outcome State Fault Refusal :=
  if s.sys.variant.hasTdm && s.tdm.linkUp && s.running && !s.commands then
    let s := { s with tdm.missRun := 0, tdm.peer := b.senderState }
    let s := if b.retire && s.isStandby then
        { s.standDown with tdm.autoJoinAt := none, tdm.retireSend := false }.tdmTo .retired 0
      else if b.join && (s.tdm.st == .retired || s.tdm.st == .faulty || s.tdm.st == .orphan) then s.startJoin
      else s
    .next (if s.recomputes then s.blockIn b else { s with tdm.status := some s.statusBlock })
  else .next s

/-! ### The active's side (R520, R522, R545) -/

/-- A standby's fault as the active records it (R547, R551). -/
def State.stbyFaults (s : State) (b : StatusBlock) : State :=
  let s := if b.selfCheck then s.emit 0x080A 15 [3, 0, 0, s.frame] else s
  let s := match b.phaseFault with | some m => s.emit 0x080A 15 [1, m, 0, s.frame] | none => s
  match b.swTrip with | some n => s.emit 0x080A 15 [2, n, 0, s.frame] | none => s

/-- STATUS_BLOCK_RECEIVED (R520, R530, R545, R549). -/
def execStatusBlockReceived (b : StatusBlock) (s : State) : Host.Outcome State Fault Refusal :=
  if s.sys.variant.hasTdm && s.tdm.linkUp && s.running && s.commands then
    let was := s.tdm.peer
    let s := { s with
      tdm.missRun := 0, tdm.acked := b.ackFrame, tdm.peer := b.peerState, tdm.resyncSend := b.resyncMask
      tdm.misRun := b.mismatchRun }
    let s := s.stbyFaults b
    let live : Bool := b.peerState == 5 || b.peerState == 6
    let s := if live then { s.tdmTo .active 0 with tdm.mirrored := true }
      else if s.tdm.st = .active then { s.tdmTo .solo 0 with tdm.mirrored := false }
      else s
    let done (r : Nat) (s : State) : State := { s with tdm.rejoinSlots := [] }.completeAll s.tdm.rejoinSlots stDONE r
    .next (if b.peerState = 6 then done 0 s else if b.peerState = 8 ∧ was = 5 then done 1 s else s)
  else .next s

/-- What a link loss does at this side (R513, R522, R527). -/
def State.linkLoss (s : State) (cause lane : Nat) : State :=
  let s := { s with tdm.linkUp := false, tdm.downs := satInc 16 s.tdm.downs, tdm.missRun := 0 }
  let s := s.emit 0x0801 15 [2, cause, lane, s.frame]
  match s.tdm.st with
  | .active =>
    let held := s.tdm.mirrored
    let s := { s with tdm.peer := 0 }
    let s := s.tdmTo .solo 0
    { s with
      tdm.mirrored := false, tdm.soloHold := held, tdm.soloUntil := s.clk.tick + s.cfgf 0x7000 8 4 + 2
      tdm.yieldReq := 0, tdm.resyncSend := 0 }
  | .shadow => { s with tdm.peer := 0, tdm.lossTick := some s.clk.tick, tdm.evid := 0 }
  | .joining => { s with tdm.peer := 0 }.standDown.tdmTo .orphan 0
  | _ => { s with tdm.peer := 0 }

/-- TDM_LINK_DOWN (R513). -/
def execTdmLinkDown (cause lane : Nat) (s : State) : Host.Outcome State Fault Refusal :=
  .next (if s.sys.variant.hasTdm && s.tdm.linkUp && s.running then s.linkLoss cause lane else s)

/-- BLOCK_MISSING (R516): MISS_MAX in a row are link loss. -/
def execBlockMissing (crc : Bool) (s : State) : Host.Outcome State Fault Refusal :=
  if s.sys.variant.hasTdm && s.tdm.linkUp && s.running && (s.recomputes || s.tdm.mirrored) then
    let s := { s with
      tdm.misses := satInc 16 s.tdm.misses
      tdm.crcFails := if crc then satInc 16 s.tdm.crcFails else s.tdm.crcFails
      tdm.missRun := s.tdm.missRun + 1
      tdm.missFirst := if s.tdm.missEpoch = 0 then s.clk.strobe else s.tdm.missFirst
      tdm.missEpoch := s.tdm.missEpoch + 1
      tdm.crcEpoch := s.tdm.crcEpoch + bit1 crc }
    .next (if s.cfgf 0x7000 12 4 ≤ s.tdm.missRun then s.linkLoss 3 0 else s)
  else .next s

/-- TDM_LINK_UP (R513, R543). -/
def execTdmLinkUp (peerSideB : Bool) (peerState : Nat) (s : State) : Host.Outcome State Fault Refusal :=
  if s.sys.variant.hasTdm && !s.tdm.linkUp && s.running then
    let s := { s with tdm.linkUp := true, tdm.peerSideB := peerSideB, tdm.peer := peerState % 16, tdm.missRun := 0 }
    let s := s.emit 0x0801 15 [1, 0, 0, s.frame]
    let again : Bool := s.cfgb 0x7000 16 &&
      (s.tdm.st == .orphan || (s.tdm.st == .faulty && s.tdm.cause != 3 && s.tdm.cause != 4))
    .next (if again then { s with tdm.autoJoinAt := some (s.clk.tick + 100) } else s)
  else .next s

/-- SOLO_HOLD_END (R522): the results held back are free to go. -/
def execSoloHoldEnd (s : State) : Host.Outcome State Fault Refusal :=
  .next (if s.tdm.soloHold && decide (s.tdm.soloUntil ≤ s.clk.tick) then { s with tdm.soloHold := false } else s)

/-! ### Takeover (R535–R542) -/

/-- Completions of the mirror decided after a frame, oldest first: CQ, entry and bytes. -/
def State.mirrorAfter (s : State) (mark : BitVec 32) : List (Nat × Nat × BitVec 128) :=
  ((s.tdm.mirror.filter fun b => decide (0 < signedOf 32 (b.frame - mark).toNat)).reverse).flatMap (·.completions)

/-- A ring's producer at takeover (R538): the later of the twin's own doorbell and the block's. -/
def Ring.later (g : Ring) (own blk cons : Nat) : Nat :=
  let pend (p : Nat) : Nat := (p + g.entries - cons) % g.entries
  if own < g.entries ∧ pend blk < pend own then own else blk

/-- The rings at takeover (R537, R538). -/
def State.takeRings (s : State) (b : StateBlock) : State :=
  s.each (List.range 64) fun s r =>
    s.modRing r fun g =>
      if g.st ≠ .active then g
      else if g.cq then
        let own := g.doorbell.toNat
        { g with cons := if own < g.entries ∧ own ≠ 0 then own else b.prod.getD r 0, unsig := 0, recentW := [] }
      else
        let cons := b.cons.getD r 0
        let p := g.later g.doorbell.toNat (b.prod.getD r 0) cons
        { g with cons := cons, prod := p, tkLeft := (p + g.entries - cons) % g.entries }

/-- Rails at takeover (R535): from the shadow reference to the target, at the lower of RESTORE_SLEW and SLEW_MAX, with the
count its own currents ask for. -/
def State.takeRail (s : State) (n : Nat) : State :=
  let r := s.rail n
  if !r.isOn then s
  else
    let vref := s.refOut n
    let own := ((s.railPhases n).map fun m => s.smp.phaseMa.getD m 0).sum
    let s := s.each (s.railPhases n) fun s m =>
      if s.tdm.ownLatch.getLsbD m then s.modPhase m fun p => { p with latched := true } else s
    let want := max 1 (min (s.freePhases n).length (s.addCount n 0 own))
    (s.modRail n fun r => { r with
      vref := vref, slew := min (10 * s.cfgf 0x7000 24 8) (s.slewMax n), st := .slewing, active := want
      demStart := false, recallHold := false }).applyCounts n

/-- Switches at takeover: a held one stays on, one the block shows ON starts its ramp at the next latch. -/
def State.takeSw (s : State) (b : StateBlock) (n : Nat) : State :=
  let c := s.sw n
  let s := s.modSw n fun c => { c with shed := b.shedSw.getLsbD n }
  if c.stbyHold then s.modSw n fun c => { c with st := .on, stbyHold := false, good := b.swOnGood.getLsbD n }
  else if b.swOn.getLsbD n then s.swTurnOn n false false
  else if c.st == .on || c.st == .ramp then s.modSw n fun c => { c.gateOff with st := .off }
  else s

/-- A swap drill's end (R546): outcome 1 passed, 2 failed. -/
def State.drillEnd (s : State) (outcome : Nat) : State :=
  let s := { s with tdm.drillOut := outcome, tdm.drillPhase := 0 }
  let held := s.clk.tick - s.tdm.drillStart
  let s := s.emit 0x0808 15 [outcome, s.tdm.drillDev, held, s.tdm.drillUnit]
  s.maintEnd 2 (if outcome = 1 then 0 else 2) 0

/-- The drill at a takeover: the planned one begins its hold, the planned hand-back passes it, any other fails it. -/
def State.drillTake (s : State) (yieldCause : Nat) : State :=
  if s.maintOn 2 || s.tdm.drillPhase != 0 then
    if yieldCause = 6 then
      (if s.tdm.drillPhase = 4 then s.drillEnd 1
       else { s with
         tdm.drillPhase := 2, tdm.drillStart := s.clk.tick, tdm.drillDev := 0, tdm.drillUnit := 0
         tdm.drillHold := if s.maint.arg.getD 2 0 = 0 then 1000 else s.maint.arg.getD 2 0 })
    else s.drillEnd 2
  else s

/-- TAKEOVER (R535 to R542). -/
def execTakeover (s : State) : Host.Outcome State Fault Refusal :=
  match s.tdm.mirror.head? with
  | some b =>
    if s.tdm.st = .shadow ∧ s.tdm.takePend ≠ 0 then
      let cause := s.tdm.takePend
      let again := s.mirrorAfter b.cplMark
      let s := s.each s.railIdx fun s n => s.takeRail n
      let s := s.each s.railIdx fun s n => s.modRail n fun r => { r with shed := b.shedRail.getLsbD n }
      let s := s.each s.swIdx fun s n => s.takeSw b n
      let s := { s with
        hif.tags := s.hif.tags.map fun (t : Tag) => if t.st = .decided then { t with st := .free } else if t.st = .free then t else { t with tk := true }
        hif.decided := [] }
      let s : State := again.foldl (fun (s : State) (c : Nat × Nat × BitVec 128) =>
        s.postMem ((s.ring c.1).base + 16 * c.2.1) (leBytes 16 c.2.2.toNat)) s
      let s := s.takeRings b
      let s := { s with
        way.gen := b.wayGen, way.tkFirst := true, way.held := none
        dray.session := b.session, dray.upSeq := b.upSeq, dray.downSeq := b.downSeq, dray.buildEp := b.drayEpoch
        dray.upDue := false, dray.downDue := false
        tdm.fLastTake := b.frame.toNat, tdm.takeovers := satInc 16 s.tdm.takeovers, tdm.mirrored := false
        tdm.soloHold := false, tdm.peer := if cause = 1 then 9 else s.tdm.peer }
      let s := s.shadowEnd.tdmTo .solo 0
      let s := s.emit 0x0805 15 [cause, b.frame.toNat, again.length, lo32 (b.wayGen + 1)]
      let s := (s.hifEvent 0).alarmRaise 0x20
      let s := s.each [3, 4, 5] fun s c => s.maintCut c 2
      let s := s.drillTake (if cause = 1 then b.yieldCause else 0)
      .next s.supervise
    else .next s
  | none => .next s

/-! ### Verdicts and joining -/

/-- ORPHAN (R527): no evidence by EVID_FR sample sets after the loss. -/
def execOrphan (s : State) : Host.Outcome State Fault Refusal :=
  match s.tdm.lossTick with
  | some t =>
    .next (if s.tdm.st = .shadow ∧ t + s.cfgf 0x7000 8 4 ≤ s.clk.tick ∧ s.tdm.evid = 0 ∧ s.tdm.takePend = 0 then
      s.standDown.tdmTo .orphan 0 else s)
  | none => .next s

/-- MISMATCH_UNRESOLVED (R531): at the active the floor cause, at the standby the record. -/
def execMismatchUnresolved (s : State) : Host.Outcome State Fault Refusal :=
  if s.tdm.st = .active ∧ 8 ≤ s.tdm.misRun ∧ s.brake.standing.getLsbD 0 = false then
    .next ((s.misRecord 4).floorCause 0)
  else if s.tdm.st = .shadow ∧ 8 ≤ s.tdm.noEq ∧ s.tdm.misOver = false then
    .next { s.misRecord 4 with tdm.misOver := true }
  else .next s

/-- TDM_JOIN's record: outcome 0 shadow, 1 timeout, 2 set-up. -/
def State.joinRecordOut (s : State) (outcome : Nat) : State :=
  s.emit 0x0807 15 [outcome, s.clk.tick - s.tdm.joinTick, s.tdm.joinPasses, s.tdm.joinBytes]
/-- Whether image, firmware and set-up equal the active's (R511). -/
def State.setupEqual (s : State) : Bool :=
  match s.tdm.mirror.head? with
  | some b => b.setupDigest == s.digest && b.imageCrc == s.cfg.imageCrc && b.fwVersion == s.cfg.fwVersion
  | none => false

/-- TDM_JOIN (R511, R544). -/
def execTdmJoin (s : State) : Host.Outcome State Fault Refusal :=
  if s.tdm.st = .joining ∧ s.tdm.joinReady = true ∧ 64 ≤ s.tdm.equalRun then
    if s.setupEqual then .next ((s.joinRecordOut 0).tdmTo .shadow 0)
    else .next ((s.joinRecordOut 2).faulty 3)
  else .next s

/-- JOIN_TIMEOUT (R544). -/
def execJoinTimeout (s : State) : Host.Outcome State Fault Refusal :=
  .next (if s.tdm.st = .joining ∧ s.tdm.joinTick + 10000 ≤ s.clk.tick then (s.joinRecordOut 1).faulty 5 else s)

/-- AUTO_JOIN (R543). -/
def execAutoJoin (s : State) : Host.Outcome State Fault Refusal :=
  match s.tdm.autoJoinAt with
  | some t =>
    .next (if t ≤ s.clk.tick ∧ s.tdm.linkUp = true ∧ s.cfgb 0x7000 16 = true ∧
        (s.tdm.st = .orphan ∨ s.tdm.st = .faulty ∨ s.tdm.st = .retired) ∧ (s.tdm.peer = 3 ∨ s.tdm.peer = 4) then
      s.startJoin else s)
  | none => .next s

/-- DRILL_HOLD_END (R546): the twin that carries the load hands back to a peer in SHADOW; without one the drill fails. -/
def execDrillHoldEnd (s : State) : Host.Outcome State Fault Refusal :=
  if s.tdm.drillPhase = 2 ∧ s.commands = true ∧ s.tdm.drillStart + 100 * s.tdm.drillHold ≤ s.clk.tick then
    if s.canYield then
      let held := s.clk.tick - s.tdm.drillStart
      .next ({ s with tdm.yieldReq := 6, tdm.drillOut := 1, tdm.drillPhase := 3 }.emit 0x0808 15
        [1, s.tdm.drillDev, held, s.tdm.drillUnit])
    else .next (s.drillEnd 2)
  else .next s

/-- TDM_PROMOTE (R510, R548): void without its confirmation or in another state. -/
def execTdmPromote (w : Word) (s : State) : Host.Outcome State Fault Refusal :=
  if s.sys.variant.hasTdm && s.sys.linkUp && s.running then
    let ok : Bool := w.toNat % 16 == 1 && w.toNat / 256 % 256 == 0xA5
    if ok && (s.tdm.st == .waitLink || s.tdm.st == .orphan) then .next { s with tdm.promotePend := true }
    else .next (s.emit 0x0802 15 [s.tdm.st.code, s.tdm.st.code, 0xFF, s.tdm.peer])
  else .next s

/-- A promoted twin takes the doorbells it has kept (R507, R510). -/
def State.keptDoorbells (s : State) : State :=
  s.each (List.range 64) fun s r =>
    let g := s.ring r
    if g.st ≠ .active || g.doorbell == 0 then s else if g.cq then s.cqTake r g.doorbell else s.sqTake r g.doorbell

/-- What the frame boundary does for the pair: a promotion and a retirement asked for, and the drill's deviation. -/
def State.tdmBegin (s : State) : State :=
  let s := if s.tdm.promotePend then
      let s := { s with tdm.promotePend := false, sys.autoDone := true }
      if s.tdm.st = .waitLink ∨ s.tdm.st = .orphan then (s.standDown.tdmTo .single 0).keptDoorbells else s
    else s
  if s.tdm.retireSlots.isEmpty then s
  else ({ s with tdm.retireSlots := [] }.completeAll s.tdm.retireSlots stDONE 0).clearCause 0

/-- The largest deviation of a rail from its setpoint while the drilled twin carries the load (R546). -/
def State.drillFrame (s : State) : State :=
  if s.tdm.drillPhase = 2 then
    s.each s.railIdx fun s n =>
      let r := s.rail n
      if r.isOn && decide (r.vref ≠ 0) then
        let dev := roundN 119 (1000 * |(r.mv : Rat) - r.vref| / r.vref)
        if s.tdm.drillDev < dev then { s with tdm.drillDev := dev, tdm.drillUnit := n } else s
      else s
  else s

/-! ### Descriptors -/

/-- TDM_RETIRE (R533, R549). -/
def execTdmRetire (slot : Nat) (s : State) : Host.Outcome State Fault Refusal :=
  .next (s.applyDesc 0x0B01 slot (fun _ => some fTDM) fun _ s =>
    if s.tdm.st = .single ∨ s.tdm.linkUp = false then s.reject slot stBADPARAM 1
    else { s with tdm.retireSend := true, tdm.retireSlots := s.tdm.retireSlots ++ [slot] }.hold slot)

/-- TDM_REJOIN (R549). -/
def execTdmRejoin (slot : Nat) (s : State) : Host.Outcome State Fault Refusal :=
  .next (s.applyDesc 0x0B02 slot (fun _ => some fTDM) fun _ s =>
    if s.tdm.st = .single ∨ s.tdm.linkUp = false then s.reject slot stBADPARAM 1
    else if s.tdm.peer = 6 then s.complete slot stDONE 0
    else { s with tdm.joinSend := true, tdm.rejoinSlots := s.tdm.rejoinSlots ++ [slot] }.hold slot)

end Sys2Proof.Machine
end

