-- ==== Sys2Proof/Machine/Floor.lean ====
section
/-! DEFINITION. The safe floor and what leads to it: floor entry and exit, the engines' reload, host link loss, overruns and
memory errors (R28–R30, R57–R62, R740–R748). -/

namespace Sys2Proof.Machine

/-! ### Entry and exit -/

/-- The frame boundary that begins the floor has come (R742). -/
def State.floorDue (s : State) : Bool :=
  s.running && s.brake.floorPend && !s.brake.inFloor && !s.isStandby && decide (s.brake.pendTick < s.clk.tick)
/-- The frame boundary at which an applied EXIT_FLOOR leaves the floor has come (R747). -/
def State.exitDue (s : State) : Bool :=
  s.running && s.brake.inFloor && !s.isStandby && !s.brake.exitSlots.isEmpty && decide (s.brake.exitTick < s.clk.tick)

/-- The engines concerned in an entry (R746): those whose outputs were clipped, those that overran. -/
def State.floorEngines (s : State) : BitVec 16 :=
  (if s.brake.standing.getLsbD 1 then s.brake.clipEngines else 0) |||
  (if s.brake.standing.getLsbD 2 then s.brake.ovrEngines else 0)

/-- The frame's steps in the floor, where it has a sample set (R89). -/
def State.floorRest (s : State) : State := if s.clk.missRun = 0 then s.floorSteps true else s

/-- FLOOR_ENTER (R743), and the frame's work of R745. -/
def execFloorEnter (s : State) : Host.Outcome State Fault Refusal :=
  if s.floorDue then
    let eng := s.floorEngines
    let s := { s with
      brake.inFloor := true, brake.floorPend := false, brake.atEntry := s.brake.standing, brake.floorTick := s.clk.tick
      brake.reload := eng, brake.reloadTick := s.clk.tick, brake.exitSlots := [] }
    let s := s.emit 0x0C05 0x10 [s.brake.standing.toNat, s.frame, eng.toNat, 0]
    let s := (s.hifEvent 2).traceTrigger 2 0x0C05 []
    let s := (s.floorUnits).floorLists
    let s := match s.cfg.wr with
      | some (k, true, _, _) => s.dropWrite.complete k stABORTED 0
      | _ => s
    let s := (s.floorWork).maintFailAll
    .next (s.supervise.floorRest)
  else .next s

/-- FLOOR_EXIT (R747, R748): a cause found since the application keeps the floor. The engines' work of the frame follows. -/
def execFloorExit (s : State) : Host.Outcome State Fault Refusal :=
  if s.exitDue then
    let slots := s.brake.exitSlots
    let s := { s with brake.exitSlots := [] }
    if s.brake.standing = 0 then
      let s := { s with
        brake.inFloor := false, clk.halted := 0, clk.overranCtl := s.clk.overranCtl &&& ~~~s.clk.halted, brake.reload := 0 }
      let s := s.emit 0x0C07 0x10 [s.clk.tick - s.brake.floorTick, s.brake.atEntry.toNat, s.frame, 0]
      let s := (s.hifEvent 3).completeAll slots stDONE 1
      let s := s.admitFloor.floorLeave
      .next (if s.clk.missRun = 0 then s.ctlSteps true else s)
    else .next (s.completeAll slots stFLOOR s.brake.standing.toNat).floorRest
  else .next s

/-- EXIT_FLOOR (R747). -/
def execExitFloor (slot : Nat) (s : State) : Host.Outcome State Fault Refusal :=
  .next (s.applyDesc 0x0D03 slot (fun _ => some fBRAKE) fun _ s =>
    if s.brake.standing ≠ 0 then s.reject slot stFLOOR s.brake.standing.toNat
    else if s.brake.inFloor then
      { s with brake.exitSlots := s.brake.exitSlots ++ [slot], brake.exitTick := s.clk.tick }.hold slot
    else s.complete slot stDONE 0)

/-- ENGINE_RELOAD (R746): the last engine of a cause clears it. -/
def execEngineReload (e : Nat) (ok : Bool) (s : State) : Host.Outcome State Fault Refusal :=
  if s.running && s.brake.inFloor && s.brake.reload.getLsbD e then
    let s := s.emit 0x0C08 0x10 [e, if ok then 0 else 1, (s.clk.tick - s.brake.reloadTick) / 100, 0]
    let clip := clearBit s.brake.clipEngines e
    let ovr := clearBit s.brake.ovrEngines e
    let s := { s with brake.reload := clearBit s.brake.reload e }
    if ok then
      let s := { s with brake.clipEngines := clip, brake.ovrEngines := ovr }
      let s := if clip = 0 then s.clearCause 1 else s
      .next (if ovr = 0 then s.clearCause 2 else s)
    else .next s
  else .next s

/-! ### Host link loss (R741) -/

/-- The conditions of R741: the link down, or with LINK_POLICY 2 no ring 0 doorbell, for LINK_MS. -/
def State.linkLost (s : State) : Bool :=
  let p := s.cfgf 0xC048 0 2
  let ms := framesMs (s.cfgf 0xC048 16 16)
  s.sys.linkEver && ((p == 1 || p == 2) && decide (ms ≤ s.hif.linkDown) || p == 2 && decide (ms ≤ s.hif.silence))

/-- HOST_LINK_LOSS. -/
def execHostLinkLoss (s : State) : Host.Outcome State Fault Refusal :=
  .next (if s.running && !s.isStandby && s.linkLost && !s.brake.linkLost then
    { s with brake.linkLost := true }.floorCause 3 else s)

/-- Cause LINK clears with the link up, Bus Master Enable set and ring 0 ACTIVE; silence then counts afresh. -/
def State.linkBack (s : State) : State :=
  if s.brake.linkLost && s.brake.inFloor && s.sys.linkUp && s.hif.bme && (s.ring 0).st == .active then
    { s with brake.linkLost := false, hif.silence := 0 }.clearCause 3
  else s

/-! ### Overruns (R57–R62, R745) -/

/-- What a third overrun in 100 frames does: the halt in the floor, else the floor, the yield or the self-check. -/
def State.thirdOverrun (s : State) (e first : Nat) : State :=
  if s.brake.inFloor then
    { s with clk.halted := setBit s.clk.halted e, clk.overranCtl := setBit s.clk.overranCtl e }.emit 0x0C09 0x10
      [e, s.frame, s.brake.standing.toNat, 0]
  else
    let s := s.emit 0x0102 0x10 [e, first, s.frame, 0]
    if s.canYield then { s with tdm.yieldReq := 1 }
    else if s.isStandby then { s with tdm.selfCheck := true }
    else { s with brake.ovrEngines := setBit s.brake.ovrEngines e }.floorCause 2

/-- One overrun: stages 1 to 3 stop the engine's control slice, 4 its background slice (R58, R59). -/
def State.overrun (s : State) (e slice cycles : Nat) (dbl : Bool) : State :=
  if s.running && decide (e < 16) && !s.clk.overran.getLsbD e && !s.clk.halted.getLsbD e then
    let s := s.emit 0x0101 0x10 [e, slice + (if dbl then 256 else 0), cycles, s.frame]
    let hist := (s.clk.ovrHist.filter fun p => decide (s.clk.tick < p.1 + 100)) ++ [(s.clk.tick, e)]
    let s := { s with
      clk.overran := setBit s.clk.overran e
      clk.overranCtl := if slice < 4 then setBit s.clk.overranCtl e else s.clk.overranCtl
      clk.overranEpoch := setBit s.clk.overranEpoch e
      clk.ovrTotal := satInc 32 s.clk.ovrTotal
      clk.ovrHist := hist
      brake.engRun := if slice < 4 then clearBit s.brake.engRun e else s.brake.engRun }
    match hist.filter (·.2 = e) with
    | (t, _) :: _ :: _ :: _ => s.thirdOverrun e (s.clk.count - BitVec.ofNat 32 (s.clk.tick - t)).toNat
    | _ => s
  else s

/-- FRAME_OVERRUN (R58). -/
def execFrameOverrun (e slice cycles : Nat) (s : State) : Host.Outcome State Fault Refusal :=
  .next (if 1 ≤ slice ∧ slice ≤ 3 then s.overrun e slice cycles false else s)

/-- BACKGROUND_OVERRUN (R59): unfinished work resumes in the next background slice. -/
def execBackgroundOverrun (e cycles : Nat) (s : State) : Host.Outcome State Fault Refusal :=
  .next (s.overrun e 4 cycles false)

/-! ### Memory errors (R28–R30) -/

/-- SINGLE_BIT_ERROR (R28): corrected and recorded. No code is stated for the record: code, source and parameters are free. -/
def execSingleBitError (s : State) : Host.Outcome State Fault Refusal :=
  if s.running then
    let w (i : Nat) : Nat := (Config.freeWord (s.freeCtr + i)).toNat
    let c := w 0
    let src := w 1
    let ps := [w 2, w 3, w 4, w 5]
    .next ({ s with freeCtr := s.freeCtr + 6 }.emit (c % 65536) (src % 256) ps)
  else .next s

/-- DOUBLE_BIT_ERROR (R29, R30). -/
def execDoubleBitError (region : SramRegion) (s : State) : Host.Outcome State Fault Refusal :=
  if s.running then
    match region with
    | .engineMem e slice cycles => .next (if 1 ≤ slice ∧ slice ≤ 4 then s.overrun e slice cycles true else s)
    | .trace i =>
      .next { s with rcd.trBuf := s.rcd.trBuf.modify i fun (x : TrEntry) => { x with valid := false } }
    | .other =>
      .next (if s.canYield && !s.brake.inFloor then { s with tdm.yieldReq := 2 }
        else if s.isStandby then { s with tdm.selfCheck := true }
        else s.floorCause 5)
  else .next s

/-- SCRUB_COMPLETE (R740). -/
def execScrubComplete (ok : Bool) (s : State) : Host.Outcome State Fault Refusal :=
  .next (if s.running && ok then s.clearCause 5 else s)

end Sys2Proof.Machine
end

