-- ==== Sys2Proof/Machine/Clocks.lean ====
section
/-! DEFINITION. The reference clock's failure and return, and stalled register accesses (R82–R84, R93–R96). -/

namespace Sys2Proof.Machine

/-- XTAL_FAIL (R83): no frame is lost. -/
def execXtalFail (relockNs : Nat) (s : State) : Host.Outcome State Fault Refusal :=
  if s.running && decide (s.clk.refSrc ≠ 2) then
    .next ({ s with clk.refWas := s.clk.refSrc, clk.refSrc := 2, clk.xtalOk := false, clk.xtalGood := 0 }.emit 0x0103 0x12
      [s.frame, relockNs, 0, 0])
  else .next s

/-- XTAL_RESTORED (R84): the crystal has run without fault for 1,000 consecutive epochs. -/
def execXtalRestored (s : State) : Host.Outcome State Fault Refusal :=
  if s.running && decide (s.clk.refSrc = 2) && decide (1000 ≤ s.clk.xtalGood) then
    .next ({ s with clk.refSrc := s.clk.refWas, clk.xtalOk := true, clk.xtalGood := 0 }.emit 0x0104 0x12 [s.frame, 0, 0, 0])
  else .next s

/-- The reference's part of an epoch while the fallback runs: epochs since the failure. Whether edges are present is not
told to the model: XTAL_OK is free until the return (assumption 24). -/
def State.xtalEpoch (s : State) : State :=
  if s.clk.refSrc = 2 then
    { s.freeStep with clk.xtalOk := (Config.freeWord s.freeCtr).getLsbD 0, clk.xtalGood := s.clk.xtalGood + 1 }
  else s

/-- DOMAIN_STALL (R96): a stall of more than 50 µs, at the access's end. -/
def execDomainStall (dom ns off : Nat) (s : State) : Host.Outcome State Fault Refusal :=
  if s.running && decide (50000 < ns) then
    .next ({ s with sys.stallMax := max s.sys.stallMax ns, sys.bridgeDom := dom % 8 }.emit 0x010B 0x13 [dom, lo32 ns, hi32 ns, off])
  else .next s

end Sys2Proof.Machine
end

