-- ==== Sys2Proof/Machine/Reset.lean ====
section
/-! DEFINITION. Resets and what survives them (R142–R148), VAON loss and the PCIe link. -/

namespace Sys2Proof.Machine

/-! ### What survives -/

/-- Discards what crosses between the dies (R92): a forwarded write in flight, counted as a flush. -/
def State.crossFlush (s : State) : State :=
  { s with sys.bridgePending := false, sys.flushCnt := satInc 16 s.sys.flushCnt }

/-- The latest valid trace slot (R716). -/
def newestTrace (l : List (Option TrSlot)) : Option Nat :=
  ((List.range l.length).foldl (fun (b : Option (Nat × BitVec 32)) k =>
    match l.getD k none, b with
    | some x, none => some (k, x.seq)
    | some x, some (j, q) => if serialNewer x.seq q then some (k, x.seq) else some (j, q)
    | none, b => b) none).map (·.1)

/-- A trace slot or gauge slot being written when power or the control die goes is not valid (R501, R718). -/
def State.cutWrites (s : State) : State :=
  let s := s.dropWrite
  let s := if s.rcd.trSt = .writing then { s with rcd.trSlots := s.rcd.trSlots.set s.rcd.trSlot none } else s
  match s.gauge.writing with
  | some (true, _, _) => { s with gauge.writing := none, gauge.slotB := none, gauge.whyB := 1 }
  | some (false, _, _) => { s with gauge.writing := none, gauge.slotA := none, gauge.whyA := 1 }
  | none => s

/-- What the recorder keeps in flash over every reset (R704, R716); whether staging was flushed stands in the journal. -/
def Rec.flash (r : Rec) (ready : Bool) : Rec :=
  { log := r.log, flashSeq := r.flashSeq, oldest := r.oldest, trSlots := r.trSlots, trErased := r.trErased
    trNewest := newestTrace r.trSlots, flushedShut := if ready then r.staging.isEmpty else r.flushedShut
    next := r.next, any := r.any }

/-- A rail after a reset other than a cold one: off; latches, causes and totals kept, a retry cancelled (R147). -/
def Rail.rebooted (r : Rail) : Rail :=
  let l : Bool := r.lstate == .latched || r.crowbar
  { causes := if l then r.causes else 0, lstate := if l then .latched else .none
    recallCnt := r.recallCnt, truncCnt := r.truncCnt, countChg := r.countChg, fcConf := r.fcConf, fcRet := r.fcRet
    specAct := r.specAct, specUndo := r.specUndo, fcShown := r.fcShown }
/-- A switch after such a reset: off; a latch-off, its causes and its trips kept. -/
def Switch.rebooted (c : Switch) : Switch :=
  { st := if c.st = .latched then .latched else .off, cause := if c.st = .latched then c.cause else 0
    retries := if c.st = .latched then c.retries else 0, tripCnt := c.tripCnt }
/-- A phase after such a reset: at mid, a latch kept. -/
def Phase.rebooted (p : Phase) : Phase := { latched := p.latched }
/-- The gauge after such a reset (R498): its working state from the always-on image, not yet brought up. -/
def Gauge.rebooted (g : Gauge) : Gauge :=
  { g with
    st := .init, spSlot := none, spBad := false, spN := 0, spSum := 0, saveSlots := [], saveNext := [], again := none
    shutWait := false, emptyRun := 0, restRun := 0, restDone := false, vSum := 0, vN := 0 }
/-- The pair's totals since cold reset. -/
def Tdm.rebooted (t : Tdm) : Tdm :=
  { downs := t.downs, misses := t.misses, crcFails := t.crcFails, misFrames := t.misFrames, resyncs := t.resyncs
    takeovers := t.takeovers, yields := t.yields, fLastTake := t.fLastTake, drillOut := t.drillOut }

/-- The state after a warm reset or a wake, supplies aside (R145–R147): everything but what R147 keeps. -/
def State.rebooted (s : State) : State :=
  let s := s.cutWrites
  let z : State := {}
  { z with
    pending := s.pending
    freeCtr := s.freeCtr
    sys := { z.sys with
      variant := s.sys.variant, strapsLatched := s.sys.strapsLatched, strapRole := s.sys.strapRole
      strapSide := s.sys.strapSide, role := s.sys.role, sideB := s.sys.sideB, conflict := s.sys.conflict
      resetLast := s.sys.resetLast, warmCount := s.sys.warmCount, lostCpl := s.sys.lostCpl, hibCount := s.sys.hibCount
      vaonMv := s.sys.vaonMv, vaonLost := s.sys.vaonLost, vaonLostAt := s.sys.vaonLostAt
      bridgeFlush := s.sys.bridgeFlush, flushCnt := s.sys.flushCnt, stallMax := s.sys.stallMax
      bridgeDom := s.sys.bridgeDom, signedOnly := s.sys.signedOnly, rollback := s.sys.rollback
      rollbackLeft := s.sys.rollbackLeft, bootSession := s.sys.bootSession }
    clk := { z.clk with
      devTime := s.clk.devTime, strobe := s.clk.strobe, alignOfs := s.clk.alignOfs, ofsSet := s.clk.ofsSet
      count := s.clk.count, epoch := s.clk.epoch, pos := s.clk.pos, tick := s.clk.tick, wallOfs := s.clk.wallOfs
      alignState := if s.clk.alignState = .free then .free else .holdover
      ovrTotal := s.clk.ovrTotal, missTotal := s.clk.missTotal, resampleTotal := s.clk.resampleTotal
      streamReplTotal := s.clk.streamReplTotal }
    cfg := { z.cfg with
      slotA := s.cfg.slotA, slotB := s.cfg.slotB, bankA := s.cfg.bankA, bankB := s.cfg.bankB
      journalB := s.cfg.journalB, journalOk := s.cfg.journalOk
      vaonLossMv := s.cfg.vaonLossMv, wakeSrc := s.cfg.wakeSrc, wakeMa := s.cfg.wakeMa }
    rails := s.rails.map Rail.rebooted
    phases := s.phases.map Phase.rebooted
    sws := s.sws.map Switch.rebooted
    seq.forcedOff := s.seq.forcedOff
    seq.presses := s.seq.presses
    path.holdCnt := s.path.holdCnt
    gauge := s.gauge.rebooted
    tdm := s.tdm.rebooted
    hif.posted := s.hif.posted
    way.gen := s.way.gen
    way.genWritten := s.way.genWritten
    way.skipped := s.way.skipped
    dray.session := s.dray.session
    dray.stale := s.dray.stale
    dray.crc := s.dray.crc
    dray.skip := s.dray.skip
    dray.rxUp := s.dray.rxUp
    dray.rxDn := s.dray.rxDn
    dray.sent := s.dray.sent
    rcd := { s.rcd.flash (s.isReady fREC) with
      hold := s.rcd.hold, suppressed := s.rcd.suppressed, lost := s.rcd.lost, trIgnored := s.rcd.trIgnored
      crowbars := s.rcd.crowbars, shorts := s.rcd.shorts, bootSeq := s.rcd.bootSeq }
    brake.clipTotal := s.brake.clipTotal
    maint.refused := s.maint.refused }

/-- The state after a cold reset, supplies aside (R142): everything but OTP, NV store and flash. -/
def State.colded (s : State) : State :=
  let s := s.cutWrites
  let z : State := {}
  { z with
    pending := s.pending
    freeCtr := s.freeCtr
    sys := { z.sys with
      variant := s.sys.variant, signedOnly := s.sys.signedOnly, rollback := s.sys.rollback
      rollbackLeft := s.sys.rollbackLeft, bootSession := s.sys.bootSession }
    cfg := { z.cfg with
      slotA := s.cfg.slotA, slotB := s.cfg.slotB, bankA := s.cfg.bankA, bankB := s.cfg.bankB
      journalB := s.cfg.journalB, journalOk := s.cfg.journalOk }
    gauge := { z.gauge with
      slotA := s.gauge.slotA, slotB := s.gauge.slotB, whyA := s.gauge.whyA, whyB := s.gauge.whyB }
    hif.posted := s.hif.posted
    dray.sent := s.dray.sent
    rcd := s.rcd.flash (s.isReady fREC) }

/-! ### Warm and cold reset -/

/-- Slots in flight, whose completions a reset discards. -/
def State.lostSlots (s : State) : Nat := (s.hif.tags.filter fun t => t.st != .free).length

/-- Rails and switches are off (R142). -/
def State.allOff (s : State) : Bool :=
  s.railIdx.all (fun n => (s.rail n).st == .off) && s.swIdx.all fun n => (s.sw n).st != .on && (s.sw n).st != .ramp

/-- WARM_RESET (R142): after the turn-off, or 100 ms; staging flushed. After a field-main reset, at once. -/
def execWarmReset (s : State) : Host.Outcome State Fault Refusal :=
  match s.sys.warmPending with
  | some cause =>
    if s.sys.supply = .boot ∧ (cause = 5 ∨ s.allOff = true ∨ s.sys.warmTick + framesMs 100 ≤ s.clk.tick) then
      let s := if cause = 4 ∧ s.maintOn 6 = true then s.maintEnd 6 0 0 else s
      let s := (s.maintFailAll.testLockTo false 3).testClear
      let s := if cause = 5 then s else ((s.waySkip 1).wayTo 0 0).flushAll
      let s := { s with
        sys.lostCpl := s.lostSlots, sys.resetLast := cause, sys.warmCount := satInc 16 s.sys.warmCount, rcd.hold := [] }
      let s := s.crossFlush.rebooted
      .next { s with sys.supply := .core, sys.coreEn := true, sys.running := 0x7, sys.live := 0x4 }
    else .next s
  | none => .next s

/-- COLD_RESET (R111, R112, R142): LAST 0 at VAON below 2.8 V, 1 below 4.3 V, 2 at the host's request. -/
def execColdReset (cause : Nat) (s : State) : Host.Outcome State Fault Refusal :=
  match cause with
  | 0 => .next s.colded
  | 1 =>
    if s.sys.supply = .off ∨ (s.sys.supply = .aon ∧ s.sys.hib ≠ .asleep) then .next s
    else .next { s.colded with sys.supply := .aon, sys.resetLast := 1 }
  | 2 =>
    if s.sys.coldPending then
      let n := s.lostSlots
      .next { s.colded with sys.supply := .v33, sys.resetLast := 2, sys.lostCpl := n }
    else .next s
  | _ => .next s

/-- FIELD_MAIN_RESET (R92, R142): gates to source, and a warm reset at once. Which side is 0 in CROSS_FLUSH is not stated. -/
def execFieldMainReset (s : State) : Host.Outcome State Fault Refusal :=
  if s.running then
    let w := bit1 s.sys.bridgePending
    let s := s.each s.swIdx fun s n => s.modSw n fun c => { c.gateOff with
      gateLow := true, st := if c.st = .latched then .latched else .off }
    let side := (Config.freeWord s.freeCtr).toNat
    .next ({ s.freeStep.crossFlush with sys.warmPending := some 5, sys.warmTick := s.clk.tick }.emit 0x010C 0x12 [side, 0, w, 0])
  else .next s

/-! ### PCIe (R143, R147) -/

/-- Registers that a reset of the endpoint clears: rings, windows, Waybill (R643), GLB_SCRATCH. -/
def ringCleared (off : Nat) : Bool :=
  (0x8000 ≤ off && off < 0xA000) || (0x0220 ≤ off && off < 0x02A0) || off == 0x0038

/-- The endpoint's state after its reset: rings, windows and MSI-X cleared; completions discarded. -/
def State.endpointClear (s : State) : State :=
  let s := (s.waySkip 1).wayTo 0 0
  let n := s.hif.decided.length
  { s with
    regs := s.regs.filter fun r => !ringCleared r.1
    live := s.live.filter fun r => !ringCleared r.1
    way.en := false
    hif := { s.hif with
      bme := false, d3 := false, msixEn := false, fmask := false, vecMask := 0xFFFFFFFFFFFFFFFF, vecPend := 0, msixTab := List.replicate 64 0
      wins := List.replicate 8 {}, rings := List.replicate 64 {}, scratch := 0, decided := []
      discarded := s.hif.discarded + n, visit := none, rrStart := 1, rrSeen := false
      tags := s.hif.tags.map fun (t : Tag) =>
        if t.st = .decided then { t with st := .free } else if t.st = .free then t else { t with discard := true } } }

/-- PCIE_RESET (R142, R143): PERST_N, or the link going down. -/
def execPcieReset (s : State) : Host.Outcome State Fault Refusal :=
  if s.sys.supply = .boot then
    let n := s.hif.decided.length
    let s := s.endpointClear
    let s := { s with
      sys.linkUp := false, sys.pcieCfg := false, sys.perstTick := s.clk.tick, sys.ready := clearBit s.sys.ready fRING }
    .next (s.emit 0x0907 0x13 [1, n, s.lostSlots, s.frame])
  else .next s

/-- PCIE_LINK_UP: RING reports ready again. -/
def execPcieLinkUp (s : State) : Host.Outcome State Fault Refusal :=
  if s.sys.supply = .boot ∧ s.sys.linkUp = false then
    let s := { s with
      sys.linkUp := true, sys.linkEver := true, clk.pcieLock := true, hif.linkDown := 0
      sys.ready := if s.sys.ringUp then setBit s.sys.ready fRING else s.sys.ready }
    .next (s.emit 0x0907 0x13 [2, s.hif.discarded, s.lostSlots, s.frame])
  else .next s

/-- PCIE_CONFIG_READY (R126): 100 ms after boot start and after PERST_N. -/
def execPcieConfigReady (s : State) : Host.Outcome State Fault Refusal :=
  .next (if s.sys.supply = .boot ∧ s.sys.bootDev + 100000000 ≤ s.clk.devTime ∧
      (s.sys.perstTick = 0 ∨ s.sys.perstTick + framesMs 100 ≤ s.clk.tick) then
    { s with sys.pcieCfg := true } else s)

/-! ### VAON loss (R119, R496, R701, R718) -/

/-- VAON_LOSS. -/
def execVaonLoss (mv : Nat) (s : State) : Host.Outcome State Fault Refusal :=
  if s.running && !s.sys.vaonLost && decide (mv < s.cfg.vaonLossMv) then
    let s := { s with sys.vaonLost := true, sys.vaonLostAt := s.clk.devTime, sys.vaonMv := mv }
    let s := s.emit 0x0012 0x12 [mv, s.cfg.vaonLossMv, s.frame]
    .next (s.traceAbandon.nvShutdown false)
  else .next s

end Sys2Proof.Machine
end

