-- ==== Sys2Proof/Machine/Boot.lean ====
section
/-! DEFINITION. Supplies, boot, the configuration image, bring-up of functions, the locks the device sets itself, and
hibernate (R107–R156, R723–R729). -/

namespace Sys2Proof.Machine

/-! ### Supplies (R107–R116) -/

/-- ALWAYS_ON_START (R111): VAON above 3.0 V. -/
def execAlwaysOnStart (s : State) : Host.Outcome State Fault Refusal :=
  .next (if s.sys.supply = .off then { s with sys.supply := .aon, sys.live := 0x4, sys.running := 0x4 } else s)

/-- VAON_RISE (R113): VAON above 4.5 V; the V33 regulator is enabled, unless the device hibernates. -/
def execVaonRise (s : State) : Host.Outcome State Fault Refusal :=
  .next (if s.sys.supply = .aon ∧ s.sys.hib ≠ .asleep then { s with sys.supply := .v33 } else s)

/-- V33_GOOD: the V18 regulator is enabled. -/
def execV33Good (s : State) : Host.Outcome State Fault Refusal :=
  .next (if s.sys.supply = .v33 then { s with sys.supply := .v18 } else s)

/-- STRAP_LATCH (R8, R107, R108): once per cold reset. A reserved strap, or on the PZ-4816B one but Branch, is a conflict. -/
def execStrapLatch (role1 role0 side : Bool) (s : State) : Host.Outcome State Fault Refusal :=
  if s.sys.supply = .v18 ∧ s.sys.strapsLatched = false then
    let code := bit1 role0 + 2 * bit1 role1
    let bad : Bool := code == 3 || (!s.sys.variant.hasDown && code != 0)
    let role : Role := if bad then .branch else if code = 2 then .manager else if code = 1 then .zone else .branch
    let sd := side && s.sys.variant.hasTdm
    let s := { s with
      sys.strapsLatched := true, sys.strapRole := BitVec.ofNat 2 code, sys.strapSide := sd, sys.role := role
      sys.sideB := sd, sys.conflict := bad }
    .next (if bad then s.emitBoot 0x0010 [code, role.code, s.sys.variant.code, 0] else s)
  else .next s

/-- V18_GOOD: CORE_EN is asserted. -/
def execV18Good (s : State) : Host.Outcome State Fault Refusal :=
  .next (if s.sys.supply = .v18 then { s with sys.supply := .core, sys.coreEn := true } else s)

/-- CORE_START_RETRY (R114, R115): after the third attempt the field die gives up. -/
def execCoreStartRetry (vcoreMv : Nat) (s : State) : Host.Outcome State Fault Refusal :=
  if s.sys.supply = .core then
    let n := s.sys.coreTries + 1
    let s := { s with sys.coreTries := n, sys.coreMv := vcoreMv, sys.resetLast := 7 }
    .next (if 3 ≤ n then
      { s with sys.supply := .giveUp, sys.coreEn := false, seq.faultLow := true, seq.pgood := false, seq.rstoLow := 0xF } else s)
  else .next s

/-! ### Boot (R125–R129, R655, R699) -/

/-- FW_BANK_REJECT for a bank that fails. -/
def State.bankReject (s : State) (b : Nat) (bytes : List Byte) : State :=
  let r := s.bankFault bytes
  if r = 0 then s else s.emitBoot 0x0C01 [b, r, lo32 (bankVersion bytes), hi32 (bankVersion bytes)]

/-- The bank to run (`true` is B): the journal's, else the other; with no journal, the higher VERSION, A where equal
(R128). -/
def State.bankPick (s : State) : Option Bool :=
  let a := s.bankFault s.cfg.bankA == 0
  let b := s.bankFault s.cfg.bankB == 0
  if s.cfg.journalOk then
    let n := s.cfg.journalB
    if (if n then b else a) then some n else if (if n then a else b) then some (!n) else none
  else if a && b then some (decide (bankVersion s.cfg.bankA < bankVersion s.cfg.bankB))
  else if a then some false else if b then some true else none

/-- Rejections are recorded for the banks tried. -/
def State.bankTries (s : State) : State :=
  let one (s : State) (b : Bool) : State := s.bankReject (bit1 b) (if b then s.cfg.bankB else s.cfg.bankA)
  let n := s.cfg.journalOk && s.cfg.journalB
  let first := one s n
  if s.cfg.journalOk && s.bankPick == some n then first else one first (!n)

/-- BOOT_START. -/
def execBootStart (refSrc pageUs : Nat) (eraseSuspend : Bool) (t : Nat) (s : State) : Host.Outcome State Fault Refusal :=
  if s.sys.supply = .core ∧ s.sys.coreEn = true ∧ s.sys.strapsLatched = true then
    let slow : Bool := decide (600 < pageUs) || !eraseSuspend
    let now := max s.clk.devTime t
    let s := { s with
      sys.supply := .boot, sys.bootDev := now, sys.bootSession := s.sys.bootSession + 1
      dray.session := s.sys.bootSession + 1, sys.running := if s.sys.variant.hasPath then 0xF else 0x7
      sys.booted := false, sys.recovery := false, clk.devTime := now, clk.refSrc := refSrc % 4
      clk.refWas := if refSrc % 4 = 2 then 0 else refSrc % 4, clk.xtalOk := refSrc % 4 != 2
      clk.engLock := true, clk.ptuLock := true, clk.d2dLock := true, rcd.pageUs := pageUs, rcd.flashSlow := slow }
    let s := s.emitBoot 0x0025 [s.sys.resetLast, s.sys.warmCount, s.sys.lostCpl, 0]
    let s := if slow then s.emitBoot 0x0B07 [pageUs, bit1 eraseSuspend, 0, 0] else s
    let s := s.bankTries
    match s.bankPick with
    | some b =>
      let s := { s with
        cfg.runningB := b, cfg.fwVersion := bankVersion (if b then s.cfg.bankB else s.cfg.bankA) }
      .next s.judgeOther
    | none =>
      let s := s.emitBoot 0x0C02 [s.bankFault s.cfg.bankA, s.bankFault s.cfg.bankB, 0, 0]
      .next { s.judgeOther with
        sys.recovery := true, sys.booted := true, sys.ringUp := true, sys.ready := setBit 0 fRING, seq.faultLow := true
        tdm.st := .single, cfg.otherVersion := 0 }
  else .next s

/-- Functions a role or variant skips (R132, R133). -/
def State.skipMask (s : State) : BitVec 11 :=
  let v := s.sys.variant
  let k (f : Nat) (b : Bool) : Nat := if b then 2 ^ f else 0
  BitVec.ofNat 11 (k fPATH (!v.hasPath) + k fGAUGE (!v.hasPath) + k fTDM (!v.hasTdm) + k fUP (s.sys.role == .manager) +
    k fDOWN (!s.downUsed))

/-- CFG_REJECT of a slot that fails (R806). -/
def State.slotReject (s : State) (slot : Nat) (im : List Byte) : State :=
  match imageFault s.sys.variant s.cfg.fwVersion s.sys.signedOnly im with
  | some (r, t, o) => s.emitBoot 0x0021 [slot, r, t, o]
  | none => s

/-- CFG_IMAGE_LOAD (R130, R131): the boot ends here, and frames begin. -/
def execCfgImageLoad (bootUs : Nat) (s : State) : Host.Outcome State Fault Refusal :=
  if s.sys.supply = .boot ∧ s.sys.booted = false then
    let s := (s.slotReject 0 s.cfg.slotA).slotReject 1 s.cfg.slotB
    let s := match chooseSlot s.cfg.slotA s.cfg.slotB (s.slotValid s.cfg.slotA) (s.slotValid s.cfg.slotB) with
      | some im => s.loadImage im
      | none => s
    let s := { s with
      sys.booted := true, tdm.st := if s.sys.variant.hasTdm then s.tdm.st else .single
      clk.devTime := max s.clk.devTime (s.sys.bootDev + 1000 * bootUs) }
    let s := { s with sys.skipped := s.skipMask }
    .next (s.emitBoot 0x0020 [bit1 s.cfg.runningB, lo32 s.cfg.fwVersion, s.cfg.imageSeq, bootUs])
  else .next s

/-! ### Bring-up (R132–R137) -/

/-- Whether bring-up has come to a function. -/
def State.turnOf (s : State) (f : Nat) : Bool :=
  if f = fUP ∨ f = fDOWN then s.isSettled fTDM else (List.range f).all s.isSettled

/-- Every function neither absent nor skipped reports ready, DRAY_UP not counted. -/
def State.allReady (s : State) : Bool :=
  (List.range 11).all fun f => f == fUP || s.sys.skipped.getLsbD f || s.isReady f

/-- What a function needs to report ready: a configured device (R131), BRAKE not failed (R135), and its own condition. -/
def State.mayReady (s : State) (f : Nat) : Bool :=
  s.running && !s.sys.recovery && decide (f < 11) && s.turnOf f && !s.isSettled f &&
  (s.sys.configured || f == fREC || f == fRING) &&
  !(s.sys.fail.getLsbD fBRAKE && decide (fSEQ ≤ f) && decide (f ≤ fGAUGE)) &&
  (f != fPATH || (decide (10 ≤ s.path.seenRun) && s.path.bat != .unknown)) &&
  (f != fTDM || (if s.tdm.linkUp then s.tdm.peerSideB != s.sys.sideB else !s.sys.sideB)) &&
  (f != fUP || (decide (s.dray.beaconEp ≠ 0) && s.upUsed))

/-- The TDM function settles the state (R508). -/
def State.tdmSettle (s : State) : State :=
  if s.tdm.linkUp then
    (if s.sys.sideB || s.tdm.peer == 2 || s.tdm.peer == 3 || s.tdm.peer == 4 then s.startJoin else s.tdmTo .active 0)
  else s.tdmTo .single 0

/-- What else comes with a function's READY. -/
def State.bringUp (s : State) (f : Nat) : State :=
  match f with
  | 0 =>
    let s := s.logHead.admitHeld
    if s.sys.coreTries = 0 then s else s.emitBoot 0x0011 [s.sys.coreTries, s.sys.coreMv, 0, 0]
  | 5 => { s with path.st := .noFeed }.convTo .idle
  | 6 =>
    if s.gauge.fresh then { s with gauge.fresh := false }.gaugeLoad
    else
      let s := { s with gauge.st := .counting }
      match s.gauge.wakeMs with
      | some ms => { s with gauge.wakeMs := none }.gaugeWake ms
      | none => s
  | 7 => { s with sys.ringUp := true }
  | 8 => s.tdmSettle
  | _ => s

/-- FUNCTION_READY (R132). -/
def execFunctionReady (f : Nat) (s : State) : Host.Outcome State Fault Refusal :=
  if s.mayReady f then
    let s := { s with sys.ready := setBit s.sys.ready f }.bringUp f
    .next (if s.sys.readyAllTick.isNone && s.allReady then { s with sys.readyAllTick := some s.clk.tick } else s)
  else .next s

/-- FUNC_FAIL (R131, R134, R508): a side A twin with no link is SINGLE all the same, for its rings come up (log 41). -/
def execFuncFail (f cause : Nat) (s : State) : Host.Outcome State Fault Refusal :=
  if s.running && !s.sys.recovery && decide (f < 11) && s.turnOf f && !s.isSettled f then
    let s := { s with sys.fail := setBit s.sys.fail f }.emit 0x0022 14 [f, cause, s.frame, 0]
    .next (if f = fTDM then
      (if s.tdm.linkUp && s.tdm.peerSideB == s.sys.sideB then
        (if s.tdm.peer = 3 ∨ s.tdm.peer = 4 then s.faulty 4 else s.tdmTo .waitLink 0)
       else if s.tdm.linkUp then s
       else if s.sys.sideB then s.tdmTo .waitLink 0 else s.tdmTo .single 0)
      else s)
  else .next s

/-- AUTO_PROG_START (R137, R417, R509, R510). -/
def execAutoProgStart (s : State) : Host.Outcome State Fault Refusal :=
  let due : Bool := s.running && s.sys.configured && !s.sys.autoDone && s.cfg.autoProg != 0xFF &&
    s.isSettled fRAIL && s.isSettled fSW && s.isSettled fPATH && (!s.sys.sideB || s.isSettled fTDM)
  if due then
    let s := { s with sys.autoDone := true }
    .next (if (s.sys.sideB && s.tdm.st != .single) || s.seq.forcedOff || s.brake.inFloor || s.seqBusy then s
      else s.seqRequest s.cfg.autoProg 1 none)
  else .next s

/-! ### SETUP_LOCK (R138–R140) -/

/-- Sets the lock, with its source: 0 host, 1 AUTOLOCK, 2 no host. -/
def State.lockUp (s : State) (source : Nat) : State :=
  if s.sys.lock then s else { s with sys.lock := true }.emit 0x0023 14 [source, s.frame, 0, 0]

/-- AUTOLOCK (R139). -/
def execAutolock (s : State) : Host.Outcome State Fault Refusal :=
  match s.sys.readyAllTick with
  | some t =>
    .next (if s.running && s.cfg.autolock && decide (t + 100 * s.cfg.autolockEpochs ≤ s.clk.tick) then s.lockUp 1 else s)
  | none => .next s

/-- NOHOST_LOCK (R140). -/
def execNohostLock (s : State) : Host.Outcome State Fault Refusal :=
  .next (if s.running && s.sys.configured && !s.cfg.autolock && !s.sys.linkEver &&
      decide (s.sys.bootDev + 1000000 * s.cfg.nohostMs ≤ s.clk.devTime) then s.lockUp 2 else s)

/-! ### Hibernate (R149–R155) -/

/-- HIBERNATE's own part. A second one waits with the first. -/
def State.hibernateOp (s : State) (k : Nat) : State :=
  let src : Bool := s.cfg.wakeSrc.getLsbD 0 || (s.cfg.wakeSrc.getLsbD 1 && s.sys.variant.hasPath)
  match (bitsOf 9 s.maint.running.toNat).head? with
  | some c => s.complete k stMAINT c
  | none =>
    if s.canYield then s.reject k stBADPARAM 1
    else if !src then s.reject k stBADPARAM 2
    else if s.sys.hib = .h1 then s.complete k stDONE 0
    else if s.sys.hib = .offProg then { s with sys.hibSlots := s.sys.hibSlots ++ [k] }.hold k
    else
      let on : Bool := !s.allOff
      let s := { s with sys.hib := .offProg, sys.hibSlots := [k], sys.hibTick := s.clk.tick, sys.wakePend := none }.hold k
      let s := { s with sys.hibOffProg := on && s.cfg.offProg != 0xFF }
      if on then (s.offSequence 4).1 else s

/-- HIBERNATE. -/
def execHibernate (slot : Nat) (s : State) : Host.Outcome State Fault Refusal :=
  .next (s.applyDesc 0x0102 slot (fun _ => none) fun _ s => s.hibernateOp slot)

/-- HIB_H1: OFF_PROG has finished, or with none everything is off. A wake before it ends the entry (R155). -/
def execHibH1 (s : State) : Host.Outcome State Fault Refusal :=
  if s.running && s.sys.hib == .offProg && !s.seqBusy && (s.sys.hibOffProg || s.allOff) then
    let slots := s.sys.hibSlots
    match s.sys.wakePend with
    | some src =>
      .next ({ s with sys.hib := .none, sys.hibSlots := [], sys.wakePend := none }.completeAll slots stABORTED src)
    | none =>
      let s := if s.gaugeOn then s.nvTrigger 4 else s
      .next ({ s with sys.hib := .h1, sys.hibSlots := [], sys.hibTick := s.clk.tick, sys.live := 0x4 }.completeAll slots stDONE 0)
  else .next s

/-- From the wake event (R152, R154): device time goes on by the time slept. -/
def State.wakeUp (s : State) (src ns : Nat) : State :=
  let ms := ns / 1000000
  let s := { s with
    sys.hib := .none, sys.wakeRun := 0, sys.wakePend := none, sys.supply := .v33, sys.resetLast := 6
    clk.devTime := s.clk.devTime + ns, seq.forcedOff := false, gauge.wakeMs := some ms }
  s.emitBoot 0x0027 [src, lo32 ms, hi32 ms, 0]

/-- HIB_HANDOFF: HIB_ENTER, staging flushed, and everything but the always-on domain off. -/
def execHibHandoff (s : State) : Host.Outcome State Fault Refusal :=
  if s.running && s.sys.hib == .h1 && decide (s.sys.hibTick + 100 ≤ s.clk.tick) then
    let frame := (s.clk.count - BitVec.ofNat 32 (s.clk.tick - s.sys.hibTick)).toNat
    let s := s.emit 0x0026 14 [frame, bit1 s.sys.hibOffProg, s.rcd.staging.length + 1, 0]
    let w := s.sys.wakePend
    let s := { s.flushAll with sys.hibCount := satInc 16 s.sys.hibCount, sys.lostCpl := s.lostSlots, rcd.hold := [] }
    let s := { s.rebooted with sys.hib := .asleep, sys.supply := .aon, sys.live := 0x4, sys.running := 0x4 }
    .next (match w with | some src => s.wakeUp src 0 | none => s)
  else .next s

/-- WAKE_PIN (R115, R153, R155). -/
def execWakePin (ns : Nat) (s : State) : Host.Outcome State Fault Refusal :=
  if s.sys.supply = .giveUp then .next { s with sys.supply := .core, sys.coreEn := true }
  else if !s.cfg.wakeSrc.getLsbD 0 then .next s
  else
    match s.sys.hib with
    | .asleep => .next (s.wakeUp 0 ns)
    | .offProg | .h1 => .next { s with sys.wakePend := some 0 }
    | .none => .next s

/-- CURRENT_WAKE_SAMPLE (R153, R500): the accumulator takes the sample for 250 ms. -/
def execCurrentWakeSample (ma : Int) (ns : Nat) (s : State) : Host.Outcome State Fault Refusal :=
  if s.sys.hib = .asleep ∧ s.cfg.wakeSrc.getLsbD 1 = true ∧ s.sys.variant.hasPath = true then
    let run := if s.cfg.wakeMa < ma.natAbs then s.sys.wakeRun + 1 else 0
    let s := { s with gauge.acc := signedOf 48 (twos 48 (s.gauge.acc + 250000 * ma)), gauge.last := ma, sys.wakeRun := run }
    .next (if 2 ≤ run then s.wakeUp 1 ns else s)
  else .next s

end Sys2Proof.Machine
end

