-- ==== Sys2Proof/Machine/RegWrite.lean ====
section
/-! DEFINITION. Register writes (R18–R20, R733, R765–R767, R774–R782): the writes without a row of their own, GLB_CTRL, the
W1C registers, the MSI-X table, and the forwarding of set-up values to the field die. -/

namespace Sys2Proof.Machine

/-! ### Judging a write field by field (R19, R20) -/

/-- A write to a field that the lock refuses: an RL value other than the one in force, or a looser RT value. -/
def Fld.denied (f : Fld) (lock : Bool) (cur v : Nat) : Bool :=
  lock && (match f.acc with
    | .rw => false
    | .rl => v != cur
    | .rtLow => decide (cur < v)
    | .rtHigh => decide (v < cur))

/-- Bits `lo` up, `w` wide, of a number. -/
def cutField (x lo w : Nat) : Nat := x / 2 ^ lo % 2 ^ w

/-- Pairs of fields of one register that a write must leave in a stated relation (R286, R733): the two low bits and widths,
and whether the values stand so. -/
def pairRule (off : Nat) : Option ((Nat × Nat) × (Nat × Nat) × (Nat → Nat → Bool)) :=
  if 0xC100 ≤ off ∧ off < 0xC200 ∧ off % 16 = 0 then some ((0, 16), (16, 16), fun vmax vmin => decide (vmin ≤ vmax))
  else if off = 0x1110 then some ((0, 8), (8, 8), fun thr lim => decide (thr + 5 ≤ lim))
  else none

/-- The fields of a register that a write of `w` over `cur` may not change. -/
def deniedFields (v : Variant) (lock : Bool) (off cur w : Nat) : List Fld :=
  let fs := regFields v off
  let byLock := fs.filter fun f => f.denied lock (cutField cur f.lo f.w) (cutField w f.lo f.w)
  match pairRule off with
  | none => byLock
  | some (a, b, ok) =>
    let now (p : Nat × Nat) : Nat := cutField (if byLock.any (·.lo == p.1) then cur else w) p.1 p.2
    if ok (now a) (now b) then byLock
    else byLock ++ fs.filter fun f => (f.lo == a.1 || f.lo == b.1) && !byLock.contains f

/-- The register after the write: the permitted fields at the written values, the refused ones as they were. -/
def judgedWord (v : Variant) (off cur w : Nat) (no : List Fld) : Nat :=
  (regFields v off).foldl (fun a f =>
    a + (if no.contains f then cutField cur f.lo f.w else fieldValue off f (cutField w f.lo f.w)) * 2 ^ f.lo) 0

/-- A write to RW, RL and RT fields: read back at once, in force from the next frame boundary (R776); SETUP_WRITE_DENIED
once where any field is refused. -/
def State.putReg (s : State) (off w : Nat) : State :=
  let v := s.sys.variant
  let cur := s.regv off
  let no := deniedFields v s.sys.lock off cur w
  let x := judgedWord v off cur w no
  let s := { s with
    regs := regInsert v off (BitVec.ofNat 32 x) s.regs
    sys.bridgePending := s.sys.bridgePending || isSetup off }
  if no.isEmpty then s else s.writeDenied off w x

/-- A ring's configuration registers: discarded while the ring is enabled, with RING_STATE (R604); after SETUP_LOCK those of
rings 2–63 are judged by R19. -/
def State.putRing (s : State) (off w : Nat) : State :=
  let r := (off - 0x8000) / 0x40
  if (s.ring r).st ≠ .disabled && !s.ringLocked r then
    s.emit 0x0903 14 [r, (s.ring r).st.code, (s.ring r).st.code, 3]
  else s.putReg off w

/-- A TEST register (R767): no effect while UNLOCKED is clear; TEST_CTRL's change is recorded, TEST_SEED seeds the
generator, 0 acting as 1. -/
def State.putTest (s : State) (off w : Nat) : State :=
  if !s.maint.unlocked then s
  else
    let old := s.regv off
    let s := s.putReg off w
    let new := s.regv off
    if off = 0xE000 then (if new = old then s else s.emit 0x0D07 14 [old, new, s.regv 0xE004, 0])
    else if off = 0xE004 then { s with maint.lfsr := BitVec.ofNat 32 (if new = 0 then 1 else new) }
    else s

/-- The MSI-X table (R558, R603): address, data and the mask bit of each vector. -/
def State.putMsix (s : State) (a : Nat) (w : Word) : State :=
  let v := a / 16
  let old := s.hif.msixTab.getD v 0
  let low (n : Nat) : BitVec 96 := BitVec.ofNat 96 (w.toNat * 2 ^ n)
  let put (n : Nat) : State := { s with
    hif.msixTab := s.hif.msixTab.set v (old &&& ~~~(BitVec.ofNat 96 (0xFFFFFFFF * 2 ^ n)) ||| low n) }
  match a % 16 / 4 with
  | 0 => put 0
  | 1 => put 32
  | 2 => put 64
  | _ =>
    if w.getLsbD 0 then { s with hif.vecMask := setBit s.hif.vecMask v }
    else { s with hif.vecMask := clearBit s.hif.vecMask v }.sendPending

/-- A write at an offset: registers whose writes are rows of their own have no writable field here, and a write to an RO,
absent or unassigned offset has no effect (R6, R18, R556). -/
def State.putAny (s : State) (off : Nat) (w : Word) : State :=
  if 0x11000 ≤ off ∧ off < 0x11400 ∧ off % 4 = 0 then s.putMsix (off - 0x11000) w
  else if (regFields s.sys.variant off).isEmpty then s
  else if off = 0x0038 then { s.putReg off w.toNat with hif.scratch := w }
  else if 0x8000 ≤ off ∧ off < 0x9000 then s.putRing off w.toNat
  else if 0xE000 ≤ off ∧ off < 0xF000 then s.putTest off w.toNat
  else s.putReg off w.toNat

/-- REGISTER_WRITE (R776). Offsets from 0x10000 up are BAR2's (R552). -/
def execRegisterWrite (off : Nat) (w : Word) (s : State) : Host.Outcome State Fault Refusal :=
  .next (if s.sys.linkUp then s.putAny off w else s)

/-! ### The field bridge (R88, R782) -/

/-- FIELD_FORWARD: the copies are forwarded while FIELD_MAIN's clock runs. -/
def execFieldForward (s : State) : Host.Outcome State Fault Refusal :=
  .next (if s.sys.running.getLsbD 1 then { s with sys.bridgePending := false } else s)

/-- FIELD_BRIDGE_FLUSH_CLEAR: a 1 written to FIELD_BRIDGE.FLUSH. -/
def execFieldBridgeFlushClear (s : State) : Host.Outcome State Fault Refusal :=
  .next (if s.sys.linkUp then { s with sys.bridgeFlush := false } else s)

/-- HIF_EVENT_CLEAR: each 1 clears its bit of GLB_HIF_EVENT. -/
def execHifEventClear (w : Word) (s : State) : Host.Outcome State Fault Refusal :=
  .next (if s.sys.linkUp then { s with hif.event := s.hif.event &&& ~~~(w.setWidth 4) } else s)

/-! ### GLB_CTRL (R138, R142) -/

/-- SETUP_LOCK: 1 written to GLB_CTRL.SETUP_LOCK. -/
def execSetupLock (s : State) : Host.Outcome State Fault Refusal :=
  .next (if s.sys.linkUp then s.lockUp 0 else s)

/-- A write of GLB_CTRL that asks for a reset: the lock bit, then CONFIRM; both reset bits make it a cold one. With no
frames running the warm reset has nothing to turn off. -/
def State.ctrlWrite (s : State) (w : Word) : State :=
  let s := if w.getLsbD 0 then s.lockUp 0 else s
  if !(w.getLsbD 1 || w.getLsbD 2) then s
  else if w.toNat / 256 % 256 ≠ 0x5A then s.emit 0x0028 14 [w.toNat, 0, 0, 0]
  else if w.getLsbD 2 then { s with sys.coldPending := true }
  else if s.sys.warmPending.isSome then s
  else if s.running && !s.sys.recovery then s.askWarm 3
  else { s with sys.warmPending := some 3, sys.warmTick := s.clk.tick }

/-- WARM_RESET_REQUEST. -/
def execWarmResetRequest (w : Word) (s : State) : Host.Outcome State Fault Refusal :=
  .next (if s.sys.linkUp then s.ctrlWrite w else s)

/-- COLD_RESET_REQUEST. -/
def execColdResetRequest (w : Word) (s : State) : Host.Outcome State Fault Refusal :=
  .next (if s.sys.linkUp then s.ctrlWrite w else s)

end Sys2Proof.Machine
end

