-- ==== Sys2Proof/Machine/Frame.lean ====
section
/-! DEFINITION. The frame boundary, the missed frames and the epoch boundary (R53–R56, R63–R67, R85, R89–R91). The row of
frame N closes frame N − 1 (stage 3, commit, copy) and runs frame N as far as step 4; the commands of step 5 and the other
rows of frame N follow it. -/

namespace Sys2Proof.Machine

/-! ### The end of a frame -/

/-- Stage 3, commit and copy of the frame that ends (R53, R55, R56): control work of a twin that is not recomputing
another's, the gauge, Drayline's composer, the state block, the trace entry, and at position 99 what the Waybill takes. -/
def State.frameEnd (s : State) : State :=
  if !s.clk.begun then s
  else
    let s := if s.isStandby then s else s.ctlEnd
    let s := if s.clk.overranCtl.getLsbD 12 then s else s.gaugeFrame
    let s := s.drillFrame.drayFrame
    let s := s.blockFrame.traceEntry
    if s.clk.pos = 99 then s.waySnap else s

/-- Commits the frame that ends and begins the next, unless the epoch boundary's work has done so. -/
def State.openFrame (s : State) : State :=
  if s.clk.opened then { s with clk.opened := false } else s.frameEnd.clockFrame

/-! ### The beginning of a frame -/

/-- Domains whose clocks run (R93, R783). -/
def State.domainMask (s : State) : BitVec 7 :=
  BitVec.ofNat 7 (7 + 8 * bit1 s.sys.variant.hasPath + 16 * bit1 s.upUsed + 32 * bit1 s.downUsed + 64 * bit1 s.tdm.linkUp)
/-- GLB_DOMAIN_LIVE and the engines' status at a frame's beginning; a hibernate entry has cleared LIVE (R94, R150). -/
def State.domains (s : State) : State :=
  let m := s.domainMask
  { s with
    sys.running := m
    sys.live := if s.sys.hib = .h1 then s.sys.live else m
    brake.engRun := BitVec.ofNat 16 (maskOf (activeEngines s.sys.variant)) &&& ~~~s.clk.halted }

/-- Limits a register write has tightened take hold at the boundary (R629, R776, R780). -/
def State.liveTighten (s old : State) : State :=
  let less (item n : Nat) : Bool :=
    let (off, lo, w) := tightenField item n
    if item = 2 then decide (old.cfgf off lo w < s.cfgf off lo w) else decide (s.cfgf off lo w < old.cfgf off lo w)
  let one (items : List Nat) (s : State) (n : Nat) : State :=
    items.foldl (fun s i => if less i n then s.tightenMove i n else s) s
  let s := s.each s.railIdx (one (tightenItems 1))
  let s := s.each s.swIdx (one (tightenItems 3))
  one (tightenItems 0) s 0
/-- Register values accepted in the frame that ended come into force. -/
def State.regsLive (s : State) : State :=
  if s.regs == s.live then s else s.takeLive.liveTighten s

/-- What every frame begins with, a sample set or none. -/
def State.frameOpen (s : State) : State :=
  let s := s.wallTake.intakeFrame
  let s := s.regsLive.doorbellsDue
  (s.tdmBegin.traceBegin).linkBack.domains

/-- Steps 1 to 4 of the frame, where the rows FLOOR_ENTER and FLOOR_EXIT do not run them themselves. -/
def State.frameSteps (s : State) : State :=
  if s.isStandby then s.stbyFrame
  else if s.floorDue || s.exitDue then s
  else if s.brake.inFloor then s.floorSteps true
  else s.ctlSteps true

/-- FRAME_BOUNDARY. In firmware recovery mode only the clock runs (R726). -/
def execFrameBoundary (x : Sample) (s : State) : Host.Outcome State Fault Refusal :=
  if !s.running then .next s
  else if s.sys.recovery then .next s.clockFrame
  else
    let s := { s.openFrame with smp := x }
    let s := s.houseSample.frameOpen
    .next s.testFrame.frameSteps

/-! ### Missed frames (R89–R91) -/

/-- The eighth missed sample frame in a row: the floor, or the yield or self-check instead of it (R90, R534, R551). -/
def State.eightMissed (s : State) : State :=
  if s.canYield then { s with tdm.yieldReq := 3 }
  else if s.isStandby then { s with tdm.selfCheck := true }
  else s.floorCause 6

/-- SAMPLE_MISSED: a frame without control slices, all outputs held. -/
def execSampleMissed (s : State) : Host.Outcome State Fault Refusal :=
  if !s.running || s.sys.recovery then .next s
  else
    let s := s.openFrame
    let n := s.clk.missRun + 1
    let s := { s with
      clk.overranCtl := 0xFFFF, clk.missRun := n, clk.missTotal := s.clk.missTotal + 1, clk.goodSamples := 0 }
    let s := { s.frameOpen with brake.engRun := 0 }
    let s := s.emit 0x010A 0x12 [s.frame, n, 0, 0]
    .next (if n = 8 then s.eightMissed else s)

/-- OUTPUT_MISSED: the field die keeps the previous set. -/
def execOutputMissed (s : State) : Host.Outcome State Fault Refusal :=
  .next (if s.running && !s.sys.recovery then s.emit 0x010D 0x12 [s.frame, 0, 0, 0] else s)

/-! ### The epoch boundary (R67) -/

/-- SWAP_DRILL's yield, and the hand-back a MAINT_STOP asks for, at an epoch boundary (R546, R752). -/
def State.drillEpoch (s : State) : State :=
  if s.canYield && (s.tdm.drillPhase == 1 || (s.tdm.drillPhase == 2 && s.stopAsked 2)) then { s with tdm.yieldReq := 6 } else s

/-- SETUP_DIGEST_CHECK (R511). -/
def State.digestEpoch (s : State) : State :=
  if s.tdm.st == .shadow && !s.tdm.mirror.isEmpty && !s.setupEqual then s.faulty 3 else s

/-- Control work of the boundary: averages, capping, derating and compensation, the gauge. -/
def State.epochControl (s : State) : State :=
  let s := { s.epochAverages with
    brake.clipEngines := if s.brake.inFloor || s.brake.floorPend then s.brake.clipEngines else 0 }
  let s := (s.capEpoch.tdieAverage).derate.compensate
  s.xtalEpoch.gaugeEpoch

/-- The epoch's summaries, in the order of their codes' units. -/
def State.epochSummaries (s : State) : State :=
  let s := s.each s.railIdx fun s n => s.railSummaries n
  let s := s.each s.swIdx fun s n => s.swSummary n
  s.specSummary.otherSummaries

/-- The work of an epoch boundary. -/
def State.epochWork (s : State) : State :=
  let s := { s with clk.epTick := s.clk.tick }
  let s := s.epochControl.epochSummaries
  let s := (s.holdEpoch.drayEpoch).wayBuild.recEpoch
  s.drillEpoch.digestEpoch

/-- EPOCH_BOUNDARY. It comes with the frame at position 99 still open, which it then commits, beginning the next; or, sent
after that frame's boundary, it does its work once in it. -/
def execEpochBoundary (s : State) : Host.Outcome State Fault Refusal :=
  if !s.running || s.sys.recovery || !s.clk.begun then .next s
  else if s.clk.pos = 99 && !s.clk.opened then
    let s := { s.frameEnd.clockFrame with clk.opened := true }
    .next (if s.clk.pos = 0 then s.epochWork else s)
  else if s.clk.pos = 0 && s.clk.epTick != s.clk.tick then .next s.epochWork
  else .next s

end Sys2Proof.Machine
end

