-- ==== Sys2Proof/Machine/Dispatch.lean ====
section
/-! DEFINITION. One arm per constructor of `Instr`: the meaning of each command on everything but the queue. -/

namespace Sys2Proof.Machine

/-- The effect of a command (the queue holds the commands after it). -/
def exec (i : Instr) (s : State) : Host.Outcome State Fault Refusal :=
  match i with
  | .frameBoundary x => Sys2Proof.Machine.execFrameBoundary x s
  | .epochBoundary => Sys2Proof.Machine.execEpochBoundary s
  | .sampleMissed => Sys2Proof.Machine.execSampleMissed s
  | .outputMissed => Sys2Proof.Machine.execOutputMissed s
  | .currentStreamWord ch good value tPs => Sys2Proof.Machine.execCurrentStreamWord ch good value tPs s
  | .onTimeExpiry phase tPs => Sys2Proof.Machine.execOnTimeExpiry phase tPs s
  | .fastErrorWord rail uv t => Sys2Proof.Machine.execFastErrorWord rail uv t s
  | .referenceUpdate rail => Sys2Proof.Machine.execReferenceUpdate rail s
  | .phaseShed rail => Sys2Proof.Machine.execPhaseShed rail s
  | .recallHoldEnd rail => Sys2Proof.Machine.execRecallHoldEnd rail s
  | .pgmaskEnd rail => Sys2Proof.Machine.execPgmaskEnd rail s
  | .speculationStart rail leader => Sys2Proof.Machine.execSpeculationStart rail leader s
  | .biasEnd rail leader => Sys2Proof.Machine.execBiasEnd rail leader s
  | .forecastRetire rail leader => Sys2Proof.Machine.execForecastRetire rail leader s
  | .capReduce => Sys2Proof.Machine.execCapReduce s
  | .capRaise => Sys2Proof.Machine.execCapRaise s
  | .tsenseFailed => Sys2Proof.Machine.execTsenseFailed s
  | .tsenseRecover => Sys2Proof.Machine.execTsenseRecover s
  | .railFault rail => Sys2Proof.Machine.execRailFault rail s
  | .ovCrowbar rail peakMv t => Sys2Proof.Machine.execOvCrowbar rail peakMv t s
  | .crowbarHoldEnd rail => Sys2Proof.Machine.execCrowbarHoldEnd rail s
  | .phaseLatch phase => Sys2Proof.Machine.execPhaseLatch phase s
  | .ssShort rail => Sys2Proof.Machine.execSsShort rail s
  | .railRetry rail => Sys2Proof.Machine.execRailRetry rail s
  | .retryCountReset rail => Sys2Proof.Machine.execRetryCountReset rail s
  | .dischargeEnd rail => Sys2Proof.Machine.execDischargeEnd rail s
  | .dischargeTimeout rail => Sys2Proof.Machine.execDischargeTimeout rail s
  | .rampComplete ch => Sys2Proof.Machine.execRampComplete ch s
  | .rampTimeout ch => Sys2Proof.Machine.execRampTimeout ch s
  | .switchShort ch ma t => Sys2Proof.Machine.execSwitchShort ch ma t s
  | .swFaultTimerExpiry ch => Sys2Proof.Machine.execSwFaultTimerExpiry ch s
  | .swPumpTrip ch => Sys2Proof.Machine.execSwPumpTrip ch s
  | .swRetry ch => Sys2Proof.Machine.execSwRetry ch s
  | .swRetryCountReset ch => Sys2Proof.Machine.execSwRetryCountReset ch s
  | .seatQualified ch => Sys2Proof.Machine.execSeatQualified ch s
  | .seatLoss ch => Sys2Proof.Machine.execSeatLoss ch s
  | .brakeI2tTrip ch => Sys2Proof.Machine.execBrakeI2tTrip ch s
  | .stepQualified => Sys2Proof.Machine.execStepQualified s
  | .stepTimeout => Sys2Proof.Machine.execStepTimeout s
  | .syncRelease => Sys2Proof.Machine.execSyncRelease s
  | .syncRefresh => Sys2Proof.Machine.execSyncRefresh s
  | .syncAdvance => Sys2Proof.Machine.execSyncAdvance s
  | .syncHome lowUs => Sys2Proof.Machine.execSyncHome lowUs s
  | .syncInvalid lowUs => Sys2Proof.Machine.execSyncInvalid lowUs s
  | .syncAbortBurst => Sys2Proof.Machine.execSyncAbortBurst s
  | .homePulseEnd => Sys2Proof.Machine.execHomePulseEnd s
  | .pgoodRelease => Sys2Proof.Machine.execPgoodRelease s
  | .mrNAssert => Sys2Proof.Machine.execMrNAssert s
  | .mrNEnd => Sys2Proof.Machine.execMrNEnd s
  | .pbPress ms => Sys2Proof.Machine.execPbPress ms s
  | .longPress ms => Sys2Proof.Machine.execLongPress ms s
  | .resetPulseEnd slot => Sys2Proof.Machine.execResetPulseEnd slot s
  | .feedLoss cause feedMv t => Sys2Proof.Machine.execFeedLoss cause feedMv t s
  | .converterBoost => Sys2Proof.Machine.execConverterBoost s
  | .handoverEnd => Sys2Proof.Machine.execHandoverEnd s
  | .feedQualified => Sys2Proof.Machine.execFeedQualified s
  | .handbackEnd => Sys2Proof.Machine.execHandbackEnd s
  | .reserveReached => Sys2Proof.Machine.execReserveReached s
  | .batCutoff => Sys2Proof.Machine.execBatCutoff s
  | .batPresent => Sys2Proof.Machine.execBatPresent s
  | .batMissing => Sys2Proof.Machine.execBatMissing s
  | .prechargeEnd reached => Sys2Proof.Machine.execPrechargeEnd reached s
  | .detectionPulseEnd => Sys2Proof.Machine.execDetectionPulseEnd s
  | .periodicPulse => Sys2Proof.Machine.execPeriodicPulse s
  | .chgForcedStop => Sys2Proof.Machine.execChgForcedStop s
  | .searchDwellEnd feedMv feedMa lastMv convMa => Sys2Proof.Machine.execSearchDwellEnd feedMv feedMa lastMv convMa s
  | .searchPeriod => Sys2Proof.Machine.execSearchPeriod s
  | .gaugeSample ma => Sys2Proof.Machine.execGaugeSample ma s
  | .emptyConfirmed => Sys2Proof.Machine.execEmptyConfirmed s
  | .ocvCorrect => Sys2Proof.Machine.execOcvCorrect s
  | .spectroStart => Sys2Proof.Machine.execSpectroStart s
  | .spectroResult r x => Sys2Proof.Machine.execSpectroResult r x s
  | .nvWrite ok => Sys2Proof.Machine.execNvWrite ok s
  | .nvWritePeriodic => Sys2Proof.Machine.execNvWritePeriodic s
  | .currentWakeSample ma ns => Sys2Proof.Machine.execCurrentWakeSample ma ns s
  | .stateBlockReceived b => Sys2Proof.Machine.execStateBlockReceived b s
  | .statusBlockReceived b => Sys2Proof.Machine.execStatusBlockReceived b s
  | .blockMissing crc => Sys2Proof.Machine.execBlockMissing crc s
  | .tdmLinkDown cause lane => Sys2Proof.Machine.execTdmLinkDown cause lane s
  | .tdmLinkUp peerSideB peerState => Sys2Proof.Machine.execTdmLinkUp peerSideB peerState s
  | .soloHoldEnd => Sys2Proof.Machine.execSoloHoldEnd s
  | .takeover => Sys2Proof.Machine.execTakeover s
  | .orphan => Sys2Proof.Machine.execOrphan s
  | .mismatchUnresolved => Sys2Proof.Machine.execMismatchUnresolved s
  | .tdmJoin => Sys2Proof.Machine.execTdmJoin s
  | .joinTimeout => Sys2Proof.Machine.execJoinTimeout s
  | .autoJoin => Sys2Proof.Machine.execAutoJoin s
  | .drillHoldEnd => Sys2Proof.Machine.execDrillHoldEnd s
  | .tdmPromote w => Sys2Proof.Machine.execTdmPromote w s
  | .sqDoorbell ring v => Sys2Proof.Machine.execSqDoorbell ring v s
  | .cqDoorbell ring v => Sys2Proof.Machine.execCqDoorbell ring v s
  | .descriptorIntake ring d => Sys2Proof.Machine.execDescriptorIntake ring d s
  | .deadlineMissed slot => Sys2Proof.Machine.execDeadlineMissed slot s
  | .completionWrite => Sys2Proof.Machine.execCompletionWrite s
  | .coalTimeout ring => Sys2Proof.Machine.execCoalTimeout ring s
  | .msixUnmask vec => Sys2Proof.Machine.execMsixUnmask vec s
  | .dmaReadFail ring addr => Sys2Proof.Machine.execDmaReadFail ring addr s
  | .busMasterChange bme d3 msix fmask => Sys2Proof.Machine.execBusMasterChange bme d3 msix fmask s
  | .ringEnable ring w => Sys2Proof.Machine.execRingEnable ring w s
  | .ringCtrlReset ring => Sys2Proof.Machine.execRingCtrlReset ring s
  | .dmaWindowWrite off w => Sys2Proof.Machine.execDmaWindowWrite off w s
  | .barAccessVoid bar off size isWrite => Sys2Proof.Machine.execBarAccessVoid bar off size isWrite s
  | .nop slot => Sys2Proof.Machine.execNop slot s
  | .hibernate slot => Sys2Proof.Machine.execHibernate slot s
  | .hibH1 => Sys2Proof.Machine.execHibH1 s
  | .hibHandoff => Sys2Proof.Machine.execHibHandoff s
  | .wakePin ns => Sys2Proof.Machine.execWakePin ns s
  | .wallSet slot => Sys2Proof.Machine.execWallSet slot s
  | .cfgWrite slot image => Sys2Proof.Machine.execCfgWrite slot image s
  | .cfgWriteComplete ok => Sys2Proof.Machine.execCfgWriteComplete ok s
  | .ringCreate slot => Sys2Proof.Machine.execRingCreate slot s
  | .ringDelete slot => Sys2Proof.Machine.execRingDelete slot s
  | .resetRing slot => Sys2Proof.Machine.execResetRing slot s
  | .dmaWindowSet slot => Sys2Proof.Machine.execDmaWindowSet slot s
  | .railOn slot => Sys2Proof.Machine.execRailOn slot s
  | .railOff slot => Sys2Proof.Machine.execRailOff slot s
  | .railSetVoltage slot => Sys2Proof.Machine.execRailSetVoltage slot s
  | .railQuery slot => Sys2Proof.Machine.execRailQuery slot s
  | .railClear slot => Sys2Proof.Machine.execRailClear slot s
  | .swOn slot => Sys2Proof.Machine.execSwOn slot s
  | .swOff slot => Sys2Proof.Machine.execSwOff slot s
  | .swClear slot => Sys2Proof.Machine.execSwClear slot s
  | .seqRun slot => Sys2Proof.Machine.execSeqRun slot s
  | .seqAbort slot => Sys2Proof.Machine.execSeqAbort slot s
  | .seqResetPulse slot => Sys2Proof.Machine.execSeqResetPulse slot s
  | .seqFaultAck slot => Sys2Proof.Machine.execSeqFaultAck slot s
  | .chgStart slot => Sys2Proof.Machine.execChgStart slot s
  | .chgStop slot => Sys2Proof.Machine.execChgStop slot s
  | .pathClear slot => Sys2Proof.Machine.execPathClear slot s
  | .batIsolate slot => Sys2Proof.Machine.execBatIsolate slot s
  | .batReconnect slot => Sys2Proof.Machine.execBatReconnect slot s
  | .gaugeSetFull slot => Sys2Proof.Machine.execGaugeSetFull slot s
  | .gaugeSave slot => Sys2Proof.Machine.execGaugeSave slot s
  | .gaugeNewBattery slot => Sys2Proof.Machine.execGaugeNewBattery slot s
  | .gaugeSpectro slot => Sys2Proof.Machine.execGaugeSpectro slot s
  | .forecastPost slot => Sys2Proof.Machine.execForecastPost slot s
  | .forecastCancel slot => Sys2Proof.Machine.execForecastCancel slot s
  | .capSet slot => Sys2Proof.Machine.execCapSet slot s
  | .recRead slot => Sys2Proof.Machine.execRecRead slot s
  | .recTrigger slot => Sys2Proof.Machine.execRecTrigger slot s
  | .recTraceRead slot => Sys2Proof.Machine.execRecTraceRead slot s
  | .maintStart slot => Sys2Proof.Machine.execMaintStart slot s
  | .maintStop slot => Sys2Proof.Machine.execMaintStop slot s
  | .selftestChannel result => Sys2Proof.Machine.execSelftestChannel result s
  | .adcCalConverter conv offset => Sys2Proof.Machine.execAdcCalConverter conv offset s
  | .logCompactSector => Sys2Proof.Machine.execLogCompactSector s
  | .safePoint => Sys2Proof.Machine.execSafePoint s
  | .swapWaitExpiry => Sys2Proof.Machine.execSwapWaitExpiry s
  | .dryrunStep => Sys2Proof.Machine.execDryrunStep s
  | .tdmRetire slot => Sys2Proof.Machine.execTdmRetire slot s
  | .tdmRejoin slot => Sys2Proof.Machine.execTdmRejoin slot s
  | .drayCap slot => Sys2Proof.Machine.execDrayCap slot s
  | .drayForecast slot => Sys2Proof.Machine.execDrayForecast slot s
  | .drayStage slot => Sys2Proof.Machine.execDrayStage slot s
  | .fwWrite slot bank => Sys2Proof.Machine.execFwWrite slot bank s
  | .fwWriteComplete => Sys2Proof.Machine.execFwWriteComplete s
  | .brakeTighten slot => Sys2Proof.Machine.execBrakeTighten slot s
  | .exitFloor slot => Sys2Proof.Machine.execExitFloor slot s
  | .floorEnter => Sys2Proof.Machine.execFloorEnter s
  | .floorExit => Sys2Proof.Machine.execFloorExit s
  | .engineReload e ok => Sys2Proof.Machine.execEngineReload e ok s
  | .hostLinkLoss => Sys2Proof.Machine.execHostLinkLoss s
  | .frameOverrun e slice cycles => Sys2Proof.Machine.execFrameOverrun e slice cycles s
  | .backgroundOverrun e cycles => Sys2Proof.Machine.execBackgroundOverrun e cycles s
  | .singleBitError => Sys2Proof.Machine.execSingleBitError s
  | .doubleBitError region => Sys2Proof.Machine.execDoubleBitError region s
  | .xtalFail relockNs => Sys2Proof.Machine.execXtalFail relockNs s
  | .xtalRestored => Sys2Proof.Machine.execXtalRestored s
  | .domainStall dom ns off => Sys2Proof.Machine.execDomainStall dom ns off s
  | .loReadLatch off => Sys2Proof.Machine.execLoReadLatch off s
  | .fieldForward => Sys2Proof.Machine.execFieldForward s
  | .fieldBridgeFlushClear => Sys2Proof.Machine.execFieldBridgeFlushClear s
  | .hifEventClear w => Sys2Proof.Machine.execHifEventClear w s
  | .registerWrite off w => Sys2Proof.Machine.execRegisterWrite off w s
  | .setupLock => Sys2Proof.Machine.execSetupLock s
  | .warmResetRequest w => Sys2Proof.Machine.execWarmResetRequest w s
  | .coldResetRequest w => Sys2Proof.Machine.execColdResetRequest w s
  | .autolock => Sys2Proof.Machine.execAutolock s
  | .nohostLock => Sys2Proof.Machine.execNohostLock s
  | .rollbackAdvance w => Sys2Proof.Machine.execRollbackAdvance w s
  | .recCursorWrite w => Sys2Proof.Machine.execRecCursorWrite w s
  | .recSnap => Sys2Proof.Machine.execRecSnap s
  | .windowFetchDone => Sys2Proof.Machine.execWindowFetchDone s
  | .testUnlock w => Sys2Proof.Machine.execTestUnlock w s
  | .testLock w => Sys2Proof.Machine.execTestLock w s
  | .benchLow => Sys2Proof.Machine.execBenchLow s
  | .vaonRise => Sys2Proof.Machine.execVaonRise s
  | .v33Good => Sys2Proof.Machine.execV33Good s
  | .strapLatch role1 role0 side => Sys2Proof.Machine.execStrapLatch role1 role0 side s
  | .v18Good => Sys2Proof.Machine.execV18Good s
  | .bootStart refSrc pageUs eraseSuspend t => Sys2Proof.Machine.execBootStart refSrc pageUs eraseSuspend t s
  | .coreStartRetry vcoreMv => Sys2Proof.Machine.execCoreStartRetry vcoreMv s
  | .cfgImageLoad bootUs => Sys2Proof.Machine.execCfgImageLoad bootUs s
  | .functionReady f => Sys2Proof.Machine.execFunctionReady f s
  | .funcFail f cause => Sys2Proof.Machine.execFuncFail f cause s
  | .autoProgStart => Sys2Proof.Machine.execAutoProgStart s
  | .pcieConfigReady => Sys2Proof.Machine.execPcieConfigReady s
  | .warmReset => Sys2Proof.Machine.execWarmReset s
  | .coldReset cause => Sys2Proof.Machine.execColdReset cause s
  | .fieldMainReset => Sys2Proof.Machine.execFieldMainReset s
  | .pcieReset => Sys2Proof.Machine.execPcieReset s
  | .pcieLinkUp => Sys2Proof.Machine.execPcieLinkUp s
  | .vaonLoss mv => Sys2Proof.Machine.execVaonLoss mv s
  | .stagingFlushed => Sys2Proof.Machine.execStagingFlushed s
  | .waybillWrite => Sys2Proof.Machine.execWaybillWrite s
  | .drayTransmit port sfd => Sys2Proof.Machine.execDrayTransmit port sfd s
  | .beacon h prevSfd leaderState joined flags stamp => Sys2Proof.Machine.execBeacon h prevSfd leaderState joined flags stamp s
  | .alignLock => Sys2Proof.Machine.execAlignLock s
  | .holdover => Sys2Proof.Machine.execHoldover s
  | .cap h caps => Sys2Proof.Machine.execCap h caps s
  | .report h p => Sys2Proof.Machine.execReport h p s
  | .forecast h t di rise window rail => Sys2Proof.Machine.execForecast h t di rise window rail s
  | .stage h stage up => Sys2Proof.Machine.execStage h stage up s
  | .alarm h p => Sys2Proof.Machine.execAlarm h p s
  | .ack h entries => Sys2Proof.Machine.execAck h entries s
  | .drayCrcDiscard port => Sys2Proof.Machine.execDrayCrcDiscard port s
  | .nodeLoss n => Sys2Proof.Machine.execNodeLoss n s
  | .drayUplinkLoss => Sys2Proof.Machine.execDrayUplinkLoss s
  | .idConflictClear n => Sys2Proof.Machine.execIdConflictClear n s
  | .tokenRefill code => Sys2Proof.Machine.execTokenRefill code s
  | .flashPageWrite => Sys2Proof.Machine.execFlashPageWrite s
  | .partialPageFlush => Sys2Proof.Machine.execPartialPageFlush s
  | .traceFreeze => Sys2Proof.Machine.execTraceFreeze s
  | .traceWritten ok ms => Sys2Proof.Machine.execTraceWritten ok ms s
  | .alwaysOnStart => Sys2Proof.Machine.execAlwaysOnStart s
  | .holdSegmentEnd lowUs => Sys2Proof.Machine.execHoldSegmentEnd lowUs s
  | .scrubComplete ok => Sys2Proof.Machine.execScrubComplete ok s
  | .eraseAheadComplete => Sys2Proof.Machine.execEraseAheadComplete s

end Sys2Proof.Machine
end

