-- ==== Sys2Proof/Safety.lean ====
section
/-! DEFINITION. What counts as a safe state, in the terms the statements use: every table of units has the length the
full device gives it, so that no unit is ever lost; and the register file, as accepted and as in force, keeps its one
canonical form, so that equal register files are equal data. -/

namespace Sys2Proof.Machine

/-- Every unit table has the full device's length (R1, R559, R564, R588). -/
def State.shape (s : State) : Prop :=
  s.rails.length = 16 ∧ s.phases.length = 32 ∧ s.sws.length = 24 ∧ s.hif.rings.length = 64 ∧ s.hif.tags.length = 128

/-- The state is well-formed: the tables have their lengths, and both register lists are canonical. -/
def State.wf (s : State) : Prop :=
  s.shape ∧ regWf s.sys.variant s.regs = true ∧ regWf s.sys.variant s.live = true

end Sys2Proof.Machine
end

