-- ==== Sys2Proof/Certificates/Slice0/Obligations.lean ====
section
/-! DEFINITION. The statements for the provers. `Claims` holds what is said of each command, one definition per row of the
table; an obligation joins the claims of one family, or states a rule or a law of the whole block. A claim reads: in every
state that meets the premises, the command answers a next state, and this is what that state holds. Its last clause names
every part of the state that may differ: all the rest is unchanged. -/

namespace Sys2Proof.Claims

open Sys2Proof.Machine

/-! ### The words the claims share -/

/-- The command answers the next state `t`. -/
def Goes (c : Instr) (s t : State) : Prop := exec c s = .next t

/-- Slot `k` holds a descriptor with opcode `op` that step 5 of the present frame applies and serves: every condition of
R584, R590–R593, R615 and R726 on it holds. `fn` is the function whose readiness it needs. -/
def Served (s : State) (k op : Nat) (fn : Option Nat) : Prop :=
  k < s.hif.tags.length ∧ (s.tag k).st = .held ∧ (s.tag k).discard = false ∧ descOpcode (s.tag k).desc = op ∧
  s.tagDue k = true ∧ s.running = true ∧ s.applies op = true ∧
  s.clk.overranCtl.getLsbD (applyEngine op (descIndex (s.tag k).desc) (descKind (s.tag k).desc)) = false ∧
  s.sys.recovery = false ∧ s.sys.hib = .none ∧ fn.all s.isReady = true ∧
  (floorExempt op = true ∨ (s.brake.inFloor = false ∧ s.brake.floorPend = false))

/-- The use of slot `k` has ended: its completion is decided with this STATUS and RESULT (R578). -/
def Ends (t : State) (k status result : Nat) : Prop :=
  (t.tag k).st = .decided ∧ ∃ c ∈ t.hif.decided, c.slot = some k ∧ c.status = status ∧ c.result = BitVec.ofNat 32 result

/-- In the host interface, only completions have been decided: rings, windows, vectors and messages are unchanged. -/
def OnlyEnds (s t : State) : Prop :=
  t.hif = { s.hif with
    tags := t.hif.tags, decided := t.hif.decided, decLog := t.hif.decLog, discarded := t.hif.discarded
    runIds := t.hif.runIds, repeats := t.hif.repeats }

/-- No rail, phase, switch, tag slot, ring but those of the list differs. -/
def RailsBut (l : List Nat) (s t : State) : Prop := ∀ j < s.rails.length, j ∉ l → t.rail j = s.rail j
def PhasesBut (l : List Nat) (s t : State) : Prop := ∀ j < s.phases.length, j ∉ l → t.phase j = s.phase j
def SwsBut (l : List Nat) (s t : State) : Prop := ∀ j < s.sws.length, j ∉ l → t.sw j = s.sw j
def TagsBut (l : List Nat) (s t : State) : Prop := ∀ j < s.hif.tags.length, j ∉ l → t.tag j = s.tag j
def RingsBut (l : List Nat) (s t : State) : Prop := ∀ j < s.hif.rings.length, j ∉ l → t.ring j = s.ring j

/-! ### Rail regulation (spec/05) -/

/-- R175, R187, R189, R303: a good word is the channel's last sample; R26, R87: a bad one is replaced by the channel's
previous value and counted. -/
def currentStreamWord : Prop :=
  (∀ (s : State) (m : Nat) (v : Int) (tPs : Nat), s.running = true → m < s.phases.length →
    ∃ t, Goes (.currentStreamWord (.phase m) true v tPs) s t ∧ (t.phase m).ilast = v ∧
      t = { s with rails := t.rails, phases := t.phases }) ∧
  (∀ (s : State) (m : Nat) (v : Int) (tPs : Nat), s.running = true → m < s.phases.length →
    ∃ t, Goes (.currentStreamWord (.phase m) false v tPs) s t ∧ (t.phase m).ilast = (s.phase m).ilast ∧
      t.clk.streamReplTotal = s.clk.streamReplTotal + 1 ∧ t = { s with clk := t.clk, rails := t.rails, phases := t.phases }) ∧
  (∀ (s : State) (n : Nat) (v : Int) (tPs : Nat), s.running = true → n < s.rails.length →
    ∃ t, Goes (.currentStreamWord (.sense n) true v tPs) s t ∧ (t.rail n).vsense = v ∧
      t = { s with rails := t.rails, phases := t.phases }) ∧
  (∀ (s : State) (n : Nat) (v : Int) (tPs : Nat), s.running = true → n < s.rails.length →
    ∃ t, Goes (.currentStreamWord (.sense n) false v tPs) s t ∧ (t.rail n).vsense = (s.rail n).vsense ∧
      t.clk.streamReplTotal = s.clk.streamReplTotal + 1 ∧ t = { s with clk := t.clk, rails := t.rails, phases := t.phases })

/-- R168: the pulse whose on-time has run out ends, and its low side conducts; no other phase changes. -/
def onTimeExpiry : Prop :=
  ∀ (s : State) (m tPs t0 : Nat), m < s.phases.length → (s.phase m).drive = .high → (s.phase m).start = some t0 →
    (t0 : Rat) + (s.phase m).onTime ≤ tPs →
    ∃ t, Goes (.onTimeExpiry m tPs) s t ∧ t.phase m = { s.phase m with drive := .low } ∧ PhasesBut [m] s t ∧
      t = { s with phases := t.phases }

/-- R190: an error above the transient window ends every pulse of the rail. R192: an error below the negative window, with
RECALL_EN set, recalls every phase free of a latch and starts the hold. -/
def fastErrorWord : Prop :=
  (∀ (s : State) (n : Nat) (uv : Int) (time : Nat), n < s.rails.length → (s.rail n).isOn = true →
    (s.rail n).crowbar = false → s.running = true → s.fastWin n 0 < s.fastErr n uv → -(s.fastWin n 8) ≤ s.fastErr n uv →
    ∃ t, Goes (.fastErrorWord n uv time) s t ∧ (∀ m ∈ s.railPhases n, m < s.phases.length → (t.phase m).drive ≠ .high) ∧
      (t.rail n).truncNow = true ∧ RailsBut [n] s t ∧ PhasesBut (s.railPhases n) s t ∧
      t = { s with rails := t.rails, phases := t.phases }) ∧
  (∀ (s : State) (n : Nat) (uv : Int) (time : Nat), n < s.rails.length → (s.rail n).isOn = true →
    (s.rail n).crowbar = false → s.running = true → s.tdm.st ≠ .shadow → s.railf n 0 7 1 = 1 →
    s.fastErr n uv ≤ s.fastWin n 0 → s.fastErr n uv < -(s.fastWin n 8) →
    ∃ t, Goes (.fastErrorWord n uv time) s t ∧ (t.rail n).recallHold = true ∧
      (t.rail n).active = (s.freePhases n).length ∧ RailsBut [n] s t ∧ PhasesBut (s.railPhases n) s t ∧
      t = { s with rails := t.rails, phases := t.phases, rcd := t.rcd })

/-- R204: the reference moves by one nanosecond of its slew rate toward the target, and never past it; the target stands. -/
def referenceUpdate : Prop :=
  ∀ (s : State) (n : Nat), n < s.rails.length → (s.rail n).isOn = true → s.isFollower n = false →
    (s.rail n).onTick ≤ s.clk.tick → (s.rail n).vref ≠ (s.rail n).vtarget →
    ∃ t, Goes (.referenceUpdate n) s t ∧
      (t.rail n).vref = (if (s.rail n).vref ≤ (s.rail n).vtarget
        then min ((s.rail n).vref + (s.rail n).slew / 10000) (s.rail n).vtarget
        else max ((s.rail n).vref - (s.rail n).slew / 10000) (s.rail n).vtarget) ∧
      (t.rail n).vtarget = (s.rail n).vtarget ∧ RailsBut (s.pairUnits n) s t ∧ OnlyEnds s t ∧
      t = { s with rails := t.rails, hif := t.hif }

/-- R196: the count falls to the highest allowed count below, which meets MIN_PHASES and the ADD guard. -/
def phaseShed : Prop :=
  ∀ (s : State) (n k : Nat), n < s.rails.length → s.shedOn n = true → s.shedDue n = true →
    s.railf n 0 8 4 < (s.rail n).active →
    s.iAvg n < 100 * (s.railf n (0x20 + 4 * ((s.rail n).active - 1)) 16 16 : Rat) →
    k < (s.rail n).active → 1 ≤ k → s.countOk n k = true →
    (∀ j, k < j → j < (s.rail n).active → s.countOk n j = false) →
    s.railf n 0 8 4 ≤ k →
    s.iAvg n < 100 * (s.railf n (0x20 + 4 * (k - 1)) 0 16 : Rat) - 1000 * s.railf n 0x1C 4 4 →
    ∃ t, Goes (.phaseShed n) s t ∧ (t.rail n).active = k ∧ (t.rail n).shedSince = s.clk.tick ∧ RailsBut [n] s t ∧
      PhasesBut (s.railPhases n) s t ∧ t = { s with rails := t.rails, phases := t.phases, rcd := t.rcd }

/-- R193: one full shed interval without a recall ends the hold, and a new interval begins. -/
def recallHoldEnd : Prop :=
  ∀ (s : State) (n : Nat), n < s.rails.length → (s.rail n).recallHold = true →
    (s.rail n).recallSince + s.railf n 0x1C 16 16 ≤ s.clk.tick →
    ∃ t, Goes (.recallHoldEnd n) s t ∧
      t.rail n = { s.rail n with recallHold := false, shedSince := s.clk.tick } ∧ RailsBut [n] s t ∧
      PhasesBut (s.railPhases n) s t ∧ t = { s with rails := t.rails, phases := t.phases }

/-! ### Rail commands and forecasts (spec/06, spec/15) -/

/-- R218, R221: the mask ends at its time, and a rail whose power-good is low starts its qualification again. -/
def pgmaskEnd : Prop :=
  ∀ (s : State) (n e : Nat), n < s.rails.length → (s.rail n).mask = true → (s.rail n).maskEnd = some e → e ≤ s.clk.tick →
    ∃ t, Goes (.pgmaskEnd n) s t ∧
      t.rail n = { s.rail n with mask := false, maskEnd := none, qual := if (s.rail n).pg then (s.rail n).qual else 0 } ∧
      RailsBut [n] s t ∧ t = { s with rails := t.rails }

/-- R225, R226, R228: the entry's speculation starts with the frame's current as its baseline, the count R226 gives and the
bias of FC_BIAS; RAIL_SPEC_STARTED counts it. -/
def speculationStart : Prop :=
  ∀ (s : State) (n : Nat) (lead : Bool) (e : Fc), n < s.rails.length → (s.rail n).entry lead = some e →
    s.specDue n e = true →
    ∃ t, Goes (.speculationStart n lead) s t ∧
      (t.rail n).entry lead = some { e with
        spec := true, specTick := s.clk.tick, baseline := (s.rail n).iout, count := s.specCountFor n e.di
        biasOn := s.railf n 0x8C 16 8 != 0 } ∧
      (t.rail n).specAct = satInc 32 (s.rail n).specAct ∧ RailsBut [n] s t ∧ PhasesBut (s.railPhases n) s t ∧
      t = { s with rails := t.rails, phases := t.phases }

/-- R228: the bias of an entry ends in the frame of T + RISE; the entry stays. -/
def biasEnd : Prop :=
  ∀ (s : State) (n : Nat) (lead : Bool) (e : Fc), n < s.rails.length → (s.rail n).entry lead = some e → e.biasOn = true →
    e.t + 1000 * e.rise < s.evalStrobe + 10000 →
    ∃ t, Goes (.biasEnd n lead) s t ∧ (t.rail n).entry lead = some { e with biasOn := false } ∧ RailsBut [n] s t ∧
      t = { s with rails := t.rails }

/-- R238: an entry not confirmed by the end of its window is retired and counted; its FORECAST_POST ends DONE with
RESULT 2. -/
def forecastRetire : Prop :=
  ∀ (s : State) (n : Nat) (lead : Bool) (e : Fc), n < s.rails.length → (s.rail n).entry lead = some e →
    e.t + 1000 * e.window ≤ s.evalStrobe →
    ∃ t, Goes (.forecastRetire n lead) s t ∧ (t.rail n).entry lead = none ∧
      (t.rail n).fcRet = satInc 32 (s.rail n).fcRet ∧
      (∀ k, e.slot = some k → k < s.hif.tags.length → (s.tag k).st = .applied → (s.tag k).discard = false →
        Ends t k stDONE 2) ∧
      RailsBut [n] s t ∧ PhasesBut (s.railPhases n) s t ∧ OnlyEnds s t ∧
      t = { s with rails := t.rails, phases := t.phases, hif := t.hif }

/-- R206, R188, R254: a rail that may turn on begins its soft-start from 0 mV toward the commanded voltage (byte 24, or
VBOOT where it is 0), with its follower; within the Brake's limits RAIL_ON stays in progress until the rail is good. -/
def railOn : Prop :=
  ∀ (s : State) (k : Nat), Served s k 0x0201 (some fRAIL) →
    let n := descIndex (s.tag k).desc
    let sp := descField (s.tag k).desc 24 2
    let target := if sp = 0 then s.railf n 0x80 0 16 else sp
    n < s.rails.length → s.isFollower n = false → (s.rail n).isOn = false → (s.rail n).seqTick ≠ some s.clk.tick →
    (s.rail n).shedTick ≠ some s.clk.tick → s.holdShed (s.rail n).shed = false → s.railOnCause n sp = none →
    target ≤ s.vmax n → s.railf n 0x84 16 16 ≤ s.slewMax n →
    ∃ t, Goes (.railOn k) s t ∧ (t.rail n).st = .softStart ∧ (t.rail n).vref = 0 ∧ (t.rail n).vtarget = target ∧
      (t.rail n).slew = s.railf n 0x84 16 16 ∧ (t.rail n).onSlot = some k ∧ (t.tag k).st = .applied ∧
      RailsBut (s.pairUnits n) s t ∧ OnlyEnds s t ∧
      t = { s with live := t.live, rails := t.rails, phases := t.phases, hif := t.hif, rcd := t.rcd, brake := t.brake }

/-- R324, R254: a rail that is on goes to TURN_OFF with its follower, and RAIL_OFF stays in progress until it is parked;
with DIS_EN clear it is parked at once. The sequencer runs no program here. -/
def railOff : Prop :=
  ∀ (s : State) (k : Nat), Served s k 0x0202 (some fRAIL) →
    let n := descIndex (s.tag k).desc
    n < s.rails.length → s.isFollower n = false → s.railTaken n = false → (s.rail n).isOn = true → s.seq.running = false →
    ∃ t, Goes (.railOff k) s t ∧ (t.rail n).st = (if s.protf n 0x20 0 1 = 1 then .turnOff else .off) ∧
      (t.rail n).good = false ∧ (t.rail n).pg = false ∧
      (t.tag k).st = (if s.protf n 0x20 0 1 = 1 then .applied else .decided) ∧
      RailsBut (s.pairUnits n) s t ∧ OnlyEnds s t ∧
      t = { s with rails := t.rails, phases := t.phases, hif := t.hif, rcd := t.rcd }

/-- R209–R214: a setpoint within R209 and the Brake's limits (R211) is the new target, for the follower too; it stays in
progress until the reference is there, and ends at once where it already is. Rate 0 stands for DEF_SLEW; until the rail is
first good no rate exceeds SS_SLEW (R208). -/
def railSetVoltage : Prop :=
  ∀ (s : State) (k : Nat), Served s k 0x0203 (some fRAIL) →
    let n := descIndex (s.tag k).desc
    let target := descField (s.tag k).desc 24 2
    let rate := descField (s.tag k).desc 26 2
    let want := if rate = 0 then s.railf n 0x84 0 16 else rate
    n < s.rails.length → s.isFollower n = false → s.railTaken n = false → (s.rail n).isOn = true →
    300 ≤ target → target ≤ 16000 → rate ≤ 500 → s.vmin n ≤ target → target ≤ s.vmax n → want ≤ s.slewMax n →
    ∃ t, Goes (.railSetVoltage k) s t ∧ (t.rail n).vtarget = target ∧ (t.rail n).vref = (s.rail n).vref ∧
      (t.rail n).slew = (if (s.rail n).wasGood then want else min want (s.railf n 0x84 16 16)) ∧
      (t.tag k).st = (if (s.rail n).vref = target then .decided else .applied) ∧
      RailsBut (s.pairUnits n) s t ∧ OnlyEnds s t ∧ t = { s with rails := t.rails, hif := t.hif, rcd := t.rcd }

/-- R622: RAIL_QUERY ends DONE with the rail's reference, state, active count, latch state and power-good, and changes
nothing else. -/
def railQuery : Prop :=
  ∀ (s : State) (k : Nat), Served s k 0x0204 (some fRAIL) →
    ∃ t, Goes (.railQuery k) s t ∧ Ends t k stDONE (s.railQueryWord (descIndex (s.tag k).desc)) ∧ OnlyEnds s t ∧
      t = { s with hif := t.hif }

/-- R222–R224: a forecast whose fields are in range is the rail's host entry, and stays in progress. The source holds no
entry before. -/
def forecastPost : Prop :=
  ∀ (s : State) (k : Nat), Served s k 0x0701 (some fRAIL) →
    let d := (s.tag k).desc
    let n := descIndex d
    let at' := (s.tag k).intakeAt
    let time := descField d 24 8
    let di := signedOf 32 (descField d 32 4)
    n < s.rails.length → s.railTaken n = false → (s.rail n).isOn = true → s.railf n 0x8C 24 1 = 1 →
    s.isFollower n = false → fcFieldsOk di (descField d 36 2) (descField d 38 2) = true → time ≤ at' + 100000000 →
    at' ≤ time + 1000 * descField d 38 2 → (s.rail n).fcHost = none →
    ∃ t, Goes (.forecastPost k) s t ∧
      t.rail n = { s.rail n with
        fcHost := some { t := time, di := di, rise := descField d 36 2, window := descField d 38 2, slot := some k } } ∧
      (t.tag k).st = .applied ∧ RailsBut [n] s t ∧ OnlyEnds s t ∧ t = { s with rails := t.rails, hif := t.hif }

/-- R239: the host entry goes, and its FORECAST_POST ends DONE with RESULT 3; FORECAST_CANCEL ends DONE. -/
def forecastCancel : Prop :=
  ∀ (s : State) (k : Nat), Served s k 0x0702 (some fRAIL) →
    let n := descIndex (s.tag k).desc
    n < s.rails.length → (∀ e, (s.rail n).fcHost = some e → e.slot ≠ some k) → (∀ p ∈ s.hif.repeats, p.2 ≠ k) →
    ∃ t, Goes (.forecastCancel k) s t ∧ (t.rail n).fcHost = none ∧ (t.rail n).fcLead = (s.rail n).fcLead ∧
      Ends t k stDONE 0 ∧ RailsBut [n] s t ∧ PhasesBut (s.railPhases n) s t ∧ OnlyEnds s t ∧
      t = { s with rails := t.rails, phases := t.phases, hif := t.hif }

/-! ### Rail protection and turn-off (spec/08) -/

/-- Whether a fault action latches the rail (R311, R315, R325): an action LATCH, a power-down program that holds or
discharges it, or the retries used up. -/
def FaultLatches (s : State) (n : Nat) : Bool :=
  (s.rail n).byDown || (s.railDue n).any (fun c => s.causeAction n c == 0) ||
    decide (s.protf (s.leadOf n) 0x1C 0 4 ≤ (s.rail (s.leadOf n)).retries)

/-- R311, R312, R315: a UV, OC or OT timer at its set value turns the rail off (its pair with it), which then waits for a
retry or is latched. The sequencer runs no program here. -/
def railFault : Prop :=
  ∀ (s : State) (n : Nat), n < s.rails.length → ((s.railDue n).any fun c => c = 1 ∨ c = 2 ∨ c = 3) = true →
    s.seq.running = false →
    ∃ t, Goes (.railFault n) s t ∧ (t.rail n).isOn = false ∧ (t.rail n).actTick = some s.clk.tick ∧
      (t.rail n).lstate = (if FaultLatches s n then .latched else .retryWait) ∧ RailsBut (s.pairUnits n) s t ∧
      OnlyEnds s t ∧ t = { s with rails := t.rails, phases := t.phases, hif := t.hif, rcd := t.rcd }

/-- R319: the short at start turns the rail off at once, without discharge, unless a power-down program has it. -/
def ssShort : Prop :=
  ∀ (s : State) (n : Nat), n < s.rails.length → (s.railDue n).contains 5 = true → s.seq.running = false →
    ∃ t, Goes (.ssShort n) s t ∧ (t.rail n).isOn = false ∧ ((s.rail n).byDown = false → (t.rail n).st = .off) ∧
      (t.rail n).lstate = (if FaultLatches s n then .latched else .retryWait) ∧ RailsBut (s.pairUnits n) s t ∧
      OnlyEnds s t ∧ t = { s with rails := t.rails, phases := t.phases, hif := t.hif, rcd := t.rcd }

/-- R309: the phase is latched off, its pin at mid, and it leaves the rail's count. More free phases than MIN_PH stay. -/
def phaseLatch : Prop :=
  ∀ (s : State) (m : Nat), m < s.phases.length →
    let n := (s.phase m).owner
    n < 16 → n < s.rails.length → s.tdm.st ≠ .shadow → (s.phase m).latched = false → (s.rail n).st ≠ .off →
    s.protf n 0x14 8 4 ≤ (s.phase m).fltRun → s.protf n 0x14 12 4 < (s.freePhases n).length →
    ∃ t, Goes (.phaseLatch m) s t ∧ (t.phase m).latched = true ∧ (t.phase m).drive = .mid ∧
      (t.rail n).active ≤ (s.rail n).active ∧ RailsBut [n] s t ∧ PhasesBut (s.railPhases n) s t ∧
      t = { s with rails := t.rails, phases := t.phases, rcd := t.rcd }

/-- R306: above the committed level the rail is crowbarred: every phase's low side on, its hold started, and the crowbar
counted. The sequencer runs no program here. -/
def ovCrowbar : Prop :=
  ∀ (s : State) (n peakMv time : Nat), n < s.rails.length → (s.rail n).st ≠ .off → (s.rail n).crowbar = false →
    s.ovLevel n < peakMv → s.seq.running = false →
    ∃ t, Goes (.ovCrowbar n peakMv time) s t ∧ (t.rail n).crowbar = true ∧ (t.rail n).st = .turnOff ∧
      (t.rail n).crowbarLeft = framesMs (s.protf n 0 16 8) ∧
      (∀ m ∈ s.railPhases n, m < s.phases.length → (t.phase m).drive = .low ∧ (t.phase m).rot = false) ∧
      t.rcd.crowbars = satInc 32 s.rcd.crowbars ∧ RailsBut (s.pairUnits n) s t ∧ OnlyEnds s t ∧
      t = { s with rails := t.rails, phases := t.phases, hif := t.hif, rcd := t.rcd }

/-- R307: after the hold, at or below 10 % of the level, the crowbar releases: the rail is parked and latched off. -/
def crowbarHoldEnd : Prop :=
  ∀ (s : State) (n : Nat), n < s.rails.length → (s.rail n).crowbar = true → (s.rail n).crowbarLeft = 0 →
    10 * ((s.rail n).mv : Rat) ≤ (s.rail n).crowbarLvl →
    ∃ t, Goes (.crowbarHoldEnd n) s t ∧ (t.rail n).crowbar = false ∧ (t.rail n).st = .off ∧ (t.rail n).lstate = .latched ∧
      (∀ m ∈ s.railPhases n, m < s.phases.length → (t.phase m).drive = .mid) ∧ RailsBut [n] s t ∧
      PhasesBut (s.railPhases n) s t ∧ OnlyEnds s t ∧ t = { s with rails := t.rails, phases := t.phases, hif := t.hif }

/-- R314, R315: the retry counts, and the rail soft-starts again. -/
def railRetry : Prop :=
  ∀ (s : State) (n : Nat), n < s.rails.length → (s.rail n).lstate = .retryWait → (s.rail n).retryWait = 0 →
    ((s.rail n).retryOt = false ∨ s.tdieNow < 16 * (s.protf n 0x10 0 8 : Int)) → s.brake.inFloor = false →
    s.isFollower n = false → s.holdShed (s.rail n).shed = false →
    ∃ t, Goes (.railRetry n) s t ∧ (t.rail n).st = .softStart ∧ (t.rail n).lstate = .none ∧
      (t.rail n).retries = (s.rail n).retries + 1 ∧ RailsBut (s.pairUnits n) s t ∧ OnlyEnds s t ∧
      t = { s with live := t.live, rails := t.rails, phases := t.phases, hif := t.hif, rcd := t.rcd, brake := t.brake }

/-- R317: good for 100 epochs, the rail's retry count is 0 again. -/
def retryCountReset : Prop :=
  ∀ (s : State) (n : Nat), n < s.rails.length → 10000 ≤ (s.rail n).goodRun →
    ∃ t, Goes (.retryCountReset n) s t ∧ t.rail n = { s.rail n with retries := 0 } ∧ RailsBut [n] s t ∧
      t = { s with rails := t.rails }

/-- R322, R323: at or below 10 % of its last setpoint the rail is parked: off, reference 0, every phase at mid. -/
def dischargeEnd : Prop :=
  ∀ (s : State) (n : Nat), n < s.rails.length → (s.rail n).st = .turnOff → (s.rail n).discharging = true →
    10 * ((s.rail n).mv : Rat) ≤ (s.rail n).offVref →
    ∃ t, Goes (.dischargeEnd n) s t ∧ (t.rail n).st = .off ∧ (t.rail n).vref = 0 ∧
      (∀ m ∈ s.railPhases n, m < s.phases.length → (t.phase m).drive = .mid) ∧ RailsBut [n] s t ∧
      PhasesBut (s.railPhases n) s t ∧ OnlyEnds s t ∧ t = { s with rails := t.rails, phases := t.phases, hif := t.hif }

/-- R322, R326: a discharge that has not ended in DIS_TMO frames is recorded, and the rail is parked all the same. No
power-down program turned it off. -/
def dischargeTimeout : Prop :=
  ∀ (s : State) (n : Nat), n < s.rails.length → (s.rail n).st = .turnOff → (s.rail n).discharging = true →
    (s.rail n).offVref < 10 * ((s.rail n).mv : Rat) → s.protf n 0x20 16 16 ≤ (s.rail n).disCnt →
    (s.rail n).disByDown = false →
    ∃ t, Goes (.dischargeTimeout n) s t ∧ (t.rail n).st = .off ∧ (t.rail n).vref = 0 ∧
      (∀ m ∈ s.railPhases n, m < s.phases.length → (t.phase m).drive = .mid) ∧ RailsBut [n] s t ∧
      PhasesBut (s.railPhases n) s t ∧ OnlyEnds s t ∧
      t = { s with rails := t.rails, phases := t.phases, hif := t.hif, rcd := t.rcd }

/-- R328: RAIL_CLEAR unlatches every phase of its mask whose fault pin is clear; on a rail that is not on it clears every
latched cause whose condition is gone and the retry count, and its RESULT gives the causes cleared and kept. -/
def railClear : Prop :=
  ∀ (s : State) (k : Nat), Served s k 0x0205 (some fRAIL) →
    let n := descIndex (s.tag k).desc
    let pm := descField (s.tag k).desc 24 4
    n < s.rails.length → (s.rail n).actTick ≠ some s.clk.tick →
    ((bitsOf 32 pm).any fun m => (s.phase m).owner != n) = false →
    ∃ t, Goes (.railClear k) s t ∧
      (∀ m ∈ bitsOf 32 pm, m < s.phases.length → (t.phase m).latched = ((s.phase m).latched && (s.phase m).flt)) ∧
      ((s.rail n).isOn = false →
        let c := (s.rail n).causes.toNat
        let gone := maskOf ((bitsOf 8 c).filter fun b => ({ s with phases := t.phases } : State).causeGone n b)
        (t.rail n).retries = 0 ∧ (t.rail n).causes = BitVec.ofNat 8 (c - gone) ∧ Ends t k stDONE (gone + 256 * (c - gone)) ∧
        (c = gone → (s.rail n).crowbar = false → (t.rail n).lstate = .none)) ∧
      RailsBut [n, s.leadOf n] s t ∧ PhasesBut (bitsOf 32 pm ++ s.railPhases n) s t ∧ OnlyEnds s t ∧
      t = { s with rails := t.rails, phases := t.phases, hif := t.hif, rcd := t.rcd }

/-! ### Output switches (spec/09) -/

/-- R341, R342: with the ramp's target at V_bus and the source at 98 % of it, the channel is ON and its gate fully enhanced;
the good condition is judged at once. -/
def rampComplete : Prop :=
  ∀ (s : State) (n : Nat), n < s.sws.length → s.rampReady n = true →
    ∃ t, Goes (.rampComplete n) s t ∧ (t.sw n).st = .on ∧ (t.sw n).gateOn = true ∧
      (t.sw n).good = ((s.sw n).pumpOk && !(s.sw n).limit &&
        !((s.sw n).fTimer == 1 && (s.sw n).fStart == s.clk.tick) && !s.brake.inFloor) ∧
      SwsBut [n] s t ∧ OnlyEnds s t ∧ t = { s with sws := t.sws, hif := t.hif }

/-- What a trip leaves (R359–R361, R364): the gate at source, the channel waiting for its retry or, with RETRY_LIM used up,
latched; the trip counted, its causes set, and only this channel changed. -/
def Tripped (s t : State) (n bit : Nat) : Prop :=
  (t.sw n).st = (if s.swf n 0x14 0 4 ≤ (s.sw n).retries then .latched else .retryWait) ∧ (t.sw n).gateOn = false ∧
  (t.sw n).good = false ∧ (t.sw n).tripCnt = satInc 32 (s.sw n).tripCnt ∧
  (t.sw n).cause = (s.sw n).cause ||| BitVec.ofNat 8 (s.swDue n ||| bit) ∧ (t.sw n).actTick = some s.clk.tick ∧
  SwsBut [n] s t ∧ OnlyEnds s t ∧ t = { s with sws := t.sws, hif := t.hif, rcd := t.rcd }

/-- R341: RAMP_TMO frames without the ramp completing trip the channel. In this and the next five claims the channel is not
one a standby holds, and the sequencer runs no program. -/
def rampTimeout : Prop :=
  ∀ (s : State) (n : Nat), n < s.sws.length → s.rampLate n = true → s.brake.inFloor = false →
    (s.sw n).stbyHold = false → s.seq.running = false →
    ∃ t, Goes (.rampTimeout n) s t ∧ Tripped s t n 16

/-- R349: a current above SHORT_TH with the gate above source trips the channel, and the short is counted. -/
def switchShort : Prop :=
  ∀ (s : State) (n : Nat) (ma : Int) (time : Nat), n < s.sws.length → (s.sw n).gateOn = true →
    100 * (s.swf n 8 16 16 : Int) < ma → (s.sw n).stbyHold = false → s.seq.running = false →
    ∃ t, Goes (.switchShort n ma time) s t ∧ Tripped s t n 1 ∧ t.rcd.shorts = satInc 32 s.rcd.shorts

/-- R350: the fault timer at FLT_TMR trips the channel. -/
def swFaultTimerExpiry : Prop :=
  ∀ (s : State) (n : Nat), n < s.sws.length → s.swTimerDue n = true → s.brake.inFloor = false →
    (s.sw n).stbyHold = false → s.seq.running = false →
    ∃ t, Goes (.swFaultTimerExpiry n) s t ∧ Tripped s t n 2

/-- R358: a gate below 7 V in two sample sets trips the channel, unless an active yields for it (R534). -/
def swPumpTrip : Prop :=
  ∀ (s : State) (n : Nat), n < s.sws.length → s.swPumpDue n = true → s.brake.inFloor = false →
    (s.canYield && (s.sw n).cls == .s) = false → (s.sw n).stbyHold = false → s.seq.running = false →
    ∃ t, Goes (.swPumpTrip n) s t ∧ Tripped s t n 32

/-- R738: an accumulator at the I²t bound trips the channel, the safe floor included. -/
def brakeI2tTrip : Prop :=
  ∀ (s : State) (n : Nat), n < s.sws.length → s.swI2tDue n = true → (s.sw n).stbyHold = false → s.seq.running = false →
    ∃ t, Goes (.brakeI2tTrip n) s t ∧ Tripped s t n 8

/-- R362, R363: after its wait, below T_RESTART, the channel ramps again and the retry counts; one that needs a seat and
has none goes to UNSEATED, or to OFF where RESEAT_ON is clear. -/
def swRetry : Prop :=
  (∀ (s : State) (n : Nat), n < s.sws.length → (s.sw n).st = .retryWait → (s.sw n).retryLeft = 0 →
    (s.sw n).tj < s.swLev n 24 → s.brake.inFloor = false → s.holdShed (s.sw n).shed = false →
    ¬(s.swf n 0 6 1 = 1 ∧ (s.sw n).seated = false) →
    ∃ t, Goes (.swRetry n) s t ∧ (t.sw n).st = .ramp ∧ (t.sw n).retries = (s.sw n).retries + 1 ∧
      (t.sw n).isRetry = true ∧ (t.sw n).pump = true ∧ SwsBut [n] s t ∧ OnlyEnds s t ∧
      t = { s with sws := t.sws, hif := t.hif, rcd := t.rcd }) ∧
  (∀ (s : State) (n : Nat), n < s.sws.length → (s.sw n).st = .retryWait → (s.sw n).retryLeft = 0 →
    (s.sw n).tj < s.swLev n 24 → s.brake.inFloor = false → s.holdShed (s.sw n).shed = false →
    s.swf n 0 6 1 = 1 → (s.sw n).seated = false →
    ∃ t, Goes (.swRetry n) s t ∧
      t.sw n = { s.sw n with st := if s.swf n 0 7 1 = 1 then .unseated else .off } ∧ SwsBut [n] s t ∧
      t = { s with sws := t.sws })

/-- R365: good for 100 epochs, the channel's retry count and causes are 0 again. -/
def swRetryCountReset : Prop :=
  ∀ (s : State) (n : Nat), n < s.sws.length → 10000 ≤ (s.sw n).goodRun →
    ∃ t, Goes (.swRetryCountReset n) s t ∧ t.sw n = { s.sw n with retries := 0, cause := 0 } ∧ SwsBut [n] s t ∧
      t = { s with sws := t.sws }

/-- R345, R347: a pin low long enough seats the channel; one that waits UNSEATED turns on. -/
def seatQualified : Prop :=
  ∀ (s : State) (n : Nat), n < s.sws.length → n < s.sys.variant.sws → (s.sw n).seated = false →
    s.swf n 0 8 4 ≤ (s.sw n).seatLow → (s.sw n).seatHigh = 0 → s.holdShed (s.sw n).shed = false → s.brake.inFloor = false →
    ∃ t, Goes (.seatQualified n) s t ∧ (t.sw n).seated = true ∧
      (t.sw n).st = (if (s.sw n).st = .unseated then .ramp else (s.sw n).st) ∧ SwsBut [n] s t ∧ OnlyEnds s t ∧
      t = { s with sws := t.sws, hif := t.hif, rcd := t.rcd }

/-- R345, R346: a pin high long enough unseats the channel; one that is on with SEAT_EN set goes off at once, to UNSEATED
where RESEAT_ON is set. -/
def seatLoss : Prop :=
  ∀ (s : State) (n : Nat), n < s.sws.length → n < s.sys.variant.sws → (s.sw n).seated = true →
    s.swf n 0 12 4 ≤ (s.sw n).seatHigh → (s.sw n).stbyHold = false → s.seq.running = false →
    ∃ t, Goes (.seatLoss n) s t ∧ (t.sw n).seated = false ∧
      (s.swf n 0 6 1 = 1 → (s.sw n).st = .on ∨ (s.sw n).st = .ramp →
        (t.sw n).st = (if s.swf n 0 7 1 = 1 then .unseated else .off) ∧ (t.sw n).gateOn = false) ∧
      (s.swf n 0 6 1 ≠ 1 → (t.sw n).st = (s.sw n).st) ∧ SwsBut [n] s t ∧ OnlyEnds s t ∧
      t = { s with sws := t.sws, hif := t.hif, rcd := t.rcd }

/-- R338, R339: with every check of R338 met, a channel that is off begins its turn-on: RAMP, its pump running; SW_ON stays
in progress. -/
def swOn : Prop :=
  ∀ (s : State) (k : Nat), Served s k 0x0301 (some fSW) →
    let n := descIndex (s.tag k).desc
    n < s.sws.length → (s.sw n).st ≠ .on → (s.sw n).st ≠ .ramp → (s.sw n).seqTick ≠ some s.clk.tick →
    (s.sw n).shedTick ≠ some s.clk.tick → s.holdShed (s.sw n).shed = false → s.swCheck n = none →
    ∃ t, Goes (.swOn k) s t ∧ (t.sw n).st = .ramp ∧ (t.sw n).pump = true ∧ (t.sw n).onSlots = [k] ∧
      (t.sw n).turnTick = s.clk.tick ∧ (t.tag k).st = .applied ∧ SwsBut [n] s t ∧ OnlyEnds s t ∧
      t = { s with sws := t.sws, hif := t.hif }

/-- R344: a channel in RAMP or ON goes OFF with its gate at source, one that waits for a retry or a seat goes OFF; SW_OFF
ends at once where the source is already low, and is in progress until it is. The sequencer runs no program here. -/
def swOff : Prop :=
  ∀ (s : State) (k : Nat), Served s k 0x0302 (some fSW) →
    let n := descIndex (s.tag k).desc
    n < s.sws.length → s.swTaken n = false → (s.sw n).st ≠ .latched → s.seq.running = false →
    ∃ t, Goes (.swOff k) s t ∧ (t.sw n).st = .off ∧
      ((s.sw n).st = .on ∨ (s.sw n).st = .ramp → (t.sw n).gateOn = false) ∧
      (t.tag k).st = (if (s.sw n).gateLow then .decided else .applied) ∧ SwsBut [n] s t ∧ OnlyEnds s t ∧
      t = { s with sws := t.sws, hif := t.hif }

/-- R366: SW_CLEAR of a latched or waiting channel clears its causes and retry count, but for LIMIT and MODEL_OT while the
junction is at or above T_RESTART; RESULT gives the causes cleared and kept. -/
def swClear : Prop :=
  ∀ (s : State) (k : Nat), Served s k 0x0303 (some fSW) →
    let n := descIndex (s.tag k).desc
    let kept := if s.swLev n 24 ≤ (s.sw n).tj then (s.sw n).cause.toNat &&& 6 else 0
    n < s.sws.length → (s.sw n).actTick ≠ some s.clk.tick →
    ∃ t, Goes (.swClear k) s t ∧ (t.sw n).cause = BitVec.ofNat 8 kept ∧ (t.sw n).retries = 0 ∧
      ((s.sw n).st = .latched ∨ (s.sw n).st = .retryWait → (t.sw n).st = (if kept ≠ 0 then .latched else .off)) ∧
      Ends t k stDONE ((s.sw n).cause.toNat - kept + 256 * kept) ∧ SwsBut [n] s t ∧ OnlyEnds s t ∧
      t = { s with sws := t.sws, hif := t.hif, rcd := t.rcd }

/-! ### Sequencer, SYNC, supervision outputs and push-button (spec/10) -/

/-- R385, R386, R390: a qualified step is followed by the next one, whose action is done in this frame where its own check
passes; after the last step the program ends, completed where no step of it failed. -/
def stepQualified : Prop :=
  (∀ (s : State), s.stepMet = true → s.floorNow = false →
    s.seq.step + 1 < progCount s.cfg.seqSect s.seq.prog →
    s.stepCheck (progStep s.cfg.seqSect s.seq.prog (s.seq.step + 1)) = none →
    ∃ t, Goes .stepQualified s t ∧ t.seq.step = s.seq.step + 1 ∧ t.seq.stepTick = s.clk.tick ∧ t.seq.qcount = 0 ∧
      t.seq.running = true ∧ t.seq.prog = s.seq.prog ∧ OnlyEnds s t ∧
      t = { s with
        live := t.live, rails := t.rails, phases := t.phases, sws := t.sws, seq := t.seq, hif := t.hif, dray := t.dray
        rcd := t.rcd, brake := t.brake }) ∧
  (∀ (s : State), s.stepMet = true → s.floorNow = false →
    progCount s.cfg.seqSect s.seq.prog ≤ s.seq.step + 1 →
    ∃ t, Goes .stepQualified s t ∧ t.seq.running = false ∧
      t.seq.lastOutcome = (if s.seq.firstCause = 0 then 0 else 2) ∧ t.seq.lastCause = s.seq.firstCause ∧
      t.seq.lastStep = s.seq.step ∧ t.seq.lastProg = s.seq.prog ∧ OnlyEnds s t ∧
      t = { s with rails := t.rails, sws := t.sws, seq := t.seq, hif := t.hif, rcd := t.rcd })

/-- R387–R389, R394: an unmet timeout fails a power-up program with cause 1; a power-down program keeps its first cause and
goes on with its next step. -/
def stepTimeout : Prop :=
  (∀ (s : State), s.stepLate = true → s.floorNow = false → s.seq.down = false →
    ∃ t, Goes .stepTimeout s t ∧ t.seq.running = false ∧ t.seq.lastOutcome = 1 ∧ t.seq.lastCause = 1 ∧
      t.seq.lastStep = s.seq.step ∧ t.seq.failSrc = true ∧ OnlyEnds s t ∧
      t = { s with rails := t.rails, phases := t.phases, sws := t.sws, seq := t.seq, hif := t.hif, rcd := t.rcd }) ∧
  (∀ (s : State), s.stepLate = true → s.floorNow = false → s.seq.down = true →
    s.seq.step + 1 < progCount s.cfg.seqSect s.seq.prog →
    s.stepCheck (progStep s.cfg.seqSect s.seq.prog (s.seq.step + 1)) = none →
    ∃ t, Goes .stepTimeout s t ∧ t.seq.running = true ∧ t.seq.step = s.seq.step + 1 ∧
      t.seq.firstCause = (if s.seq.firstCause = 0 then 1 else s.seq.firstCause) ∧ OnlyEnds s t ∧
      t = { s with
        live := t.live, rails := t.rails, phases := t.phases, sws := t.sws, seq := t.seq, hif := t.hif, dray := t.dray
        rcd := t.rcd, brake := t.brake })

/-- R399, R400: a participant ready for the next state lets SYNC go. -/
def syncRelease : Prop :=
  ∀ (s : State), s.seq.syncDriving = true → s.syncReady = true → s.seq.homePulse = false → s.seq.abortBurst = false →
    ∃ t, Goes .syncRelease s t ∧ t = { s with seq.syncDriving := false, seq.syncGap := false }

/-- R400, R401: a holding participant refreshes its hold by a gap. -/
def syncRefresh : Prop :=
  ∀ (s : State), s.seq.syncDriving = true → s.syncReady = false →
    ∃ t, Goes .syncRefresh s t ∧ t = { s with seq.syncDriving := false, seq.syncGap := true }

/-- R401, R402: a low of at most 150 µs is a hold segment; at its end a participant in its gap pulls low again. -/
def holdSegmentEnd : Prop :=
  ∀ (s : State) (lowUs : Nat), lowUs ≤ 150 →
    ∃ t, Goes (.holdSegmentEnd lowUs) s t ∧
      t = { s with
        seq.syncHoldSeen := true
        seq.syncDriving := if s.seq.syncGap then s.participant && !s.syncReady else s.seq.syncDriving
        seq.syncGap := false }

/-- R400, R404: the line high for 20 µs after a hold segment advances SYNC_COUNT, to 31 at most, and every participant
claims the line. -/
def syncAdvance : Prop :=
  ∀ (s : State), s.seq.syncHoldSeen = true → s.seq.syncDriving = false →
    ∃ t, Goes .syncAdvance s t ∧ t.seq.syncCount = (if s.seq.syncCount = 31 then 31 else s.seq.syncCount + 1) ∧
      t.seq.syncEvent = 1 ∧ t.seq.syncDriving = s.participant ∧ t = { s with seq := t.seq, rcd := t.rcd }

/-- R402: a low of 200 µs to 1,000 µs is a home pulse: SYNC_COUNT is 0. -/
def syncHome : Prop :=
  ∀ (s : State) (lowUs : Nat), 200 ≤ lowUs → lowUs ≤ 1000 →
    ∃ t, Goes (.syncHome lowUs) s t ∧ t.seq = { s.seq with syncCount := 0, syncEvent := 2, syncHoldSeen := false } ∧
      t = { s with seq := t.seq, rcd := t.rcd }

/-- R402: a low between the ranges of the table is invalid, and SYNC_COUNT stays. -/
def syncInvalid : Prop :=
  ∀ (s : State) (lowUs : Nat), (150 < lowUs ∧ lowUs < 200) ∨ (1000 < lowUs ∧ lowUs < 2000) →
    ∃ t, Goes (.syncInvalid lowUs) s t ∧ t.seq = { s.seq with syncEvent := 4, syncHoldSeen := false } ∧
      t = { s with seq := t.seq, rcd := t.rcd }

/-- R397, R402: an abort burst sets SYNC_COUNT to 0 and the source of R411, and outside the safe floor runs the off
sequence: no power-up program runs on. -/
def syncAbortBurst : Prop :=
  ∀ (s : State),
    ∃ t, Goes .syncAbortBurst s t ∧ t.seq.syncCount = 0 ∧ t.seq.syncEvent = 3 ∧ t.seq.abortSrc = true ∧
      (s.brake.inFloor = false → s.seqBusyDown = false → t.seq.running = false) ∧ OnlyEnds s t ∧
      t = { s with rails := t.rails, phases := t.phases, sws := t.sws, seq := t.seq, hif := t.hif, rcd := t.rcd }

/-- R403: the leader's home pulse ends: SYNC_COUNT is 0 and the HOME step is done. -/
def homePulseEnd : Prop :=
  ∀ (s : State), s.seq.homePulse = true →
    ∃ t, Goes .homePulseEnd s t ∧ t.seq.homePulse = false ∧ t.seq.homeDone = true ∧ t.seq.syncCount = 0 ∧
      t = { s with seq := t.seq }

/-- R408: the conditions held for PG_DELAY epochs release PGOOD. -/
def pgoodRelease : Prop :=
  ∀ (s : State), s.seq.pgood = false → s.pgoodCond = true → 100 * s.cfgf 0x5028 8 8 ≤ s.seq.pgRun →
    ∃ t, Goes .pgoodRelease s t ∧ t.seq.pgood = true ∧ t = { s with seq := t.seq, rcd := t.rcd }

/-- R414, R412: MR_N low for 100 frames drives every enabled reset output low. -/
def mrNAssert : Prop :=
  ∀ (s : State), s.seq.mrSource = false → 100 ≤ s.seq.mrLow →
    ∃ t, Goes .mrNAssert s t ∧ t.seq.mrSource = true ∧
      t.seq.rstoLow &&& BitVec.ofNat 4 (s.cfgf 0x5040 0 4) = BitVec.ofNat 4 (s.cfgf 0x5040 0 4) ∧
      t = { s with seq := t.seq, rcd := t.rcd }

/-- R414: MR_N high for its time ends the source. -/
def mrNEnd : Prop :=
  ∀ (s : State), s.seq.mrSource = true → 100 + framesMs (s.cfgf 0x5040 16 16) ≤ s.seq.mrHigh →
    ∃ t, Goes .mrNEnd s t ∧ t.seq.mrSource = false ∧ t = { s with seq := t.seq, rcd := t.rcd }

/-- R415: a press of at least 16 ms, shorter than a long one, is counted. -/
def pbPress : Prop :=
  ∀ (s : State) (ms : Nat), s.asleep = false → 16 ≤ ms → ms < 1000 * s.cfgf 0x5048 4 4 →
    ∃ t, Goes (.pbPress ms) s t ∧ t.seq = { s.seq with presses := satInc 16 s.seq.presses, pbPressed := false } ∧
      t = { s with seq := t.seq, rcd := t.rcd }

/-- R397, R416: a long press forces the shelf off: in the safe floor, and with no OFF_PROG, every rail is off. -/
def longPress : Prop :=
  ∀ (s : State) (ms : Nat), s.asleep = false → s.cfgb 0x5048 0 = true → 1000 * s.cfgf 0x5048 4 4 ≤ ms →
    ∃ t, Goes (.longPress ms) s t ∧ t.seq.forcedOff = true ∧ t.seq.abortSrc = true ∧
      (s.brake.inFloor = true ∨ (s.seqBusyDown = false ∧ s.cfg.offProg = 0xFF) →
        ∀ n ∈ s.railIdx, (t.rail n).isOn = false) ∧ OnlyEnds s t ∧
      t = { s with rails := t.rails, phases := t.phases, sws := t.sws, seq := t.seq, hif := t.hif, rcd := t.rcd }

/-- R623: a reset pulse that has run its width ends, and its SEQ_RESET_PULSE ends DONE with its mask. -/
def resetPulseEnd : Prop :=
  ∀ (s : State) (k : Nat) (p : Nat × BitVec 4 × Nat),
    (s.seq.pulses.find? fun p => p.1 == k && decide (p.2.2 ≤ s.clk.tick)) = some p → k < s.hif.tags.length →
    (s.tag k).st = .applied → (s.tag k).discard = false →
    ∃ t, Goes (.resetPulseEnd k) s t ∧ t.seq.pulses = s.seq.pulses.filter (fun q => q.1 != k) ∧
      Ends t k stDONE p.2.1.toNat ∧ OnlyEnds s t ∧ t = { s with seq := t.seq, hif := t.hif }

/-- R384, R391, R392: an existing program is asked for, to start in the next frame; the program that counts as running is
replaced, unless it is a power-down program. -/
def seqRun : Prop :=
  ∀ (s : State) (k : Nat), Served s k 0x0401 (some fSEQ) →
    let d := (s.tag k).desc
    s.repeatOf 0x0401 (descField d 24 2) (descIndex d) = none → s.progExists (descIndex d) = true → s.seqBusyDown = false →
    ∃ t, Goes (.seqRun k) s t ∧ t.seq.start = some (descIndex d, 0, some k, s.clk.tick) ∧ t.seq.running = false ∧
      t.seq.forcedOff = false ∧ (t.tag k).st = .applied ∧ OnlyEnds s t ∧
      t = { s with rails := t.rails, sws := t.sws, seq := t.seq, hif := t.hif, rcd := t.rcd }

/-- R392, R390: SEQ_ABORT stops the power-up program that counts as running, and ends DONE with its number, or 0xFF where
none runs. -/
def seqAbort : Prop :=
  ∀ (s : State) (k : Nat), Served s k 0x0402 (some fSEQ) → s.seqBusyDown = false → s.seq.start = none →
    k ∉ s.seq.runSlots → (∀ p ∈ s.hif.repeats, p.2 ≠ k) →
    ∃ t, Goes (.seqAbort k) s t ∧ t.seq.running = false ∧ (s.seq.running = true → t.seq.lastOutcome = 4) ∧
      Ends t k stDONE (if s.seq.running then s.seq.prog else 0xFF) ∧ OnlyEnds s t ∧
      t = { s with rails := t.rails, sws := t.sws, seq := t.seq, hif := t.hif, rcd := t.rcd }

/-- R412, R623: the outputs of the mask are low from now, until the width has passed. -/
def seqResetPulse : Prop :=
  ∀ (s : State) (k : Nat), Served s k 0x0403 (some fSEQ) →
    let d := (s.tag k).desc
    let mask := descField d 24 1 % 16
    let width := descField d 26 2
    s.repeatOf 0x0403 (descField d 28 2) 0 = none → mask ≠ 0 → width ≠ 0 → width ≤ 10000 →
    ∃ t, Goes (.seqResetPulse k) s t ∧
      t.seq.pulses = s.seq.pulses ++ [(k, BitVec.ofNat 4 mask, s.clk.tick + framesMs width)] ∧
      t.seq.rstoLow &&& BitVec.ofNat 4 mask = BitVec.ofNat 4 mask ∧ (t.tag k).st = .applied ∧ OnlyEnds s t ∧
      t = { s with seq := t.seq, hif := t.hif }

/-- R411: SEQ_FAULT_ACK clears the sources of a failed program and of an abort, and says which were set. -/
def seqFaultAck : Prop :=
  ∀ (s : State) (k : Nat), Served s k 0x0404 (some fSEQ) →
    ∃ t, Goes (.seqFaultAck k) s t ∧ t.seq = { s.seq with failSrc := false, abortSrc := false } ∧
      Ends t k stDONE ((if s.seq.failSrc then 16 else 0) + (if s.seq.abortSrc then 256 else 0)) ∧ OnlyEnds s t ∧
      t = { s with seq := t.seq, hif := t.hif }

/-! ### Feed, backup battery path, charging and the search (spec/11) -/

/-- R429, R431: a loss that the field die's comparator reports opens the feed's gate at once and waits for the next frame's
work, with its cause, voltage and time. -/
def feedLoss : Prop :=
  ∀ (s : State) (cause feedMv time : Nat), s.sys.variant.hasPath = true →
    (s.path.st = .feed ∨ s.path.st = .handback) → s.path.lossPend = none →
    (cause = 1 ∧ feedMv < s.cfgf 0x6004 0 16) ∨ cause = 2 ∨ (cause = 3 ∧ s.cfgf 0x6004 16 16 < feedMv) →
    ∃ t, Goes (.feedLoss cause feedMv time) s t ∧ t.path.lossPend = some (cause, feedMv, time) ∧
      t.path.feedGate = false ∧ t.path.lossTick = s.clk.tick ∧ t.path.searching = false ∧ OnlyEnds s t ∧
      t = { s with path := t.path, gauge := t.gauge, hif := t.hif, rcd := t.rcd, maint := t.maint }

/-- R431: where a hand-over follows, the converter boosts. -/
def converterBoost : Prop :=
  ∀ (s : State), s.path.hoOk = true → (s.path.lossPend.isSome = true ∨ s.path.st = .handover) → s.hasConv = true →
    ∃ t, Goes .converterBoost s t ∧ t.path = { s.path with conv := .boost } ∧ t = { s with path := t.path, rcd := t.rcd }

/-- R433: the bus in its band for 10 frames, or 200 frames after the loss, ends the hand-over in HOLDUP; the second way has
the shortfall reported. -/
def handoverEnd : Prop :=
  ∀ (s : State), s.path.st = .handover → (10 ≤ s.path.inBand ∨ s.path.lossTick + 200 ≤ s.clk.tick) →
    ∃ t, Goes .handoverEnd s t ∧ t.path.st = .holdup ∧
      t.path.shortfall = (if 10 ≤ s.path.inBand then s.path.shortfall else true) ∧
      t.path.fault = (if 10 ≤ s.path.inBand then s.path.fault else setBit s.path.fault 5) ∧
      t = { s with path := t.path, rcd := t.rcd }

/-- R448, R449: a feed that has qualified supplies the bus again: from NO_FEED at once, from HOLDUP by a hand-back that
ramps the converter down. -/
def feedQualified : Prop :=
  (∀ (s : State), framesMs (s.cfgf 0x6008 0 16) ≤ s.path.qual → s.path.st = .noFeed →
    ∃ t, Goes .feedQualified s t ∧ t.path.st = .feed ∧ t.path.feedGate = true ∧ t.path.shortfall = false ∧ OnlyEnds s t ∧
      t = { s with
        path := t.path, gauge := t.gauge, hif := t.hif, rcd := t.rcd, brake := t.brake, maint := t.maint }) ∧
  (∀ (s : State), framesMs (s.cfgf 0x6008 0 16) ≤ s.path.qual → s.path.st = .holdup →
    ∃ t, Goes .feedQualified s t ∧ t.path.st = .handback ∧ t.path.feedGate = true ∧ t.path.hbTick = s.clk.tick ∧
      t.path.conv = (if s.hasConv then .rampDown else .none) ∧ t = { s with path := t.path, rcd := t.rcd })

/-- R449, R451: at the end of the hand-back the path is in FEED, no load counts as shed, and with RESTORE set the loads
shed wait to be restored, class E before class S in reverse order. -/
def handbackEnd : Prop :=
  ∀ (s : State), s.path.st = .handback → s.path.lossPend = none →
    s.path.hbTick + framesMs (s.cfgf 0x6008 24 8) ≤ s.clk.tick →
    ∃ t, Goes .handbackEnd s t ∧ t.path.st = .feed ∧ t.path.shedOrder = [] ∧
      (∀ n ∈ s.railIdx, (t.rail n).shed = false) ∧ (∀ n ∈ s.swIdx, (t.sw n).shed = false) ∧
      t.path.restoreQ = (if s.cfgb 0x6010 9 then
        (s.path.shedOrder.reverse.filter fun u => s.capCls u == .e) ++
        (s.path.shedOrder.reverse.filter fun u => s.capCls u != .e) else []) ∧ OnlyEnds s t ∧
      t = { s with
        rails := t.rails, sws := t.sws, path := t.path, gauge := t.gauge, hif := t.hif, rcd := t.rcd, brake := t.brake
        maint := t.maint }

/-- R443, R742: the reserve reached in HOLDUP is a cause of the safe floor, which the next frame boundary enters. -/
def reserveReached : Prop :=
  ∀ (s : State), s.path.st = .holdup → s.path.reserve = false →
    (100 ≤ s.path.resRun ∨ (s.isReady fGAUGE = true ∧ s.gauge.socValid = true ∧ s.soc < 100 * s.cfgf 0x6018 0 8)) →
    ∃ t, Goes .reserveReached s t ∧ t.path = { s.path with reserve := true } ∧ t.brake.standing.getLsbD 4 = true ∧
      (s.brake.inFloor = false → t.brake.floorPend = true) ∧ t = { s with path := t.path, rcd := t.rcd, brake := t.brake }

/-- R446: a battery below its cut-off in HOLDUP is disconnected, and the path stays without supply. -/
def batCutoff : Prop :=
  ∀ (s : State), s.path.st = .holdup → 10 ≤ s.path.cutRun →
    ∃ t, Goes .batCutoff s t ∧ t.path.bat = .cut ∧ t.path.batDisc = false ∧ t.path.st = .noFeed ∧ OnlyEnds s t ∧
      t = { s with path := t.path, gauge := t.gauge, hif := t.hif, rcd := t.rcd, maint := t.maint }

/-- R453, R454: a battery found present is detected with its disconnect open; within the range of step 1 the detection goes
on in DETECT. -/
def batPresent : Prop :=
  ∀ (s : State), s.sys.variant.hasPath = true → s.path.present = false → 1 ≤ s.path.presLow →
    ∃ t, Goes .batPresent s t ∧ t.path.present = true ∧ t.path.batDisc = false ∧
      (3000 ≤ s.path.batMv → s.path.batMv ≤ s.chgVMax + 1000 → t.path.bat = .detect ∧ t.path.detStep = 2) ∧ OnlyEnds s t ∧
      t = { s with path := t.path, gauge := t.gauge, hif := t.hif, rcd := t.rcd, maint := t.maint }

/-- R453: BAT_PRES high for 10 frames, the battery is MISSING and its disconnect open. -/
def batMissing : Prop :=
  ∀ (s : State), s.sys.variant.hasPath = true → s.path.bat ≠ .missing → 10 ≤ s.path.presHigh →
    ∃ t, Goes .batMissing s t ∧ t.path.present = false ∧ t.path.bat = .missing ∧ t.path.batDisc = false ∧ OnlyEnds s t ∧
      t = { s with path := t.path, gauge := t.gauge, hif := t.hif, rcd := t.rcd, maint := t.maint }

/-- R454: with the converter's side at the battery's voltage the disconnect closes and the pulse begins; past the time
allowed the battery is SHORTED. -/
def prechargeEnd : Prop :=
  (∀ (s : State), s.path.detStep = 2 → s.path.conv = .precharge → s.hasConv = true →
    ∃ t, Goes (.prechargeEnd true) s t ∧ t.path.batDisc = true ∧ t.path.detStep = 4 ∧ t.path.conv = .pulse ∧
      t.path.detMv = s.path.batMv ∧ t = { s with path := t.path, rcd := t.rcd }) ∧
  (∀ (s : State), s.path.detStep = 2 → s.path.conv = .precharge →
    s.path.detTick + framesMs (s.cfgf 0x6018 24 8) ≤ s.clk.tick →
    ∃ t, Goes (.prechargeEnd false) s t ∧ t.path.bat = .shorted ∧ t.path.batDisc = false ∧ OnlyEnds s t ∧
      t = { s with path := t.path, gauge := t.gauge, hif := t.hif, rcd := t.rcd, maint := t.maint })

/-- R454, R455: after the pulse a battery whose voltage rose by more than 500 mV is OPEN, another is READY. -/
def detectionPulseEnd : Prop :=
  ∀ (s : State), (s.path.detStep = 4 ∨ s.path.detStep = 5) → s.path.conv = .pulse → s.path.detTick + 1000 ≤ s.clk.tick →
    ∃ t, Goes .detectionPulseEnd s t ∧
      t.path.bat = (if s.path.detMv + 500 < s.path.batMv then .opened else .ready) ∧ t.path.detStep = 0 ∧ OnlyEnds s t ∧
      t = { s with path := t.path, gauge := t.gauge, hif := t.hif, rcd := t.rcd, maint := t.maint }

/-- R455: the periodic pulse of a battery in service. -/
def periodicPulse : Prop :=
  ∀ (s : State), s.cfgf 0x6018 16 8 ≠ 0 → framesS (s.cfgf 0x6018 16 8) ≤ s.path.pulseWait → s.path.st = .feed →
    s.path.bat = .ready → s.path.conv = .idle → s.brake.inFloor = false → s.path.searching = false → s.hasConv = true →
    ∃ t, Goes .periodicPulse s t ∧
      t.path = { s.path with
        pulseWait := 0, detStep := 5, detTick := s.clk.tick, detMv := s.path.batMv, conv := .pulse } ∧
      t = { s with path := t.path, rcd := t.rcd }

/-- R462: overvoltage, the time limit or a battery out of service stops charging, and PATH_FAULT.CHG_FORCED is set. -/
def chgForcedStop : Prop :=
  ∀ (s : State), s.path.chgOn = true →
    (10 ≤ s.path.ovRun ∨ (s.cfgf 0x6024 16 16 ≠ 0 ∧ framesS (60 * s.cfgf 0x6024 16 16) ≤ s.path.chgRun) ∨
      s.path.bat ≠ .ready) →
    ∃ t, Goes .chgForcedStop s t ∧ t.path.chgOn = false ∧ t.path.fault = setBit s.path.fault 6 ∧
      t.path.conv ≠ .cc ∧ t.path.conv ≠ .cv ∧ OnlyEnds s t ∧ t = { s with path := t.path, hif := t.hif, rcd := t.rcd }

/-- R458, R460: a current and voltage within the limits are set, and charging is on; CHG_START stays in progress until the
charger regulates, or ends at once while charging is suspended. -/
def chgStart : Prop :=
  ∀ (s : State) (k : Nat), Served s k 0x0501 (some fPATH) →
    let i := signedOf 32 (descField (s.tag k).desc 24 4)
    let v := descField (s.tag k).desc 28 2
    s.hasConv = true → s.path.bat = .ready → 1000 ≤ i → i ≤ s.chgIMax → 8000 ≤ v → v ≤ s.chgVMax →
    ∃ t, Goes (.chgStart k) s t ∧ t.path.iCC = i ∧ t.path.vCV = v ∧ t.path.chgOn = true ∧
      t.path.fault = clearBit s.path.fault 6 ∧
      (t.tag k).st = (if t.path.suspended then .decided else .applied) ∧ OnlyEnds s t ∧
      t = { s with path := t.path, hif := t.hif, rcd := t.rcd, maint := t.maint }

/-- R463: charging is off, a CHG_START that waited is aborted, and RESULT tells whether charging was on. -/
def chgStop : Prop :=
  ∀ (s : State) (k : Nat), Served s k 0x0502 (some fPATH) → s.path.chgSlot ≠ some k → (∀ p ∈ s.hif.repeats, p.2 ≠ k) →
    ∃ t, Goes (.chgStop k) s t ∧ t.path.chgOn = false ∧ t.path.conv ≠ .cc ∧ t.path.conv ≠ .cv ∧
      Ends t k stDONE (if s.path.chgOn then 1 else 0) ∧ OnlyEnds s t ∧
      t = { s with path := t.path, hif := t.hif, rcd := t.rcd }

/-- R470: outside hold-up PATH_CLEAR clears PATH_FAULT.CHG_FORCED; a battery SHORTED, OPEN or CUT is detected anew. -/
def pathClear : Prop :=
  (∀ (s : State) (k : Nat), Served s k 0x0503 (some fPATH) → s.inHoldup = false → s.path.bat ≠ .shorted →
    s.path.bat ≠ .opened → s.path.bat ≠ .cut →
    ∃ t, Goes (.pathClear k) s t ∧ t.path = { s.path with fault := clearBit s.path.fault 6 } ∧
      Ends t k stDONE (s.path.fault &&& ~~~(clearBit s.path.fault 6)).toNat ∧ OnlyEnds s t ∧
      t = { s with path := t.path, hif := t.hif }) ∧
  (∀ (s : State) (k : Nat), Served s k 0x0503 (some fPATH) → s.inHoldup = false →
    (s.path.bat = .shorted ∨ s.path.bat = .opened ∨ s.path.bat = .cut) → 3000 ≤ s.path.batMv →
    s.path.batMv ≤ s.chgVMax + 1000 →
    ∃ t, Goes (.pathClear k) s t ∧ t.path.bat = .detect ∧ t.path.detStep = 2 ∧ (t.tag k).st = .decided ∧ OnlyEnds s t ∧
      t = { s with path := t.path, gauge := t.gauge, hif := t.hif, rcd := t.rcd, maint := t.maint })

/-- R457: BAT_ISOLATE outside hold-up takes the battery out of service, its disconnect open. -/
def batIsolate : Prop :=
  ∀ (s : State) (k : Nat), Served s k 0x0504 (some fPATH) → descField (s.tag k).desc 24 1 = 1 → s.inHoldup = false →
    ∃ t, Goes (.batIsolate k) s t ∧ t.path.bat = .isolated ∧ t.path.batDisc = false ∧ (t.tag k).st = .decided ∧
      OnlyEnds s t ∧ t = { s with path := t.path, gauge := t.gauge, hif := t.hif, rcd := t.rcd, maint := t.maint }

/-- R457: the reversing form starts the detection of an isolated battery. -/
def batReconnect : Prop :=
  ∀ (s : State) (k : Nat), Served s k 0x0504 (some fPATH) → descField (s.tag k).desc 24 1 = 0 → s.inHoldup = false →
    s.path.bat = .isolated → 3000 ≤ s.path.batMv → s.path.batMv ≤ s.chgVMax + 1000 →
    ∃ t, Goes (.batReconnect k) s t ∧ t.path.bat = .detect ∧ t.path.detSlots = s.path.detSlots ++ [k] ∧
      (t.tag k).st = .applied ∧ OnlyEnds s t ∧
      t = { s with path := t.path, gauge := t.gauge, hif := t.hif, rcd := t.rcd, maint := t.maint }

/-- R464, R465: the baseline's dwell is followed by the first step; a sag of at least SAG at a step ends the search with the
last step's current less its margin as PATH_IN_LIM. -/
def searchDwellEnd : Prop :=
  (∀ (s : State) (feedMv : Nat) (feedMa : Int) (lastMv : Nat) (convMa : Int), s.path.searching = true →
    s.path.srSlotTick + 100 * s.cfgf 0x6028 24 8 ≤ s.clk.tick → s.path.srK = 0 → s.path.batMa < s.chgIMax →
    s.path.batMv < s.chgVMax →
    ∃ t, Goes (.searchDwellEnd feedMv feedMa lastMv convMa) s t ∧
      t = { s with
        path.srV0 := feedMv, path.srI0 := feedMa, path.srK := 1, path.srOwn := feedMa - convMa
        path.srSlotTick := s.clk.tick }) ∧
  (∀ (s : State) (feedMv : Nat) (feedMa : Int) (lastMv : Nat) (convMa : Int), s.path.searching = true →
    s.path.srSlotTick + 100 * s.cfgf 0x6028 24 8 ≤ s.clk.tick → s.path.srK ≠ 0 →
    (feedMa - convMa - s.path.srOwn).natAbs ≤ s.cfgf 0x602C 0 16 →
    (s.cfgf 0x6028 0 16 : Int) ≤ (s.path.srV0 : Int) - lastMv →
    ∃ t, Goes (.searchDwellEnd feedMv feedMa lastMv convMa) s t ∧ t.path.searching = false ∧
      t.path.inLim = ((s.path.srI0 + s.path.srK * s.cfgf 0x602C 0 16 - s.cfgf 0x602C 0 16) *
        (100 - s.cfgf 0x6028 16 8) / 100).toNat ∧ OnlyEnds s t ∧
      t = { s with path := t.path, hif := t.hif, rcd := t.rcd, maint := t.maint })

/-- R464: a search starts each SRCH_PERIOD minutes where its conditions hold. -/
def searchPeriod : Prop :=
  ∀ (s : State), s.cfgf 0x602C 16 16 ≠ 0 → framesS (60 * s.cfgf 0x602C 16 16) ≤ s.path.srWait → s.searchOk = true →
    s.path.searching = false →
    ∃ t, Goes .searchPeriod s t ∧
      t = { s with
        path.srWait := 0, path.searching := true, path.srK := 0, path.srSlotTick := s.clk.tick, path.srMaint := false }

/-! ### Battery gauge (spec/12) -/

/-- R472: one sample is 1 ms of charge in the front end's 48-bit accumulator. -/
def gaugeSample : Prop :=
  ∀ (s : State) (ma : Int), s.sys.variant.hasPath = true → s.sys.running.getLsbD 3 = true →
    ∃ t, Goes (.gaugeSample ma) s t ∧
      t = { s with gauge.last := ma, gauge.acc := signedOf 48 (twos 48 (s.gauge.acc + 1000 * ma)) }

/-- R476, R479: at empty no charge remains, and the state of charge is valid and 0. -/
def emptyConfirmed : Prop :=
  ∀ (s : State), s.gaugeOn = true → s.gauge.emptyV = false → s.cfgf 0x6804 16 8 ≤ s.gauge.emptyRun →
    ∃ t, Goes .emptyConfirmed s t ∧ t.gauge.qRem = 0 ∧ t.gauge.socValid = true ∧ t.gauge.emptyV = true ∧ t.soc = 0 ∧
      t.gauge.learn ≠ .armed ∧ OnlyEnds s t ∧
      t = { s with gauge := t.gauge, hif := t.hif, rcd := t.rcd, maint := t.maint, freeCtr := t.freeCtr }

/-- R482–R484: the correction of a rest is made once; with a temperature in its range, a table in order and a steep segment
the remaining charge moves by its weight toward what the table gives, and the state of charge is valid. -/
def ocvCorrect : Prop :=
  ∀ (s : State), s.gaugeOn = true → framesS (60 * s.cfgf 0x6808 16 16) ≤ s.gauge.restRun → s.gauge.restDone = false →
    s.clk.pos = 0 → s.brake.inFloor = false → s.gauge.st ≠ .spectro →
    ∃ t, Goes .ocvCorrect s t ∧ t.gauge.restDone = true ∧ t.gauge.st = .rested ∧
      (∀ temp i, s.path.ntc = some temp → 16 * s.cfgi 0x680C 16 8 ≤ temp → temp ≤ 16 * (s.cfgf 0x680C 24 8 : Int) →
        s.ocvBad = false → s.ocvSegment s.gauge.vEp = some i → s.cfgf 0x680C 8 8 ≤ s.ocvMv (i + 1) - s.ocvMv i →
        t.gauge.socValid = true ∧
        t.gauge.qRem = s.gauge.qRem + ((if s.gauge.socValid then s.cfgf 0x680C 0 8 else 100 : Nat) : Rat) / 100 *
          (s.ocvSoc s.gauge.vEp i / 10000 * s.gauge.qFull - s.gauge.qRem)) ∧
      t = { s with gauge := t.gauge, rcd := t.rcd, freeCtr := t.freeCtr }

/-- R488, R489: a periodic measurement starts where its conditions hold. -/
def spectroStart : Prop :=
  ∀ (s : State), s.gaugeOn = true → s.specOk = true → s.gauge.st ≠ .spectro → s.cfgf 0x6810 24 8 ≠ 0 →
    s.cfgf 0x6810 0 4 < 10 → framesS (60 * s.cfgf 0x6810 24 8) ≤ s.gauge.spWait →
    ∃ t, Goes .spectroStart s t ∧ t.gauge.st = .spectro ∧ t.gauge.spF = s.cfgf 0x6810 0 4 ∧ t.gauge.spTick = s.clk.tick ∧
      t.gauge.spSlot = none ∧ t = { s with gauge := t.gauge }

/-- R490, R491: an accepted result is shown, and the gauge counts on; a GAUGE_SPECTRO that waited ends with its cell. -/
def spectroResult : Prop :=
  ∀ (s : State) (r x : Int), s.gaugeOn = true → s.gauge.st = .spectro → s.gauge.spBad = false →
    s.gauge.spTick + s.cfgf 0x6810 16 8 * (100000 / specHz.getD s.gauge.spF 0) ≤ s.clk.tick →
    ∃ t, Goes (.spectroResult r x) s t ∧ t.gauge.st = .counting ∧ t.gauge.zR = r ∧ t.gauge.zX = x ∧
      t.gauge.spSlot = none ∧ OnlyEnds s t ∧
      t = { s with gauge := t.gauge, hif := t.hif, rcd := t.rcd, freeCtr := t.freeCtr }

/-- R495: a verified write leaves its slot with the image written, a failed one leaves it invalid. -/
def nvWrite : Prop :=
  ∀ (s : State) (ok b : Bool) (trig : Nat) (im : GSlot), s.gauge.writing = some (b, trig, im) →
    ∃ t, Goes (.nvWrite ok) s t ∧ t.nvSlot b = (if ok then some im else none) ∧ t.nvSlot (!b) = s.nvSlot (!b) ∧
      t.gauge.lastResult = (if ok then 1 else 2) ∧ t.gauge.writes = satInc 16 s.gauge.writes ∧ OnlyEnds s t ∧
      t = { s with gauge := t.gauge, hif := t.hif, rcd := t.rcd }

/-- R494: a periodic write begins, of the working state, into the slot that is not the newest. -/
def nvWritePeriodic : Prop :=
  ∀ (s : State), s.gaugeOn = true → framesS (60 * s.cfgf 0x6838 0 16) ≤ s.gauge.wbWait → s.gauge.qRem ≠ s.gauge.wbQ →
    s.brake.inFloor = false → s.gauge.writing = none → s.sys.vaonLost = false →
    ∃ t, Goes .nvWritePeriodic s t ∧
      t = { s with gauge.writing := some ((match s.newestSlot with | none => false | some b => !b), 6, s.gaugeImage) }

/-- R485: the battery is full: Q_rem is Q_full, and learning is armed; RESULT is the state of charge before. -/
def gaugeSetFull : Prop :=
  ∀ (s : State) (k : Nat), Served s k 0x0601 (some fGAUGE) →
    s.repeatOf 0x0601 (descField (s.tag k).desc 24 2) 0 = none → s.path.bat = .ready →
    ∃ t, Goes (.gaugeSetFull k) s t ∧
      t.gauge = { s.gauge with
        qRem := s.gauge.qFull, socValid := true, fullDecl := true, emptyV := false, hold1 := false, disagree := false
        learn := .armed, qLearn := 0, chgSince := 0 } ∧
      Ends t k stDONE s.soc ∧ OnlyEnds s t ∧ t = { s with gauge := t.gauge, hif := t.hif, rcd := t.rcd }

/-- R494: GAUGE_SAVE causes a write and stays in progress until it ends. -/
def gaugeSave : Prop :=
  ∀ (s : State) (k : Nat), Served s k 0x0602 (some fGAUGE) → s.sys.vaonLost = false →
    ∃ t, Goes (.gaugeSave k) s t ∧ t.gauge.writing.isSome = true ∧ (t.tag k).st = .applied ∧
      (k ∈ t.gauge.saveSlots ∨ k ∈ t.gauge.saveNext) ∧ OnlyEnds s t ∧ t = { s with gauge := t.gauge, hif := t.hif }

/-- R499: the battery is as new: Q_full is Q_DESIGN, no cycles, nothing learned, the state of charge not valid; the write
that follows ends the command. -/
def gaugeNewBattery : Prop :=
  ∀ (s : State) (k : Nat), Served s k 0x0603 (some fGAUGE) → s.sys.vaonLost = false →
    ∃ t, Goes (.gaugeNewBattery k) s t ∧ t.gauge.qFull = s.cfgv 0x6800 ∧ t.gauge.cycles = 0 ∧ t.gauge.learned = false ∧
      t.gauge.learnCount = 0 ∧ t.gauge.socValid = false ∧ t.gauge.ztab = List.replicate 128 0 ∧
      t.gauge.writing.isSome = true ∧ (t.tag k).st = .applied ∧ OnlyEnds s t ∧
      t = { s with gauge := t.gauge, hif := t.hif, rcd := t.rcd, maint := t.maint }

/-- R488: a measurement on command starts where its conditions hold, and ends the command with its result. -/
def gaugeSpectro : Prop :=
  ∀ (s : State) (k : Nat), Served s k 0x0604 (some fGAUGE) →
    let b := descField (s.tag k).desc 24 1
    let f := if b = 255 then s.cfgf 0x6810 0 4 else b
    s.repeatOf 0x0604 (descField (s.tag k).desc 26 2) 0 = none → f < 10 → s.specOk = true → s.gauge.st ≠ .spectro →
    ∃ t, Goes (.gaugeSpectro k) s t ∧ t.gauge.st = .spectro ∧ t.gauge.spF = f ∧ t.gauge.spSlot = some k ∧
      (t.tag k).st = .applied ∧ OnlyEnds s t ∧ t = { s with gauge := t.gauge, hif := t.hif }
/-! ### Zone power, caps and temperature (spec/07) -/

/-- R270–R273: each reducible load of class C, or of class E where there is none, gets its new limit; with no such load the
cap is unmet. -/
def capReduce : Prop :=
  ∀ (s : State), s.shape → s.cap.redDue = true → s.brake.inFloor = false →
    let of (k : Cls) : List Nat := s.capLoads.filter fun u => s.capCls u == k && s.reducible u
    let l := if (of .c).isEmpty then of .e else of .c
    ∃ t, Goes .capReduce s t ∧ t.cap.redDue = false ∧
      (l ≠ [] → (∀ u ∈ s.capLoads, t.capLimOf u = if u ∈ l then some (s.reducedLim u) else s.capLimOf u) ∧
        t.cap.unmet = false ∧ t.cap.redCls = (if (of .c).isEmpty then 1 else 0) ∧ t.cap.stage = t.capStageNow) ∧
      (l = [] → t.cap.unmet = true ∧ t.rails = s.rails ∧ t.sws = s.sws) ∧
      (∀ n < s.rails.length, t.rail n = { s.rail n with capLim := (t.rail n).capLim }) ∧
      (∀ n < s.sws.length, t.sw n = { s.sw n with capLim := (t.sw n).capLim }) ∧
      t.cap = { s.cap with
        redDue := t.cap.redDue, unmet := t.cap.unmet, redCls := t.cap.redCls, stage := t.cap.stage } ∧
      t = { s with rails := t.rails, sws := t.sws, cap := t.cap, rcd := t.rcd }

/-- R276: each limited load of class E, or of class C where none is limited, has its limit raised by CAP_STEP of its
uncapped limit; a limit that reaches the uncapped one ends. -/
def capRaise : Prop :=
  ∀ (s : State), s.shape → s.cap.raiseDue = true → s.brake.inFloor = false →
    let of (k : Cls) : List Nat := s.capLoads.filter fun u => s.capCls u == k && (s.capLimOf u).isSome
    let l := if (of .e).isEmpty then of .c else of .e
    let up (u : Nat) : Nat := (s.capLimOf u).getD 0 + roundN 55 ((s.cfgf 0x1104 8 8 : Rat) * s.uncapped u / 100)
    ∃ t, Goes .capRaise s t ∧ t.cap.raiseDue = false ∧
      (∀ u ∈ s.capLoads, t.capLimOf u =
        if u ∈ l then (if s.uncapped u ≤ up u then none else some (up u)) else s.capLimOf u) ∧
      (∀ n < s.rails.length, t.rail n = { s.rail n with capLim := (t.rail n).capLim }) ∧
      (∀ n < s.sws.length, t.sw n = { s.sw n with capLim := (t.sw n).capLim }) ∧
      t.cap = { s.cap with raiseDue := t.cap.raiseDue, stage := t.cap.stage } ∧
      t = { s with rails := t.rails, sws := t.sws, cap := t.cap, rcd := t.rcd }

/-- R264: CAP_SET sets the host cap, 0 for none, and RESULT is the cap in force; a cap below 100 W is a bad parameter. -/
def capSet : Prop :=
  (∀ (s : State) (k : Nat), Served s k 0x0801 (some fRAIL) →
    let mw := descField (s.tag k).desc 24 4
    mw = 0 ∨ 100000 ≤ mw →
    ∃ t, Goes (.capSet k) s t ∧ t.cap = { s.cap with host := mw } ∧ Ends t k stDONE t.pCap ∧ OnlyEnds s t ∧
      (s.cap.host = mw → t.rcd = s.rcd) ∧ t = { s with cap := t.cap, hif := t.hif, rcd := t.rcd }) ∧
  (∀ (s : State) (k : Nat), Served s k 0x0801 (some fRAIL) →
    let mw := descField (s.tag k).desc 24 4
    mw ≠ 0 → mw < 100000 →
    ∃ t, Goes (.capSet k) s t ∧ Ends t k stBADPARAM 1 ∧ OnlyEnds s t ∧ t = { s with hif := t.hif, rcd := t.rcd })

/-- R282: 100 frames without a valid reading, the sensor is FAILED and no temperature is in use. -/
def tsenseFailed : Prop :=
  ∀ (s : State), s.cap.sensor ≠ 2 → 100 ≤ s.cap.invRun →
    ∃ t, Goes .tsenseFailed s t ∧
      t.cap = { s.cap with sensor := 2, tUse := none, tEpoch := none, recRun := 0, recOk := false } ∧
      t = { s with cap := t.cap, rcd := t.rcd }

/-- R283: a FAILED sensor with valid readings throughout 10 epochs is used again. -/
def tsenseRecover : Prop :=
  ∀ (s : State), s.cap.sensor = 2 → 10 ≤ s.cap.recRun →
    ∃ t, Goes .tsenseRecover s t ∧
      t.cap = { s.cap with
        sensor := 0, tLast := some s.cap.tRaw, tUse := some s.cap.tRaw, invRun := 0, recRun := 0
        tSum := s.cap.tRaw, tN := 1 } ∧
      t = { s with cap := t.cap, rcd := t.rcd }

/-! ### Clocks and register pairs (spec/02, spec/24) -/

/-- R83: at a failure of the crystal the fallback is the reference; no frame is lost. -/
def xtalFail : Prop :=
  ∀ (s : State) (relockNs : Nat), s.running = true → s.clk.refSrc ≠ 2 →
    ∃ t, Goes (.xtalFail relockNs) s t ∧
      t.clk = { s.clk with refWas := s.clk.refSrc, refSrc := 2, xtalOk := false, xtalGood := 0 } ∧
      t = { s with clk := t.clk, rcd := t.rcd }

/-- R84: after 1,000 epochs of the crystal the reference in use before is in use again. -/
def xtalRestored : Prop :=
  ∀ (s : State), s.running = true → s.clk.refSrc = 2 → 1000 ≤ s.clk.xtalGood →
    ∃ t, Goes .xtalRestored s t ∧
      t.clk = { s.clk with refSrc := s.clk.refWas, xtalOk := true, xtalGood := 0 } ∧
      t = { s with clk := t.clk, rcd := t.rcd }

/-- R96: a register access stalled for more than 50 µs is recorded and its time kept as the maximum. -/
def domainStall : Prop :=
  ∀ (s : State) (dom ns off : Nat), s.running = true → 50000 < ns →
    ∃ t, Goes (.domainStall dom ns off) s t ∧
      t.sys = { s.sys with stallMax := max s.sys.stallMax ns, bridgeDom := dom % 8 } ∧
      t = { s with sys := t.sys, rcd := t.rcd }

/-- R779: a read of a read-only _LO register latches the upper word, which the _HI register then returns. -/
def loReadLatch : Prop :=
  ∀ (s : State) (off h : Nat), s.hiOf off = some h → s.sys.linkUp = true → h < 2 ^ 32 →
    ∃ t, Goes (.loReadLatch off) s t ∧ t.hif.latchHi.toNat = h ∧
      t.hif.readData = BitVec.ofNat 32 (s.readReg off) ∧
      (absentReg s.sys.variant (off + 4) = false → t.readReg (off + 4) = h) ∧
      t = { s with hif := { s.hif with latchHi := t.hif.latchHi, readData := t.hif.readData } }

/-! ### Host interface (spec/14) -/

/-- R604: ring `r` is in RING_ERROR with this cause and offending value, and the RING_ERROR event is set. -/
def RingFails (s t : State) (r cause info : Nat) : Prop :=
  (t.ring r).st = .error ∧ (t.ring r).errCause = cause ∧ (t.ring r).errInfo = BitVec.ofNat 32 info ∧
  t.hif.event = setBit s.hif.event 1 ∧ RingsBut [r] s t ∧
  t = { s with
    rcd := t.rcd
    hif := { s.hif with
      rings := t.hif.rings, event := t.hif.event, silence := t.hif.silence, posted := t.hif.posted
      vecPend := t.hif.vecPend } }

/-- R571–R574, R507: an index within the ring becomes its producer index, any other puts the ring in RING_ERROR; on a
ring not ACTIVE the write is ignored and recorded; a twin that does not command keeps the value only. -/
def sqDoorbell : Prop :=
  ∀ (s : State) (r : Nat) (v : Word), s.shape → r < 64 → s.isReady fRING = true → s.sys.linkUp = true →
    (s.ring r).cq = false → s.perturbs 1 = false →
    ∃ t, Goes (.sqDoorbell r v) s t ∧
      (s.keepsDoorbells = true → t.ring r = { s.ring r with doorbell := v } ∧ t.rcd = s.rcd) ∧
      (s.keepsDoorbells = false → (s.ring r).st = .active → v.toNat < (s.ring r).entries →
        t.ring r = { s.ring r with doorbell := v, prod := v.toNat } ∧ t.rcd = s.rcd) ∧
      (s.keepsDoorbells = false → (s.ring r).st = .active → (s.ring r).entries ≤ v.toNat → (s.ring r).prod ≠ v.toNat →
        RingFails s t r 1 v.toNat) ∧
      (s.keepsDoorbells = false → (s.ring r).st ≠ .active → t.ring r = s.ring r) ∧
      t.hif.silence = (if r = 0 then 0 else s.hif.silence) ∧ RingsBut [r] s t ∧
      t = { s with rcd := t.rcd, hif := t.hif }

/-- R572–R574: a head between the old head and the tail becomes the CQ's consumer index, any other puts the CQ in
RING_ERROR. -/
def cqDoorbell : Prop :=
  ∀ (s : State) (r : Nat) (v : Word), s.shape → r < 64 → s.isReady fRING = true → s.sys.linkUp = true →
    (s.ring r).cq = true → s.perturbs 1 = false →
    let g := s.ring r
    ∃ t, Goes (.cqDoorbell r v) s t ∧
      (s.keepsDoorbells = true → t.ring r = { g with doorbell := v } ∧ t.rcd = s.rcd) ∧
      (s.keepsDoorbells = false → g.st = .active → v.toNat < g.entries →
        (v.toNat + g.entries - g.cons) % g.entries ≤ (g.prod + g.entries - g.cons) % g.entries →
        t.ring r = { g with doorbell := v, cons := v.toNat } ∧ t.rcd = s.rcd) ∧
      (s.keepsDoorbells = false → g.st = .active → v.toNat ≠ g.cons → g.entries ≤ v.toNat → RingFails s t r 2 v.toNat) ∧
      (s.keepsDoorbells = false → g.st ≠ .active → t.ring r = g) ∧
      t.hif.silence = (if r = 0 then 0 else s.hif.silence) ∧ RingsBut [r] s t ∧
      t = { s with rcd := t.rcd, hif := t.hif }

/-- R580–R585: the descriptor is taken for the next frame: it occupies its tag slot, or the first check of R583 it fails
is its completion, decided in that frame. -/
def descriptorIntake : Prop :=
  ∀ (s : State) (r : Nat) (d : RawDesc), s.shape → r < 64 → s.running = true → s.isReady fRING = true → s.dmaOn = true →
    s.commands = true → s.hif.takenNow < s.intakeLimit → s.nextRing = some r → s.sys.hib ≠ .asleep →
    s.clk.halted.getLsbD 14 = false →
    let k := tagSlot (descTag d).toNat
    let time := s.clk.strobe + 10000
    ∃ t, Goes (.descriptorIntake r d) s t ∧ t.hif.takenNow = s.hif.takenNow + 1 ∧
      (t.ring r).cons = ((s.ring r).cons + 1) % (s.ring r).entries ∧ (t.ring r).taken = satInc 32 (s.ring r).taken ∧
      (s.intakeCheck r d time = none →
        t.tag k = {
          st := .held, desc := d, ring := r, order := s.hif.order, intakeAt := time, after := s.afterLookup d
          discard := false, tk := (s.ring r).tkLeft != 0 } ∧ t.hif.order = s.hif.order + 1 ∧
        t.hif.decided = s.hif.decided ∧ t.rcd = s.rcd) ∧
      (∀ status result, s.intakeCheck r d time = some (status, result) →
        (∃ c ∈ t.hif.decided, c.tag = descTag d ∧ c.status = status ∧ c.result = BitVec.ofNat 32 result ∧ c.ring = r ∧
          c.frame = s.clk.count + 1 ∧ c.slot = none) ∧ t.hif.tags = s.hif.tags) ∧
      TagsBut [k] s t ∧ RingsBut [r] s t ∧
      t = { s with
        rcd := t.rcd
        hif := { s.hif with
          takenNow := t.hif.takenNow, intakeNow := t.hif.intakeNow, takenEpoch := t.hif.takenEpoch, visit := t.hif.visit
          rrStart := t.hif.rrStart, rrSeen := t.hif.rrSeen, rings := t.hif.rings, tags := t.hif.tags
          order := t.hif.order, decided := t.hif.decided } }

/-- R591: a held descriptor whose DEADLINE lies before the frame ends with DEADLINE_MISSED. -/
def deadlineMissed : Prop :=
  ∀ (s : State) (k : Nat), k < s.hif.tags.length → (s.tag k).st = .held → (s.tag k).discard = false →
    descDeadline (s.tag k).desc ≠ 0 → descDeadline (s.tag k).desc < s.evalStrobe → (s.tag k).intakeAt ≤ s.evalStrobe →
    ∃ t, Goes (.deadlineMissed k) s t ∧ Ends t k stDEADLINE 0 ∧ OnlyEnds s t ∧ t = { s with hif := t.hif }

/-- R578, R595, R597: the first decided completion that can be written goes to its CQ's next entry with the phase bit, its
slot is free, and the CQ's indices advance. -/
def completionWrite : Prop :=
  ∀ (s : State) (c : Cpl), s.commands = true → s.dmaOn = true → s.running = true →
    s.hif.decided.find? s.canWrite = some c →
    let q := (s.ring c.ring).bind
    let g := s.ring q
    let n := (g.prod + 1) % g.entries
    ∃ t, Goes .completionWrite s t ∧ t.hif.decided = s.hif.decided.erase c ∧
      (∃ l, l.length ≤ 1 ∧ t.hif.posted = s.hif.posted ++ Posted.mem (g.base + 16 * g.prod) (cplBytes c g.phase) :: l) ∧
      (t.ring q).prod = n ∧ (t.ring q).phase = (if n = 0 then !g.phase else g.phase) ∧
      (t.ring q).written = satInc 32 g.written ∧ (t.ring q).cons = g.cons ∧ (t.ring q).st = g.st ∧
      (∀ k, c.slot = some k → (t.tag k).st = .free) ∧ TagsBut c.slot.toList s t ∧ RingsBut [q] s t ∧
      t = { s with hif := { s.hif with
        rings := t.hif.rings, tags := t.hif.tags, decided := t.hif.decided, posted := t.hif.posted
        vecPend := t.hif.vecPend, writtenEpoch := t.hif.writtenEpoch } }

/-- R601, R603: COAL_FR frames after the first unsignalled entry the CQ's vector is signalled. -/
def coalTimeout : Prop :=
  ∀ (s : State) (r : Nat), (s.ring r).cq = true → (s.ring r).irqEn = true → (s.ring r).coalFr ≠ 0 → (s.ring r).unsig ≠ 0 →
    (s.ring r).unsigTick + (s.ring r).coalFr ≤ s.clk.tick →
    let v := (s.ring r).vec
    ∃ t, Goes (.coalTimeout r) s t ∧ t.ring r = { s.ring r with unsig := 0 } ∧ RingsBut [r] s t ∧
      (s.hif.msixEn = true → s.hif.fmask = false → s.hif.vecMask.getLsbD v = false → s.dmaOn = true →
        t.hif.posted = s.hif.posted ++ [.msix v (s.hif.msixTab.getD v 0)] ∧ t.hif.vecPend = s.hif.vecPend) ∧
      (s.hif.msixEn = true → s.hif.vecMask.getLsbD v = true →
        t.hif.posted = s.hif.posted ∧ t.hif.vecPend = setBit s.hif.vecPend v) ∧
      (s.hif.msixEn = false → t.hif.posted = s.hif.posted ∧ t.hif.vecPend = s.hif.vecPend) ∧
      t = { s with hif := { s.hif with rings := t.hif.rings, posted := t.hif.posted, vecPend := t.hif.vecPend } }

/-- R603: with a vector unmasked, the messages pending that nothing masks are sent. -/
def msixUnmask : Prop :=
  ∀ (s : State) (vec : Nat),
    let m := clearBit s.hif.vecMask vec
    let due := (List.range 64).filter fun v => s.hif.vecPend.getLsbD v && !m.getLsbD v
    ∃ t, Goes (.msixUnmask vec) s t ∧
      t.hif = (if s.hif.msixEn = true ∧ s.hif.fmask = false ∧ s.dmaOn = true then { s.hif with
          vecMask := m, vecPend := s.hif.vecPend &&& m
          posted := s.hif.posted ++ due.map fun v => Posted.msix v (s.hif.msixTab.getD v 0) }
        else { s.hif with vecMask := m }) ∧ t = { s with hif := t.hif }

/-- R553: Bus Master Enable, D3hot, MSI-X Enable and Function Mask as written; a change of Bus Master Enable is recorded. -/
def busMasterChange : Prop :=
  ∀ (s : State) (bme d3 msix fmask : Bool), s.sys.linkUp = true →
    ∃ t, Goes (.busMasterChange bme d3 msix fmask) s t ∧ t.hif.bme = bme ∧ t.hif.d3 = d3 ∧ t.hif.msixEn = msix ∧
      t.hif.fmask = fmask ∧ (s.hif.bme = bme → t.rcd = s.rcd) ∧
      (t.dmaOn = false → t.hif.posted = s.hif.posted ∧ t.hif.vecPend = s.hif.vecPend) ∧
      t = { s with
        rcd := t.rcd
        hif := { s.hif with
          bme := t.hif.bme, d3 := t.hif.d3, msixEn := t.hif.msixEn, fmask := t.hif.fmask, posted := t.hif.posted
          vecPend := t.hif.vecPend } }

/-- R554: a read that fails puts the ring in RING_ERROR. -/
def dmaReadFail : Prop :=
  ∀ (s : State) (r addr : Nat), r < s.hif.rings.length → (s.ring r).st = .active →
    ∃ t, Goes (.dmaReadFail r addr) s t ∧ RingFails s t r 4 (addr % 2 ^ 32)

/-- R565–R569, R807: a write of RING_CTRL enables the ring with the configuration its registers hold, empty and ACTIVE;
disables it; is ignored where R566, R567 or R569 refuses; and is refused for rings 2 to 63 once SETUP_LOCK is set. -/
def ringEnable : Prop :=
  ∀ (s : State) (r : Nat) (w : Word), s.shape → r < 64 → s.isReady fRING = true → s.sys.linkUp = true →
    let g := s.ringRegs r (s.ring r)
    let on := (s.ring r).st != .disabled
    ∃ t, Goes (.ringEnable r w) s t ∧
      (s.ringLocked r = true → t = { s with rcd := t.rcd }) ∧
      (s.ringLocked r = false → on = false → w.getLsbD 0 = true → s.ringRefused g = true → t = { s with rcd := t.rcd }) ∧
      (s.ringLocked r = false → on = false → w.getLsbD 0 = true → s.ringRefused g = false → s.ringPlaced g = true →
        t.ring r = { g with
          st := .active, errCause := 0, errInfo := 0, phase := true, prod := 0, cons := 0, taken := 0, written := 0
          unsig := 0, unsigTick := 0, recentW := [], tkLeft := 0 }) ∧
      (s.ringLocked r = false → on = false → w = 1 → s.ringRefused g = false → s.ringPlaced g = false →
        (t.ring r).st = .error ∧ (t.ring r).errCause = 3) ∧
      (s.ringLocked r = false → on = true → w.getLsbD 0 = false → s.ringDeleteCause r = 0 →
        t.ring r = { s.ring r with st := .disabled, errCause := 0, errInfo := 0, prod := 0, cons := 0, unsig := 0 }) ∧
      (s.ringLocked r = false → on = true → w = 0 → s.ringDeleteCause r ≠ 0 → t = { s with rcd := t.rcd }) ∧
      RingsBut [r] s t ∧
      t = { s with
        rcd := t.rcd
        hif := { s.hif with
          rings := t.hif.rings, event := t.hif.event, posted := t.hif.posted, vecPend := t.hif.vecPend } }

/-- R596, R605: a reset ring is empty and ACTIVE; a disabled ring is left alone, and so are rings 2 to 63 after
SETUP_LOCK. -/
def ringCtrlReset : Prop :=
  ∀ (s : State) (r : Nat), s.shape → r < 64 → s.isReady fRING = true → s.sys.linkUp = true →
    ∃ t, Goes (.ringCtrlReset r) s t ∧
      ((s.ring r).st = .disabled ∨ s.ringLocked r = true → t = s) ∧
      ((s.ring r).st ≠ .disabled → s.ringLocked r = false →
        t.ring r = { s.ring r with
          st := .active, errCause := 0, errInfo := 0, phase := true, prod := 0, cons := 0, unsig := 0, recentW := []
          tkLeft := 0 }) ∧ RingsBut [r] s t ∧
      t = { s with rcd := t.rcd, hif := { s.hif with rings := t.hif.rings } }

/-- R559, R563: a window's registers take the value while no ring is enabled; otherwise the write is void. -/
def dmaWindowWrite : Prop :=
  ∀ (s : State) (k a : Nat) (w : Word), s.sys.linkUp = true → k < 8 → s.hif.wins.length = 8 → (a = 0 ∨ a = 4 ∨ a = 8) →
    let x := s.hif.wins.getD k {}
    ∃ t, Goes (.dmaWindowWrite (0x0220 + 16 * k + a) w) s t ∧
      (s.anyRing = true → t = { s with rcd := t.rcd }) ∧
      (s.anyRing = false →
        t.hif.wins.getD k {} = (
          if a = 0 then { x with
            base := x.base / 2 ^ 32 * 2 ^ 32 + w.toNat / 4096 * 4096, rd := w.getLsbD 0, wr := w.getLsbD 1 }
          else if a = 4 then { x with base := x.base % 2 ^ 32 + 2 ^ 32 * w.toNat }
          else { x with pages := w.toNat }) ∧
        (∀ j, j ≠ k → t.hif.wins.getD j {} = s.hif.wins.getD j {}) ∧
        t = { s with hif := { s.hif with wins := t.hif.wins } })

/-- R555: an access of another size or alignment is recorded and changes no register. -/
def barAccessVoid : Prop :=
  ∀ (s : State) (bar off size : Nat) (isWrite : Bool), s.sys.linkUp = true → (size ≠ 4 ∨ off % 4 ≠ 0) →
    ∃ t, Goes (.barAccessVoid bar off size isWrite) s t ∧ t = { s with rcd := t.rcd }

/-! ### Admin and firmware (spec/15, spec/19) -/

/-- NOP: it completes with its own word, and changes nothing else. -/
def nop : Prop :=
  ∀ (s : State) (k : Nat), Served s k 0x0101 none →
    ∃ t, Goes (.nop k) s t ∧ Ends t k stDONE (descField (s.tag k).desc 24 4) ∧ OnlyEnds s t ∧ t = { s with hif := t.hif }

/-- R79: the offset waits for the next frame boundary, and the descriptor with it. -/
def wallSet : Prop :=
  ∀ (s : State) (k : Nat), Served s k 0x0103 none →
    ∃ t, Goes (.wallSet k) s t ∧
      t.clk = { s.clk with wallNew := s.clk.wallNew ++ [(signedOf 64 (descField (s.tag k).desc 24 8), k)] } ∧
      t.tag k = { s.tag k with st := .applied } ∧ TagsBut [k] s t ∧
      t = { s with clk := t.clk, hif := { s.hif with tags := t.hif.tags } }

/-- R619, R620: an image that passes R804 and is newer than every valid slot is written to the slot the rule names; one
that a slot already holds is DONE with RESULT 1; one that fails a check is refused with the check's number. -/
def cfgWrite : Prop :=
  (∀ (s : State) (k : Nat) (image : List Byte), Served s k 0x0104 none →
    let d := (s.tag k).desc
    let len := descField d 24 4
    let im := image.take len
    let slots := [s.cfg.slotA, s.cfg.slotB].filter s.slotValid
    s.inWindow false (descField d 32 8) len = true → s.writeBusy = 0 → s.cfg.wr = none → len ≠ 0 → len ≤ 2097152 →
    len = imgSize im → slots.contains im = false → (∀ x ∈ slots, imgSeq x < imgSeq im) →
    imageFault s.sys.variant s.cfg.fwVersion s.sys.signedOnly im = none →
    ∃ t, Goes (.cfgWrite k image) s t ∧ t.cfg = { s.cfg with wr := some (k, false, s.cfgTarget, im) } ∧
      t.tag k = { s.tag k with st := .applied } ∧ TagsBut [k] s t ∧
      t = { s with cfg := t.cfg, hif := { s.hif with tags := t.hif.tags } }) ∧
  (∀ (s : State) (k : Nat) (image : List Byte), Served s k 0x0104 none →
    let d := (s.tag k).desc
    let len := descField d 24 4
    let im := image.take len
    let slots := [s.cfg.slotA, s.cfg.slotB].filter s.slotValid
    s.inWindow false (descField d 32 8) len = true → s.cfg.wr = none →
    ∃ t, Goes (.cfgWrite k image) s t ∧
      (s.writeBusy ≠ 0 → Ends t k stMAINT s.writeBusy) ∧
      (s.writeBusy = 0 → len = 0 ∨ 2097152 < len ∨ len ≠ imgSize im → Ends t k stBADPARAM 1) ∧
      (s.writeBusy = 0 → len ≠ 0 → len ≤ 2097152 → len = imgSize im → slots.contains im = true → Ends t k stDONE 1) ∧
      (s.writeBusy = 0 → len ≠ 0 → len ≤ 2097152 → len = imgSize im → slots.contains im = false →
        (∃ x ∈ slots, imgSeq im ≤ imgSeq x) → Ends t k stBADPARAM 2) ∧
      (s.writeBusy = 0 → len ≠ 0 → len ≤ 2097152 → len = imgSize im → slots.contains im = false →
        (∀ x ∈ slots, imgSeq x < imgSeq im) →
        ∀ f, imageFault s.sys.variant s.cfg.fwVersion s.sys.signedOnly im = some f → Ends t k stBADPARAM (0x10 + f.1)) ∧
      t = { s with cfg := { s.cfg with wr := t.cfg.wr }, hif := t.hif, rcd := t.rcd })

/-- R620: a write read back as written is the slot's content, RESULT 0; one that did not read back is RESULT 2 and leaves
the other slot as it was. -/
def cfgWriteComplete : Prop :=
  (∀ (s : State) (k : Nat) (b : Bool) (im : List Byte), s.cfg.wr = some (k, false, b, im) → k < s.hif.tags.length →
    (s.tag k).st = .applied → (s.tag k).discard = false →
    ∃ t, Goes (.cfgWriteComplete true) s t ∧
      t.cfg = { s.cfg with
        wr := none, slotA := if b then s.cfg.slotA else im, slotB := if b then im else s.cfg.slotB } ∧
      Ends t k stDONE 0 ∧ OnlyEnds s t ∧ t = { s with cfg := t.cfg, hif := t.hif }) ∧
  (∀ (s : State) (k : Nat) (b : Bool) (im : List Byte), s.cfg.wr = some (k, false, b, im) → k < s.hif.tags.length →
    (s.tag k).st = .applied → (s.tag k).discard = false →
    ∃ t, Goes (.cfgWriteComplete false) s t ∧
      t.cfg = { s.cfg with
        wr := none, slotA := if b then s.cfg.slotA else t.cfg.slotA, slotB := if b then t.cfg.slotB else s.cfg.slotB } ∧
      Ends t k stDONE 2 ∧ OnlyEnds s t ∧ t = { s with cfg := t.cfg, hif := t.hif, freeCtr := t.freeCtr })

/-- R569: a ring created with a configuration no cause refuses is empty and ACTIVE, with its registers set to it. -/
def ringCreate : Prop :=
  ∀ (s : State) (k : Nat), s.wf → Served s k 0x0110 none →
    let r := descIndex (s.tag k).desc
    let h := ringAsked (s.tag k).desc
    r < 64 → s.ringCause r h = 0 →
    ∃ t, Goes (.ringCreate k) s t ∧
      (s.ringPlaced h = true → Ends t k stDONE 0 ∧ t.ring r = { h with
        st := .active, errCause := 0, errInfo := 0, phase := true, prod := 0, cons := 0, taken := 0, written := 0
        unsig := 0, unsigTick := 0, recentW := [], tkLeft := 0 }) ∧
      (s.ringPlaced h = false → Ends t k stDONE 1 ∧ (t.ring r).st = .error ∧ (t.ring r).errCause = 3) ∧
      t.regv (ringOff r) = h.base % 2 ^ 32 ∧ RingsBut [r] s t ∧
      t = { s with regs := t.regs, live := t.live, hif := t.hif, rcd := t.rcd }

/-- R569, R618: a ring that nothing refuses is disabled, RESULT the descriptors not taken; a disabled ring answers 0. -/
def ringDelete : Prop :=
  ∀ (s : State) (k : Nat), s.shape → Served s k 0x0111 none →
    let r := descIndex (s.tag k).desc
    2 ≤ r → r < 64 → s.ringDeleteCause r = 0 →
    ∃ t, Goes (.ringDelete k) s t ∧ (t.ring r).st = .disabled ∧
      Ends t k stDONE (if (s.ring r).st = .disabled then 0 else s.untaken r) ∧ RingsBut [r] s t ∧
      t.hif = { s.hif with
        rings := t.hif.rings, tags := t.hif.tags, decided := t.hif.decided, decLog := t.hif.decLog
        discarded := t.hif.discarded, runIds := t.hif.runIds, repeats := t.hif.repeats } ∧
      t = { s with hif := t.hif, rcd := t.rcd }

/-- R569, R596: the ring is empty and ACTIVE, RESULT the descriptors that were not taken. -/
def resetRing : Prop :=
  ∀ (s : State) (k : Nat), s.shape → Served s k 0x0112 none →
    let r := descIndex (s.tag k).desc
    2 ≤ r → r < 64 → (s.ring r).st ≠ .disabled →
    ∃ t, Goes (.resetRing k) s t ∧ Ends t k stDONE (s.untaken r) ∧
      t.ring r = { s.ring r with
        st := .active, errCause := 0, errInfo := 0, phase := true, prod := 0, cons := 0, unsig := 0, recentW := []
        tkLeft := 0 } ∧ RingsBut [r] s t ∧
      t.hif = { s.hif with
        rings := t.hif.rings, tags := t.hif.tags, decided := t.hif.decided, decLog := t.hif.decLog
        discarded := t.hif.discarded, runIds := t.hif.runIds, repeats := t.hif.repeats } ∧
      t = { s with hif := t.hif, rcd := t.rcd }

/-- R569, R561: the window has its new span and attributes, and RESULT is how many rings it put in RING_ERROR. -/
def dmaWindowSet : Prop :=
  ∀ (s : State) (k : Nat), s.shape → s.hif.wins.length = 8 → Served s k 0x0113 none →
    let d := (s.tag k).desc
    let i := descIndex d
    let base := descField d 24 8
    let pages := descField d 32 4
    let attr := descField d 36 1
    let win : Win := { base := base, pages := pages, rd := attr % 2 == 1, wr := attr / 2 % 2 == 1 }
    let s' := { s with hif.wins := s.hif.wins.modify i fun _ => win }
    let bad := (List.range 64).filter fun r => (s.ring r).st == .active && !s'.ringPlaced (s.ring r)
    i < 8 → base % 4096 = 0 → base + 4096 * pages ≤ 2 ^ 64 →
    ∃ t, Goes (.dmaWindowSet k) s t ∧ t.hif.wins.getD i {} = win ∧
      (∀ j, j ≠ i → t.hif.wins.getD j {} = s.hif.wins.getD j {}) ∧ Ends t k stDONE bad.length ∧
      (∀ r ∈ bad, (t.ring r).st = .error ∧ (t.ring r).errCause = 3) ∧ RingsBut bad s t ∧
      t = { s with hif := t.hif, rcd := t.rcd }

/-- R727: the bytes go to the bank that does not run; a bank that holds them already is DONE with RESULT 1. -/
def fwWrite : Prop :=
  ∀ (s : State) (k : Nat) (bank : List Byte), Served s k 0x0D01 (some fBRAKE) →
    let d := (s.tag k).desc
    let len := descField d 24 4
    s.inWindow false (descField d 32 8) len = true → s.writeBusy = 0 → s.cfg.wr = none → len ≠ 0 → len ≤ 4194304 →
    ∃ t, Goes (.fwWrite k bank) s t ∧
      (s.otherBank ≠ bank.take len →
        t.cfg = { s.cfg with wr := some (k, true, s.otherIsB, bank.take len) } ∧
        t.tag k = { s.tag k with st := .applied } ∧ TagsBut [k] s t ∧
        t = { s with cfg := t.cfg, hif := { s.hif with tags := t.hif.tags } }) ∧
      (s.otherBank = bank.take len → Ends t k stDONE 1 ∧ OnlyEnds s t ∧ t = { s with hif := t.hif })

/-- R727, R127: the bank holds the bytes; RESULT says whether it is valid. -/
def fwWriteComplete : Prop :=
  ∀ (s : State) (k : Nat) (b : Bool) (bytes : List Byte), s.cfg.wr = some (k, true, b, bytes) → k < s.hif.tags.length →
    (s.tag k).st = .applied → (s.tag k).discard = false →
    ∃ t, Goes .fwWriteComplete s t ∧ (if b then t.cfg.bankB else t.cfg.bankA) = bytes ∧
      (if b then t.cfg.bankA = s.cfg.bankA else t.cfg.bankB = s.cfg.bankB) ∧
      t.cfg.otherReason = t.bankFault t.otherBank ∧ t.cfg.otherValid = (t.cfg.otherReason == 0) ∧
      Ends t k stDONE (if t.cfg.otherReason = 0 then 0 else 2) ∧ OnlyEnds s t ∧
      t.cfg = { s.cfg with
        wr := none, bankA := t.cfg.bankA, bankB := t.cfg.bankB, otherReason := t.cfg.otherReason
        otherValid := t.cfg.otherValid, otherVersion := t.cfg.otherVersion } ∧
      t = { s with cfg := t.cfg, hif := t.hif }

/-- R628: an accepted item is the limit in force from then on, and RESULT repeats it; once SETUP_LOCK is set a looser
value is refused. -/
def brakeTighten : Prop :=
  ∀ (s : State) (k : Nat), s.wf → Served s k 0x0D02 (some fBRAKE) →
    let d := (s.tag k).desc
    let item := descField d 24 1
    let v := descField d 28 4
    let p := tightenField item (descIndex d)
    let old := s.regv p.1 / 2 ^ p.2.1 % 2 ^ p.2.2
    let looser := if item = 2 then v < old else old < v
    (tightenItems (descKind d)).contains item = true → v < 2 ^ p.2.2 →
    ∃ t, Goes (.brakeTighten k) s t ∧
      (looser → s.sys.lock = true → Ends t k stLOCKED 0 ∧ OnlyEnds s t ∧ t = { s with hif := t.hif, rcd := t.rcd }) ∧
      ((¬ looser ∨ s.sys.lock = false) → ¬ (item = 1 ∧ v < s.regv p.1 / 2 ^ 16) → ¬ (item = 2 ∧ s.regv p.1 % 2 ^ 16 < v) →
        Ends t k stDONE v ∧ t.regv p.1 / 2 ^ p.2.1 % 2 ^ p.2.2 = v ∧
        (∀ off, off ≠ p.1 → t.regv off = s.regv off)) ∧
      t = { s with
        regs := t.regs, live := t.live, rails := t.rails, phases := t.phases, sws := t.sws, hif := t.hif, rcd := t.rcd
        brake := t.brake }

/-- R729: with the key, the running version above the counter and advances left, the counter takes the running version;
otherwise the write is recorded only. -/
def rollbackAdvance : Prop :=
  ∀ (s : State) (w : Word), s.sys.linkUp = true →
    ∃ t, Goes (.rollbackAdvance w) s t ∧
      (w.getLsbD 0 = true → w.toNat / 256 % 256 = 0xC3 → s.sys.rollback.toNat < s.cfg.fwVersion → s.sys.rollbackLeft ≠ 0 →
        t.sys = { s.sys with
          rollback := BitVec.ofNat 64 s.cfg.fwVersion, rollbackLeft := s.sys.rollbackLeft - 1 }) ∧
      (¬ (w.getLsbD 0 = true ∧ w.toNat / 256 % 256 = 0xC3 ∧ s.sys.rollback.toNat < s.cfg.fwVersion ∧
        s.sys.rollbackLeft ≠ 0) → t.sys = s.sys) ∧
      t = { s with sys := t.sys, rcd := t.rcd }

/-! ### Recorder and frame trace (spec/18) -/

/-- R693, R694: a due refill gives the code one token; below the burst the next refill runs, and what was suppressed is
reported and forgotten. -/
def tokenRefill : Prop :=
  ∀ (s : State) (code : Nat), (s.bucket code).refillIn = some 0 →
    let b := s.bucket code
    ∃ t, Goes (.tokenRefill code) s t ∧ (t.bucket code).tokens = b.tokens + 1 ∧ (t.bucket code).supp = 0 ∧
      (t.bucket code).refillIn = (if b.tokens + 1 < s.burst code then some (s.refillEpochs code) else none) ∧
      (∀ c, c ≠ code → t.bucket c = s.bucket c) ∧
      (b.supp = 0 → t.rcd = { s.rcd with buckets := t.rcd.buckets }) ∧ t = { s with rcd := t.rcd }

/-- What programming a page of staged records leaves (R698, R706). -/
def Programmed (s t : State) (n : Nat) : Prop :=
  let page := s.rcd.staging.take n
  (∀ r, page.getLast? = some r → t.rcd.flashSeq = r.seq ∧
    t.rcd.log = (s.rcd.log ++ page).filter fun x => decide ((r.seq - x.seq).toNat ≤ (r.seq - t.rcd.oldest).toNat)) ∧
  (s.rcd.lostNow = 0 → s.rcd.lost3 = 0 → t.rcd.staging = s.rcd.staging.drop n)

/-- R698: the oldest 8 staged records are programmed as one page. -/
def flashPageWrite : Prop :=
  ∀ (s : State), 8 ≤ s.rcd.staging.length → ∃ t, Goes .flashPageWrite s t ∧ Programmed s t 8 ∧ t = { s with rcd := t.rcd }

/-- R698: when the oldest staged record is 10 ms old, what is staged of a page is programmed. -/
def partialPageFlush : Prop :=
  ∀ (s : State) (since : Nat), s.rcd.stageTick.head? = some since → since + 1000 ≤ s.clk.tick → s.rcd.staging ≠ [] →
    ∃ t, Goes .partialPageFlush s t ∧ Programmed s t 8 ∧ t = { s with rcd := t.rcd }

/-- R701, R496: after VAON loss all of staging is programmed, and a gauge write that waited for it follows. -/
def stagingFlushed : Prop :=
  ∀ (s : State), s.sys.vaonLost = true →
    ∃ t, Goes .stagingFlushed s t ∧ (s.gauge.shutWait = false → t.rcd.staging = [] ∧ t.gauge = s.gauge) ∧
      (∀ r, s.rcd.staging.getLast? = some r → t.rcd.flashSeq = r.seq) ∧ t = { s with gauge := t.gauge, rcd := t.rcd }

/-- R708: a cursor write starts a fetch of the window. -/
def recCursorWrite : Prop :=
  ∀ (s : State) (w : Word), s.sys.linkUp = true →
    ∃ t, Goes (.recCursorWrite w) s t ∧ t.rcd = { s.rcd with cursor := w, winBusy := true, window := [] } ∧
      t = { s with rcd := t.rcd }

/-- R710: a snapshot takes the newest admitted SEQ, and the window is fetched. -/
def recSnap : Prop :=
  ∀ (s : State), s.sys.linkUp = true →
    ∃ t, Goes .recSnap s t ∧
      t.rcd = { s.rcd with snapSeq := s.recHead, snapValid := true, winBusy := true, window := [] } ∧
      t = { s with rcd := t.rcd }

/-- R708, R709: entry `k` of the window is the record with the cursor's SEQ plus `k`; zero above the snapshot, GONE below
the oldest. -/
def windowFetchDone : Prop :=
  ∀ (s : State), s.rcd.winBusy = true →
    ∃ t, Goes .windowFetchDone s t ∧ t.rcd.winBusy = false ∧ t.rcd.window.length = 8 ∧
      (∀ k < 8,
        let seq := s.rcd.cursor + BitVec.ofNat 32 k
        t.rcd.window.getD k none =
          if serialAbove seq s.rcd.snapSeq = true ∨ s.rcd.any = false then none
          else if serialAbove s.rcd.oldest seq = true then some (s.gone seq) else some (s.recAt seq)) ∧
      t = { s with rcd := { s.rcd with winBusy := t.rcd.winBusy, window := t.rcd.window } }

/-- R624: the records from the first SEQ on go to host memory, at most as many as there are; RESULT counts them and those
that are GONE. -/
def recRead : Prop :=
  ∀ (s : State) (k : Nat), Served s k 0x0901 (some fREC) →
    let d := (s.tag k).desc
    let first := BitVec.ofNat 32 (descField d 24 4)
    let n := descField d 28 2
    let a := descField d 32 8
    let m := if s.rcd.any = true ∧ serialAbove first s.recHead = false then (s.recHead - first).toNat + 1 else 0
    let rs := (List.range (min n m)).map fun i => s.recAt (first + BitVec.ofNat 32 i)
    s.inWindow true a (32 * n) = true → n ≠ 0 → n ≤ 4096 → a % 32 = 0 →
    ∃ t, Goes (.recRead k) s t ∧ t.hif.posted = s.hif.posted ++ [.mem a (rs.flatMap recordBytes)] ∧
      Ends t k stDONE (rs.length + 2 ^ 16 * (rs.filter fun r => r.code == 0xFFFF).length) ∧
      OnlyEnds { s with hif.posted := t.hif.posted } t ∧ t = { s with hif := t.hif }

/-- R714, R616, R617: an accepted trigger is under way with the descriptor in progress; a trigger while one is under way
or the trace off is refused; a repeat of a run that ended has its outcome. -/
def recTrigger : Prop :=
  ∀ (s : State) (k : Nat), Served s k 0x0902 (some fREC) →
    let code := descField (s.tag k).desc 24 2
    let rid := descField (s.tag k).desc 26 2
    ∃ t, Goes (.recTrigger k) s t ∧
      (s.repeatOf 0x0902 rid 0 = none → s.rcd.trTrig = none → s.rcd.trSt ≠ .off →
        t.rcd.trTrig = some {
          kind := 0, code := code, tick := s.clk.tick, frame := s.clk.count, time := s.clk.strobe, seq := s.rcd.next
          slots := [k] } ∧ t.tag k = { s.tag k with st := .applied } ∧ TagsBut [k] s t) ∧
      (s.repeatOf 0x0902 rid 0 = none → s.rcd.trTrig.isSome = true → Ends t k stBADPARAM 2 ∧ OnlyEnds s t) ∧
      (s.repeatOf 0x0902 rid 0 = none → s.rcd.trTrig = none → s.rcd.trSt = .off → Ends t k stBADPARAM 3 ∧ OnlyEnds s t) ∧
      (∀ r, s.repeatOf 0x0902 rid 0 = some r → r.done = true → Ends t k r.status r.result.toNat ∧ OnlyEnds s t) ∧
      t = { s with rcd := t.rcd, hif := t.hif }

/-- R719: the asked bytes of a slot that holds a trace go to host memory. -/
def recTraceRead : Prop :=
  ∀ (s : State) (k : Nat) (x : TrSlot), Served s k 0x0903 (some fREC) →
    let d := (s.tag k).desc
    let off := descField d 28 4
    let len := descField d 40 4
    s.inWindow true (descField d 32 8) len = true → s.rcd.trSlots.getD (descField d 24 1) none = some x →
    off % 4096 = 0 → len % 4096 = 0 → off + len ≤ 1572864 →
    ∃ t, Goes (.recTraceRead k) s t ∧
      t.hif.posted = s.hif.posted ++ [.mem (descField d 32 8) (trSlotRead x off len)] ∧ Ends t k stDONE len ∧
      OnlyEnds { s with hif.posted := t.hif.posted } t ∧ t = { s with hif := t.hif }

/-- R715: the entry of frame T + 4,499 written, the trace freezes, and its write starts if the slot is erased. -/
def traceFreeze : Prop :=
  ∀ (s : State) (g : TrTrig), s.rcd.trTrig = some g → s.rcd.trSt = .running → g.tick + 4500 ≤ s.clk.tick →
    ∃ t, Goes .traceFreeze s t ∧
      t.rcd = { s.rcd with trSt := if s.rcd.trErased then .writing else .frozen, trProg := 0 } ∧ t = { s with rcd := t.rcd }

/-- R716: the slot holds the frozen trace, or nothing where the write failed; every descriptor that waited ends with the
slot's number; the trace goes on with no earlier entries. -/
def traceWritten : Prop :=
  ∀ (s : State) (g : TrTrig) (ok : Bool) (ms : Nat), s.rcd.trTrig = some g → s.rcd.trSt = .writing →
    s.rcd.trSlot < s.rcd.trSlots.length →
    ∃ t, Goes (.traceWritten ok ms) s t ∧
      t.rcd.trSlots = s.rcd.trSlots.set s.rcd.trSlot (if ok then some (s.frozen g) else none) ∧
      t.rcd.trNewest = (if ok then some s.rcd.trSlot else s.rcd.trNewest) ∧ t.rcd.trTrig = none ∧ t.rcd.trBuf = [] ∧
      t.rcd.trSt = (if s.cfgb 0xB024 0 then .running else .off) ∧
      (∀ k ∈ g.slots, k < s.hif.tags.length → (s.tag k).st = .applied → (s.tag k).discard = false →
        g.slots = [k] → Ends t k stDONE s.rcd.trSlot) ∧ OnlyEnds s t ∧
      t = { s with hif := t.hif, rcd := t.rcd }

/-- R706: the slot ahead is erased, and a frozen trace's write starts. -/
def eraseAheadComplete : Prop :=
  ∀ (s : State), ∃ t, Goes .eraseAheadComplete s t ∧
    t.rcd = { s.rcd with trErased := true, trSt := if s.rcd.trSt = .frozen then .writing else s.rcd.trSt } ∧
    t = { s with rcd := t.rcd }

/-! ### Maintenance and perturbation (spec/20) -/

/-- R752, R753: activity `c` has ended with this outcome. -/
def Ended (t : State) (c outcome : Nat) : Prop :=
  t.maint.running.getLsbD c = false ∧ t.maint.lastCode = c ∧ t.maint.lastOut = outcome

/-- R752, R759–R762: an activity whose argument is allowed, that nothing running forbids and whose start condition holds,
runs; each refusal has its status. -/
def maintStart : Prop :=
  ∀ (s : State) (k : Nat),
    let d := (s.tag k).desc
    let c := descField d 24 1
    let arg := descField d 28 4
    Served s k 0x0A01 (s.maintFn d) → s.repeatOf 0x0A01 (descField d 26 2) 0 = none →
    ∃ t, Goes (.maintStart k) s t ∧
      (maintAbsent s.sys.variant c = true → Ends t k stABSENT 0 ∧ OnlyEnds s t) ∧
      (maintAbsent s.sys.variant c = false → (c = 0 ∨ 8 < c) → Ends t k stBADPARAM 1 ∧ OnlyEnds s t) ∧
      (maintAbsent s.sys.variant c = false → 1 ≤ c → c ≤ 8 →
        (s.maintBadArg c arg = true → Ends t k stBADPARAM 2 ∧ OnlyEnds s t) ∧
        (s.maintBadArg c arg = false → ∀ f, s.maintForbids c = some f →
          Ends t k stMAINT f ∧ t.maint = { s.maint with refused := satInc 32 s.maint.refused } ∧ OnlyEnds s t) ∧
        (s.maintBadArg c arg = false → s.maintForbids c = none → s.maintCond c arg = false →
          Ends t k stBADPARAM 3 ∧ OnlyEnds s t) ∧
        (s.maintBadArg c arg = false → s.maintForbids c = none → s.maintCond c arg = true →
          t.maint.running = setBit s.maint.running c ∧ Ends t k stDONE 0 ∧ OnlyEnds s t ∧
          (c = 7 → t.path.searching = true) ∧ (c = 2 → t.tdm.drillPhase = 1) ∧
          (c = 4 → t.maint.calLeft = s.calList) ∧ (c = 5 → t.maint.compactLeft = s.compactSectors) ∧
          (c = 8 → t.maint.dryStep = 0))) ∧
      t = { s with path := t.path, tdm := t.tdm, hif := t.hif, rcd := t.rcd, maint := t.maint }

/-- R752, R758: an activity that can stop at once ends as stopped with the descriptor DONE, RESULT 1; one that first comes
to its stopping point keeps it in progress; one that does not run answers 0. -/
def maintStop : Prop :=
  ∀ (s : State) (k : Nat),
    let d := (s.tag k).desc
    let c := descField d 24 1
    Served s k 0x0A02 (s.maintFn d) → maintAbsent s.sys.variant c = false → 1 ≤ c → c ≤ 8 →
    ∃ t, Goes (.maintStop k) s t ∧
      (s.maintOn c = false → Ends t k stDONE 0 ∧ t = { s with hif := t.hif }) ∧
      (s.maintOn c = true → s.stopsNow c = true →
        t.maint.running.getLsbD c = false ∧ Ends t k stDONE 1) ∧
      (s.maintOn c = true → s.stopsNow c = false →
        t.tag k = { s.tag k with st := .applied } ∧ TagsBut [k] s t ∧
        t.maint = { s.maint with stopSlots := s.maint.stopSlots ++ [(c, k)] } ∧
        t = { s with maint := t.maint, hif := t.hif }) ∧ OnlyEnds s t ∧
      t = { s with path := t.path, tdm := t.tdm, hif := t.hif, rcd := t.rcd, maint := t.maint }

/-- R754: the next selected channel that is OFF has been tested; after the last one, or at a stop asked for, the activity
ends. -/
def selftestChannel : Prop :=
  ∀ (s : State) (result : SelfTest) (n : Nat) (rest : List Nat), s.maintOn 3 = true →
    ((bitsOf 24 s.maint.swLeft.toNat).filter fun n => (s.sw n).st == .off) = n :: rest →
    ∃ t, Goes (.selftestChannel result) s t ∧ t.maint.swTested = setBit s.maint.swTested n ∧
      t.maint.swFail = (match result with | .passed => s.maint.swFail | .failed _ _ => setBit s.maint.swFail n) ∧
      (s.stopAsked 3 = true → Ended t 3 1) ∧ (s.stopAsked 3 = false → rest = [] → Ended t 3 0) ∧
      (s.stopAsked 3 = false → rest ≠ [] →
        t.maint = { s.maint with swTested := t.maint.swTested, swFail := t.maint.swFail, swLeft := t.maint.swLeft } ∧
        t.maint.swLeft = BitVec.ofNat 24 (maskOf rest)) ∧ OnlyEnds s t ∧
      t = { s with hif := t.hif, rcd := t.rcd, maint := t.maint }

/-- R755: an idle converter takes its new offset, one that is not idle is skipped and keeps its calibration. -/
def adcCalConverter : Prop :=
  ∀ (s : State) (conv : Nat) (offset : Option Int), s.maintOn 4 = true → s.maint.calLeft.contains conv = true →
    ∃ t, Goes (.adcCalConverter conv offset) s t ∧
      (∀ o, offset = some o → s.calIdle conv = true → conv < 32 → conv < s.phases.length →
        t.phase conv = { s.phase conv with iofs := o } ∧ t.maint.calSkip = s.maint.calSkip) ∧
      (offset = none ∨ s.calIdle conv = false → t.phases = s.phases ∧ t.maint.calSkip = s.maint.calSkip + 1) ∧
      PhasesBut [conv] s t ∧
      (s.stopAsked 4 = true → Ended t 4 1) ∧
      (s.stopAsked 4 = false → (∀ x ∈ s.maint.calLeft, x = conv) → Ended t 4 0) ∧
      (s.stopAsked 4 = false → (∃ x ∈ s.maint.calLeft, x ≠ conv) →
        t.maint = { s.maint with calLeft := s.maint.calLeft.filter (· ≠ conv), calSkip := t.maint.calSkip }) ∧
      OnlyEnds s t ∧ t = { s with phases := t.phases, hif := t.hif, rcd := t.rcd, maint := t.maint }

/-- R752: one sector is done; after the last the erase-ahead stands restored and the activity has completed. -/
def logCompactSector : Prop :=
  ∀ (s : State), s.maintOn 5 = true →
    ∃ t, Goes .logCompactSector s t ∧
      (s.stopAsked 5 = true → Ended t 5 1) ∧
      (s.stopAsked 5 = false → s.maint.compactLeft ≤ 1 → t.rcd.trErased = true ∧ Ended t 5 0) ∧
      (s.stopAsked 5 = false → 1 < s.maint.compactLeft →
        t.maint = { s.maint with compactLeft := s.maint.compactLeft - 1 } ∧ t.rcd = s.rcd) ∧ OnlyEnds s t ∧
      t = { s with hif := t.hif, rcd := t.rcd, maint := t.maint }

/-- R728, R756: at the safe point a valid other bank is selected for the next boot and a warm reset with cause 4 is asked
for; an invalid one ends the swap as failed. -/
def safePoint : Prop :=
  ∀ (s : State), s.maintOn 6 = true → s.safePoint = true → s.sys.warmPending = none →
    ∃ t, Goes .safePoint s t ∧
      (s.bankFault s.otherBank = 0 → t.cfg = { s.cfg with journalB := s.otherIsB } ∧ t.sys.warmPending = some 4 ∧
        (s.tdm.st = .active → s.tdm.peer = 6 → t.tdm.yieldReq = 5)) ∧
      (s.bankFault s.otherBank ≠ 0 → Ended t 6 2 ∧ t.cfg.otherValid = false ∧ t.cfg.journalB = s.cfg.journalB) ∧
      OnlyEnds s t ∧
      t = { s with
        sys := t.sys, cfg := t.cfg, rails := t.rails, phases := t.phases, sws := t.sws, seq := t.seq, path := t.path
        tdm := t.tdm, hif := t.hif, rcd := t.rcd, maint := t.maint }

/-- R756: a swap that does not come to its safe point in time fails. -/
def swapWaitExpiry : Prop :=
  ∀ (s : State), s.maintOn 6 = true → s.sys.warmPending = none →
    s.maint.startTick.getD 6 0 + 100 * s.cfgf 0xD008 0 16 ≤ s.clk.tick →
    ∃ t, Goes .swapWaitExpiry s t ∧ Ended t 6 2 ∧ OnlyEnds s t ∧
      t = { s with hif := t.hif, rcd := t.rcd, maint := t.maint }

/-- R757: the dry run checks one step a frame, each finding is counted, and after the last step it has completed. -/
def dryrunStep : Prop :=
  ∀ (s : State), s.maintOn 8 = true → s.maint.startTick.getD 8 0 + s.maint.dryStep < s.clk.tick →
    let p := s.maint.arg.getD 8 0
    let st := progStep s.cfg.seqSect p s.maint.dryStep
    let n := progCount s.cfg.seqSect p
    ∃ t, Goes .dryrunStep s t ∧ t.maint.dryStep = s.maint.dryStep + 1 ∧
      t.maint.dryFound = s.maint.dryFound + (s.dryFindings st).length ∧
      (n ≤ s.maint.dryStep + 1 → Ended t 8 0) ∧
      (s.maint.dryStep + 1 < n → s.stopAsked 8 = true → Ended t 8 1) ∧
      (s.maint.dryStep + 1 < n → s.stopAsked 8 = false →
        t.maint = { s.maint with
          dryStep := t.maint.dryStep, dryFound := t.maint.dryFound, dryOn := t.maint.dryOn }) ∧ OnlyEnds s t ∧
      t = { s with hif := t.hif, rcd := t.rcd, maint := t.maint }

/-- R765: the key with BENCH high through an epoch unlocks the perturbation unit, with its count at 0. -/
def testUnlock : Prop :=
  ∀ (s : State) (w : Word), s.sys.linkUp = true → w.toNat / 2 ^ 16 = 0xB3C4 → 100 ≤ s.maint.benchHigh →
    s.maint.unlocked = false →
    ∃ t, Goes (.testUnlock w) s t ∧ t.maint.unlocked = true ∧ t.maint.injected = 0 ∧
      t.maint = { s.maint with unlocked := true, injected := 0, lfsr := t.maint.lfsr } ∧
      t = { s with rcd := t.rcd, maint := t.maint }

/-- R766: another key locks it. -/
def testLock : Prop :=
  ∀ (s : State) (w : Word), s.sys.linkUp = true → w.toNat / 2 ^ 16 ≠ 0xB3C4 →
    ∃ t, Goes (.testLock w) s t ∧ t.maint = { s.maint with unlocked := false } ∧
      (s.maint.unlocked = false → t = s) ∧ t = { s with rcd := t.rcd, maint := t.maint }

/-- R766: BENCH low in two sample sets locks it and clears every TEST register. -/
def benchLow : Prop :=
  ∀ (s : State), 2 ≤ s.maint.benchLow →
    ∃ t, Goes .benchLow s t ∧ t.maint = { s.maint with unlocked := false, dbHeld := [] } ∧
      (∀ off, 0xE000 ≤ off → off < 0xF000 → t.regv off = regReset s.sys.variant off ∧
        t.cfgv off = regReset s.sys.variant off) ∧
      (∀ off, off < 0xE000 ∨ 0xF000 ≤ off → t.regv off = s.regv off ∧ t.cfgv off = s.cfgv off) ∧
      t = { s with regs := t.regs, live := t.live, rcd := t.rcd, maint := t.maint }

/-! ### Waybill and Drayline (spec/16, spec/17) -/

/-- R631, R634, R635: the held image goes to the half its generation names, GEN_BEGIN first and GEN_END last, and the
builder is RUNNING with nothing held. -/
def waybillWrite : Prop :=
  ∀ (s : State) (g : Nat) (f : BitVec 32) (b : List Byte), s.way.held = some (g, f, b) → s.commands = true →
    s.way.st ≠ 3 → s.wayCan f = true → s.running = true →
    let a := s.way.base + 8192 * (g % 2)
    let im := s.wayFinal g b
    ∃ t, Goes .waybillWrite s t ∧
      (∃ l, l.length ≤ 1 ∧ t.hif.posted = s.hif.posted ++
        [.mem a (im.take 8), .mem (a + 8) (im.drop 8), .mem (a + 0x1FF8) (leBytes 8 g)] ++ l) ∧
      t.way = { s.way with held := none, genWritten := g, first := false, tkFirst := false, st := 1, cause := 0 } ∧
      t = { s with
        way := t.way, rcd := t.rcd, hif := { s.hif with posted := t.hif.posted, vecPend := t.hif.vecPend } }

/-- R673: a stale message is dropped, counted and recorded; it changes nothing else but the count of frames received. -/
def Dropped (s t : State) : Prop :=
  t.dray.stale = satInc 32 s.dray.stale ∧
  t = { s with
    rcd := t.rcd
    dray := { s.dray with
      stale := t.dray.stale, staleEpoch := t.dray.staleEpoch, rxUp := t.dray.rxUp, upPlca := t.dray.upPlca
      rxDn := t.dray.rxDn } }

/-- R74–R77, R662, R674, R675: a BEACON whose predecessor's stamp is known pairs the leader's time with the node's own:
it sets the offset where none stands or the session is new, else it measures the error. -/
def beacon : Prop :=
  ∀ (s : State) (h : DrayHdr) (prevSfd leaderState stamp : Nat) (joined flags : BitVec 8), s.hearsUp h = true →
    let new := s.newSession h
    let leader : Int := (prevSfd : Int) + s.cfgf 0xA004 0 16
    let set := s.clk.ofsSet = false ∨ s.dray.alignNew = true ∨ new = true
    ∃ t, Goes (.beacon h prevSfd leaderState joined flags stamp) s t ∧
      (s.staleReason h ≠ 0 → Dropped s t) ∧
      (s.staleReason h = 0 →
        t.dray.upJoined = joined.getLsbD s.upId ∧ t.dray.lastStamp = some stamp ∧ t.dray.lastEp = h.epoch ∧
        (∀ own, s.dray.lastStamp = some own → prevSfd ≠ 0 → s.dray.lastEp + 1 = h.epoch →
          t.dray.beaconEp = (h.epoch + 1) % 2 ^ 32 ∧ t.dray.upSilent = 0 ∧ t.clk.noBeacon = 0 ∧
          (set → t.clk.ofsSet = true ∧ t.clk.alignOfs = nearestFrame (leader - own) ∧ t.clk.alignState = .acquiring) ∧
          (¬ set → t.clk.alignOfs = s.clk.alignOfs ∧ t.clk.alignErr = own + s.clk.alignOfs - leader ∧
            t.clk.lockRun = if t.clk.alignErr.natAbs ≤ 2000 then s.clk.lockRun + 1 else 0)) ∧
        (s.dray.lastStamp = none ∨ prevSfd = 0 ∨ s.dray.lastEp + 1 ≠ h.epoch → t.clk = s.clk) ∧
        (new = true → ∀ n ∈ s.railIdx, (t.rail n).fcLead = none)) ∧ OnlyEnds s t ∧
      (new = false → t.rails = s.rails ∧ t.phases = s.phases ∧ t.hif = s.hif) ∧
      t = { s with
        clk := t.clk, rails := t.rails, phases := t.phases, hif := t.hif, dray := t.dray, rcd := t.rcd
        freeCtr := t.freeCtr }

/-- R75: ten epochs of a small error, the alignment is LOCKED. -/
def alignLock : Prop :=
  ∀ (s : State), s.clk.alignState = .acquiring → 10 ≤ s.clk.lockRun →
    ∃ t, Goes .alignLock s t ∧ t.clk = { s.clk with alignState := .locked } ∧ t = { s with clk := t.clk, rcd := t.rcd }

/-- R76: ten epochs without a valid BEACON, the alignment is in HOLDOVER with its offset kept. -/
def holdover : Prop :=
  ∀ (s : State), (s.clk.alignState = .acquiring ∨ s.clk.alignState = .locked) → 10 ≤ s.clk.noBeacon →
    ∃ t, Goes .holdover s t ∧ t.clk = { s.clk with alignState := .holdover, lockRun := 0 } ∧
      t = { s with clk := t.clk, rcd := t.rcd }

/-- R665, R679: the node's entry of a CAP is its leader cap; in the safe floor it is acknowledged only. -/
def cap : Prop :=
  ∀ (s : State) (h : DrayHdr) (caps : List Nat), s.hearsUp h = true →
    ∃ t, Goes (.cap h caps) s t ∧ (s.staleReason h ≠ 0 → Dropped s t) ∧
      (s.staleReason h = 0 → t.dray.capEpoch = h.epoch ∧
        (s.brake.inFloor = false →
          t.cap = { s.cap with leader := caps.getD (s.upId - 1) 0 % 2 ^ 32 } ∧ t.dray.fallback = false) ∧
        (s.brake.inFloor = true → t.cap = s.cap ∧ t.rcd = s.rcd)) ∧
      t = { s with cap := t.cap, dray := t.dray, rcd := t.rcd }

/-- R671, R679: a FORECAST the node takes is the rail's leader entry, in the node's own time; its SEQ is acknowledged
either way. -/
def forecast : Prop :=
  ∀ (s : State) (h : DrayHdr) (time rise window rail : Nat) (di : Int), s.shape → s.hearsUp h = true →
    let own := ((time : Int) - s.clk.alignOfs).toNat
    ∃ t, Goes (.forecast h time di rise window rail) s t ∧ (s.staleReason h ≠ 0 → Dropped s t) ∧
      (s.staleReason h = 0 → t.dray.fcAck = some (h.seq % 4096) ∧
        (s.brake.inFloor = true ∨ s.fcRefusal own di rise window rail ≠ 0 →
          t = { s with dray := t.dray, rcd := t.rcd }) ∧
        (s.brake.inFloor = false → s.fcRefusal own di rise window rail = 0 →
          (∃ e, (t.rail rail).fcLead = some e ∧ e.t = own ∧ e.di = di ∧ e.rise = rise ∧ e.window = window ∧
            e.slot = none) ∧ (t.rail rail).fcHost = (s.rail rail).fcHost)) ∧ RailsBut [rail] s t ∧ OnlyEnds s t ∧
      t = { s with rails := t.rails, phases := t.phases, hif := t.hif, dray := t.dray, rcd := t.rcd }

/-- R668: an ALARM whose SEQ the ACK names for this node is no longer repeated. -/
def ack : Prop :=
  ∀ (s : State) (h : DrayHdr) (entries : List (Nat × Nat)), s.hearsUp h = true →
    ∃ t, Goes (.ack h entries) s t ∧ (s.staleReason h ≠ 0 → Dropped s t) ∧
      (s.staleReason h = 0 →
        (∀ a ∈ t.dray.alarms, a ∈ s.dray.alarms) ∧
        (∀ a ∈ s.dray.alarms, a ∈ t.dray.alarms ↔
          ¬ (s.upUsed = true ∧ ∃ p ∈ entries, p.1 = s.upId ∧ p.2 % 4096 ∈ a.seqs))) ∧
      t = { s with dray := t.dray, rcd := t.rcd }

/-- An upward frame the leader accepts (R653, R673). -/
def Accepted (s : State) (h : DrayHdr) (p : DrayUp) : Prop :=
  s.hearsDown h = true ∧ s.conflicts h = false ∧ s.staleReason h = 0 ∧ s.earlier h p = false ∧
  s.dray.nodes.length = 8 ∧ s.dray.vehicle.length = 56

/-- What an accepted upward frame does (R646, R666, R675): its node is joined and heard, and the summary is the entry's. -/
def UpTaken (s t : State) (h : DrayHdr) (p : DrayUp) : Prop :=
  (t.node h.src).joined = true ∧ (t.node h.src).mac = h.mac ∧ (t.node h.src).heard = true ∧ (t.node h.src).silent = 0 ∧
  (∀ m, m ≠ h.src → t.node m = s.node m) ∧
  (∀ i, s.entryOf h.src (p.subject % 8) = some i → i < 56 → t.dray.vehicle.getD i {} =
    { joinedEver := true, lost := false, epoch := h.epoch, subj := p.subjEpoch, summary := p.summary }) ∧
  (∀ i, s.entryOf h.src (p.subject % 8) ≠ some i → t.dray.vehicle.getD i {} = s.dray.vehicle.getD i {}) ∧ OnlyEnds s t ∧
  t = { s with hif := t.hif, dray := t.dray, rcd := t.rcd }

/-- R653, R673: an upward frame of a second address under one ID sets the node's conflict; a stale one is dropped. -/
def Turned (s t : State) (h : DrayHdr) (p : DrayUp) : Prop :=
  (s.conflicts h = true → (t.node h.src).mac2 = some h.mac ∧ t.dray.vehicle = s.dray.vehicle ∧
    (∀ m, m ≠ h.src → t.node m = s.node m) ∧ t = { s with dray := t.dray, rcd := t.rcd }) ∧
  (s.conflicts h = false → (s.staleReason h ≠ 0 ∨ s.earlier h p = true) → Dropped s t)

/-- R666: a REPORT brings its subject's summary. -/
def report : Prop :=
  (∀ (s : State) (h : DrayHdr) (p : DrayUp), Accepted s h p → ∃ t, Goes (.report h p) s t ∧ UpTaken s t h p) ∧
  (∀ (s : State) (h : DrayHdr) (p : DrayUp), s.hearsDown h = true → s.dray.nodes.length = 8 →
    ∃ t, Goes (.report h p) s t ∧ Turned s t h p)

/-- R672: a leader's STAGE is the stage STAGE_UP waits for, a led node's its own stage. -/
def stage : Prop :=
  (∀ (s : State) (h : DrayHdr) (v : Nat), s.hearsUp h = true →
    ∃ t, Goes (.stage h v none) s t ∧ (s.staleReason h ≠ 0 → Dropped s t) ∧
      (s.staleReason h = 0 → t.seq = { s.seq with stageUp := some (v % 256) }) ∧
      t = { s with seq := t.seq, dray := t.dray, rcd := t.rcd }) ∧
  (∀ (s : State) (h : DrayHdr) (v : Nat) (p : DrayUp), Accepted s h p →
    ∃ t, Goes (.stage h v (some p)) s t ∧ UpTaken s t h p ∧ (t.node h.src).stage = some (p.event % 256)) ∧
  (∀ (s : State) (h : DrayHdr) (v : Nat) (p : DrayUp), s.hearsDown h = true → s.dray.nodes.length = 8 →
    ∃ t, Goes (.stage h v (some p)) s t ∧ Turned s t h p)

/-- R667, R668: an ALARM is acknowledged in the next ACK, and a Zone passes it on to its own leader. -/
def alarm : Prop :=
  (∀ (s : State) (h : DrayHdr) (p : DrayUp), Accepted s h p →
    ∃ t, Goes (.alarm h p) s t ∧ UpTaken s t h p ∧
      t.dray.ackQ = s.dray.ackQ ++ [(h.src, h.seq % 4096, s.clk.tick)] ∧
      (s.sys.role = .zone → p.subject % 8 = 0 → s.upUsed = true →
        ∃ a ∈ t.dray.alarms, a.subject = h.src ∧ a.summary = p.summary ∧ a.subjEpoch = h.epoch) ∧
      (s.sys.role ≠ .zone → t.dray.alarms = s.dray.alarms)) ∧
  (∀ (s : State) (h : DrayHdr) (p : DrayUp), s.hearsDown h = true → s.dray.nodes.length = 8 →
    ∃ t, Goes (.alarm h p) s t ∧ Turned s t h p)

/-- R627, R676: a joined node silent for the time set has left: its entries are LOST, its forecasts and caps in flight are
aborted. -/
def nodeLoss : Prop :=
  ∀ (s : State) (n : Nat), (s.node n).joined = true → s.cfgf 0xA008 0 8 ≤ (s.node n).silent → s.downUsed = true →
    ∃ t, Goes (.nodeLoss n) s t ∧
      t.node n = { s.node n with joined := false, silent := 0, heard := false, capSlots := [], stage := none } ∧
      (∀ m, m ≠ n → t.node m = s.node m) ∧
      (∀ q ∈ t.dray.queue, q ∈ s.dray.queue ∧ ∀ a b c d e f g i j, q ≠ .fc a n b c d e f g i j) ∧
      (∀ k e, (s.node n).capSlots = [(k, e)] → k < s.hif.tags.length → (s.tag k).st = .applied →
        (s.tag k).discard = false → Ends t k stABORTED 1) ∧ OnlyEnds s t ∧
      t = { s with hif := t.hif, dray := t.dray, rcd := t.rcd }

/-- R653: the conflict clears once the second address has been silent for the time set. -/
def idConflictClear : Prop :=
  ∀ (s : State) (n : Nat), (s.node n).mac2.isSome = true → s.cfgf 0xA008 0 8 ≤ (s.node n).mac2Silent →
    ∃ t, Goes (.idConflictClear n) s t ∧ t.node n = { s.node n with mac2 := none, mac2Silent := 0 } ∧
      (∀ m, m ≠ n → t.node m = s.node m) ∧ t = { s with dray := { s.dray with nodes := t.dray.nodes } }

/-- R677: the uplink lost, the leader cap follows the policy and every leader forecast is retired. -/
def drayUplinkLoss : Prop :=
  ∀ (s : State), s.upUsed = true → s.dray.upState ≠ 0 → s.dray.upState ≠ 3 → s.cfgf 0xA008 8 8 ≤ s.dray.upSilent →
    ∃ t, Goes .drayUplinkLoss s t ∧ t.dray.upState = 3 ∧ t.dray.upJoined = false ∧
      t.cap = { s.cap with
        leader := match s.cfgf 0xA008 16 2 with | 0 => s.cap.leader | 2 => s.cfgv 0xA00C | _ => 0 } ∧
      (∀ n ∈ s.railIdx, (t.rail n).fcLead = none) ∧ OnlyEnds s t ∧
      t = { s with
        rails := t.rails, phases := t.phases, hif := t.hif, dray := t.dray, rcd := t.rcd, cap := t.cap }

/-- R654: a frame discarded for its CRC is counted. -/
def drayCrcDiscard : Prop :=
  ∀ (s : State) (port : Nat), s.running = true → (port = 0 ∧ s.upUsed = true ∨ port = 1 ∧ s.downUsed = true) →
    ∃ t, Goes (.drayCrcDiscard port) s t ∧ t.dray.crc = satInc 32 s.dray.crc ∧
      t.dray.crcEpoch = s.dray.crcEpoch.modify port (· + 1) ∧
      t = { s with dray := { s.dray with crc := t.dray.crc, crcEpoch := t.dray.crcEpoch, crcFirst := t.dray.crcFirst } }

/-- R658–R660: the port's frames of the epoch: the uplink's one frame under the next SEQ; the downlink's burst, BEACON
first, then CAP, and at most an ACK and one further frame. -/
def drayTransmit : Prop :=
  (∀ (s : State) (sfd : Nat), s.maySend 0 = true → s.clk.pos < 90 → s.released s.clk.lastCount = true →
    s.tdm.soloHold = false → s.dray.upDue = true →
    ∃ t, Goes (.drayTransmit 0 sfd) s t ∧ t.dray.upDue = false ∧ t.dray.upSeq = (s.dray.upSeq + 1) % 4096 ∧
      (s.perturbs 4 = false → ∃ f, t.dray.sent = s.dray.sent ++ [f] ∧ f.port = 0 ∧ f.seq = s.dray.upSeq ∧
        f.session = s.dray.session.toNat ∧ f.epoch = s.dray.buildEp ∧ (f.type = 3 ∨ f.type = 5 ∨ f.type = 6)) ∧
      OnlyEnds s t ∧
      t = { s with hif := t.hif, dray := t.dray, rcd := t.rcd, maint := t.maint, freeCtr := t.freeCtr }) ∧
  (∀ (s : State) (sfd : Nat), s.maySend 1 = true → s.clk.pos < 90 → s.released s.clk.lastCount = true →
    s.tdm.soloHold = false → s.dray.downDue = true →
    ∃ t, Goes (.drayTransmit 1 sfd) s t ∧ t.dray.downDue = false ∧ t.dray.capsSent = s.dray.capsOut ∧
      t.dray.prevSfd = ((sfd : Int) + s.clk.alignOfs).toNat ∧
      (s.perturbs 4 = false → ∃ b c l, t.dray.sent = s.dray.sent ++ b :: c :: l ∧ b.type = 1 ∧ b.seq = s.dray.downSeq ∧
        c.type = 2 ∧ c.seq = (s.dray.downSeq + 1) % 4096 ∧
        c.payload = padTo 32 (s.dray.capsOut.flatMap (leBytes 4)) ∧ l.length ≤ 2 ∧
        ∀ f ∈ l, f.port = 1 ∧ (f.type = 7 ∨ f.type = 4 ∨ f.type = 5)) ∧
      OnlyEnds s t ∧ t = { s with hif := t.hif, dray := t.dray, maint := t.maint, freeCtr := t.freeCtr })

/-- R669: the node's host cap; the descriptor ends when the node has acknowledged it. -/
def drayCap : Prop :=
  ∀ (s : State) (k : Nat), Served s k 0x0C01 (some fDOWN) →
    let n := descIndex (s.tag k).desc
    let mw := descField (s.tag k).desc 24 4
    s.downUsed = true → n < s.dray.nodes.length → (s.node n).joined = true → (mw = 0 ∨ 100000 ≤ mw) →
    ∃ t, Goes (.drayCap k) s t ∧
      t.node n = { s.node n with hostCap := mw, capSlots := (s.node n).capSlots ++ [(k, none)] } ∧
      (∀ m, m ≠ n → t.node m = s.node m) ∧ t.tag k = { s.tag k with st := .applied } ∧ TagsBut [k] s t ∧
      t = { s with
        dray := { s.dray with nodes := t.dray.nodes }
        hif := { s.hif with tags := t.hif.tags } }

/-- R661, R670: an allowed FORECAST in time waits for its transmission; while 32 messages wait it stays held; past its
window it ends with DEADLINE_MISSED. -/
def drayForecast : Prop :=
  ∀ (s : State) (k : Nat), Served s k 0x0C02 (some fDOWN) →
    let d := (s.tag k).desc
    let n := descIndex d
    let time := descField d 24 8
    let di := signedOf 32 (descField d 32 4)
    let rise := descField d 36 2
    let window := descField d 38 2
    s.downUsed = true → (s.node n).joined = true → fcFieldsOk di rise window = true →
    (time : Int) ≤ (s.tag k).intakeAt + s.clk.alignOfs + 100000000 →
    ∃ t, Goes (.drayForecast k) s t ∧
      (((time + 1000 * window : Nat) : Int) < s.aligned → Ends t k stDEADLINE 0 ∧ OnlyEnds s t) ∧
      (s.aligned ≤ ((time + 1000 * window : Nat) : Int) → s.dray.queue.length < 32 →
        t.dray = { s.dray with
          queue := s.dray.queue ++ [.fc k n time di rise window (descField d 40 1) s.clk.tick none []] } ∧
        t.tag k = { s.tag k with st := .applied } ∧ TagsBut [k] s t) ∧
      (s.aligned ≤ ((time + 1000 * window : Nat) : Int) → 32 ≤ s.dray.queue.length → t = s) ∧
      t = { s with dray := t.dray, hif := t.hif, rcd := t.rcd }

/-- R406, R661: the stage waits for its transmission down or up, and is the stage sent. -/
def drayStage : Prop :=
  ∀ (s : State) (k : Nat), Served s k 0x0C03 (stageFn (s.tag k).desc) →
    let port := descField (s.tag k).desc 24 1
    let v := descField (s.tag k).desc 25 1
    ∃ t, Goes (.drayStage k) s t ∧
      (port ≠ 0x70 → port ≠ 0x71 → Ends t k stBADPARAM 1 ∧ OnlyEnds s t ∧ t = { s with hif := t.hif, rcd := t.rcd }) ∧
      (port = 0x70 → s.downUsed = true → s.dray.queue.length < 32 →
        t.dray = { s.dray with queue := s.dray.queue ++ [.st v (some k) s.clk.tick] } ∧ t.seq.stageSent = v ∧
        t.tag k = { s.tag k with st := .applied } ∧ TagsBut [k] s t) ∧
      (port = 0x71 → s.sys.role ≠ .manager →
        t.dray = { s.dray with upStages := s.dray.upStages ++ [(v, some k, s.clk.tick)] } ∧ t.seq.stageSent = v ∧
        t.tag k = { s.tag k with st := .applied } ∧ TagsBut [k] s t) ∧
      t = { s with seq := { s.seq with stageSent := t.seq.stageSent }, dray := t.dray, hif := t.hif, rcd := t.rcd }

/-! ### Tandem (spec/13) -/

/-- R507, R534: the twin drives nothing and holds nothing of the pair's work: no rail on, every switch off or latched, no
slot in flight, no completion decided. -/
def StoodDown (s t : State) : Prop :=
  (∀ n ∈ s.railIdx, (t.rail n).isOn = false) ∧
  (∀ n ∈ s.swIdx, (t.sw n).st = .off ∨ (t.sw n).st = .latched) ∧ (∀ k, (t.tag k).st = .free) ∧ t.hif.decided = []

/-- R519, R523, R527, R533, R549: a standby mirrors the block; with RETIRE it stands down RETIRED, with JOIN a twin out of
the pair joins; a yield the block carries is a takeover due. -/
def stateBlockReceived : Prop :=
  ∀ (s : State) (b : StateBlock), s.shape → s.sys.variant.hasTdm = true → s.tdm.linkUp = true → s.running = true →
    s.commands = false →
    ∃ t, Goes (.stateBlockReceived b) s t ∧ t.tdm.peer = b.senderState ∧ t.tdm.missRun = 0 ∧ t.tdm.status.isSome = true ∧
      (s.recomputes = true → b.retire = false →
        t.tdm.mirror = (b :: s.tdm.mirror).take 64 ∧ t.tdm.fLast = b.frame.toNat) ∧
      (s.isStandby = true → b.retire = true → t.tdm.st = .retired ∧ StoodDown s t) ∧
      (b.retire = false → b.join = true → s.tdm.st = .retired ∨ s.tdm.st = .faulty ∨ s.tdm.st = .orphan →
        t.tdm.st = .joining) ∧
      (s.tdm.st = .shadow → b.yieldCause ≠ 0 → t.tdm.st = .shadow → t.tdm.takePend = 1) ∧
      t.regs = s.regs ∧ t.cfg = s.cfg ∧ t.smp = s.smp ∧ t.pending = s.pending

/-- R520, R530, R545, R549: the acknowledgement and the peer's state as received; a live standby makes the twin ACTIVE and
mirrored, any other makes an active SOLO; a peer in SHADOW completes TDM_REJOIN. -/
def statusBlockReceived : Prop :=
  ∀ (s : State) (b : StatusBlock), s.sys.variant.hasTdm = true → s.tdm.linkUp = true → s.running = true →
    s.commands = true →
    ∃ t, Goes (.statusBlockReceived b) s t ∧ t.tdm.acked = b.ackFrame ∧ t.tdm.peer = b.peerState ∧ t.tdm.missRun = 0 ∧
      t.tdm.resyncSend = b.resyncMask ∧
      (b.peerState = 5 ∨ b.peerState = 6 → t.tdm.st = .active ∧ t.tdm.mirrored = true) ∧
      (b.peerState ≠ 5 → b.peerState ≠ 6 →
        t.tdm.st = (if s.tdm.st = .active then .solo else s.tdm.st) ∧ (s.tdm.st = .active → t.tdm.mirrored = false)) ∧
      (b.peerState = 6 → t.tdm.rejoinSlots = [] ∧ ∀ k, s.tdm.rejoinSlots = [k] → k < s.hif.tags.length →
        (s.tag k).st = .applied → (s.tag k).discard = false → Ends t k stDONE 0) ∧ OnlyEnds s t ∧
      t = { s with tdm := t.tdm, hif := t.hif, rcd := t.rcd }

/-- R513, R522, R527: the link is down and counted. An ACTIVE goes SOLO and holds back what its peer had not acknowledged,
a SHADOW looks for evidence, a joining twin is an ORPHAN and drives nothing. -/
def tdmLinkDown : Prop :=
  ∀ (s : State) (cause lane : Nat), s.shape → s.sys.variant.hasTdm = true → s.tdm.linkUp = true → s.running = true →
    ∃ t, Goes (.tdmLinkDown cause lane) s t ∧ t.tdm.linkUp = false ∧ t.tdm.downs = satInc 16 s.tdm.downs ∧
      t.tdm.peer = 0 ∧
      (s.tdm.st = .active → t.tdm.st = .solo ∧ t.tdm.soloHold = s.tdm.mirrored ∧ t.tdm.mirrored = false ∧
        t.tdm.soloUntil = s.clk.tick + s.cfgf 0x7000 8 4 + 2) ∧
      (s.tdm.st = .shadow → t.tdm.st = .shadow ∧ t.tdm.lossTick = some s.clk.tick ∧ t.tdm.evid = 0) ∧
      (s.tdm.st = .joining → t.tdm.st = .orphan ∧ StoodDown s t) ∧
      (s.tdm.st ≠ .active → s.tdm.st ≠ .shadow → s.tdm.st ≠ .joining → t.tdm.st = s.tdm.st) ∧
      (s.tdm.st ≠ .joining → t = { s with tdm := t.tdm, rcd := t.rcd }) ∧ t.pending = s.pending

/-- R516: a missing block is counted; MISS_MAX of them in a row take the link down. -/
def blockMissing : Prop :=
  ∀ (s : State) (crc : Bool), s.sys.variant.hasTdm = true → s.tdm.linkUp = true → s.running = true →
    (s.recomputes = true ∨ s.tdm.mirrored = true) →
    ∃ t, Goes (.blockMissing crc) s t ∧ t.tdm.misses = satInc 16 s.tdm.misses ∧
      t.tdm.crcFails = (if crc then satInc 16 s.tdm.crcFails else s.tdm.crcFails) ∧
      (s.tdm.missRun + 1 < s.cfgf 0x7000 12 4 →
        t.tdm.linkUp = true ∧ t.tdm.missRun = s.tdm.missRun + 1 ∧ t = { s with tdm := t.tdm }) ∧
      (s.cfgf 0x7000 12 4 ≤ s.tdm.missRun + 1 → t.tdm.linkUp = false ∧ t.tdm.peer = 0) ∧ t.pending = s.pending

/-- R513, R543: the link is up with its peer's side and state. -/
def tdmLinkUp : Prop :=
  ∀ (s : State) (sideB : Bool) (peer : Nat), s.sys.variant.hasTdm = true → s.tdm.linkUp = false → s.running = true →
    ∃ t, Goes (.tdmLinkUp sideB peer) s t ∧ t.tdm.linkUp = true ∧ t.tdm.peerSideB = sideB ∧ t.tdm.peer = peer % 16 ∧
      (s.tdm.st = .orphan → s.cfgb 0x7000 16 = true → t.tdm.autoJoinAt = some (s.clk.tick + 100)) ∧
      t.tdm = { s.tdm with
        linkUp := true, peerSideB := sideB, peer := peer % 16, missRun := 0, autoJoinAt := t.tdm.autoJoinAt } ∧
      t = { s with tdm := t.tdm, rcd := t.rcd }

/-- R522: at the end of the hold the results held back are free to go. -/
def soloHoldEnd : Prop :=
  ∀ (s : State), s.tdm.soloHold = true → s.tdm.soloUntil ≤ s.clk.tick →
    ∃ t, Goes .soloHoldEnd s t ∧ t = { s with tdm := { s.tdm with soloHold := false } }

/-- R535–R542: a SHADOW whose takeover is due is SOLO: rails on go to their targets, a held switch stays on, the mirrored
completions after CPL_MARK are written again, generation, session and SEQs go on from the block, and the TAKEOVER event is
set. -/
def takeover : Prop :=
  ∀ (s : State) (b : StateBlock), s.shape → s.tdm.mirror.head? = some b → s.tdm.st = .shadow → s.tdm.takePend ≠ 0 →
    ∃ t, Goes .takeover s t ∧ t.tdm.st = .solo ∧ t.tdm.takeovers = satInc 16 s.tdm.takeovers ∧
      t.tdm.fLastTake = b.frame.toNat ∧ t.way.gen = b.wayGen ∧ t.way.tkFirst = true ∧ t.dray.session = b.session ∧
      t.dray.upSeq = b.upSeq ∧ t.dray.downSeq = b.downSeq ∧ t.hif.event.getLsbD 0 = true ∧
      (∃ l, l.length ≤ 1 ∧ t.hif.posted = s.hif.posted ++ ((s.mirrorAfter b.cplMark).map fun c =>
        Posted.mem ((s.ring c.1).base + 16 * c.2.1) (leBytes 16 c.2.2.toNat)) ++ l) ∧
      (∀ n ∈ s.railIdx, (s.rail n).isOn = true → (t.rail n).st = .slewing ∧ (t.rail n).vtarget = (s.rail n).vtarget) ∧
      (∀ n ∈ s.swIdx, (s.sw n).stbyHold = true → (t.sw n).st = .on ∧ (t.sw n).stbyHold = false) ∧
      t = { s with
        rails := t.rails, phases := t.phases, sws := t.sws, seq := t.seq, path := t.path, tdm := t.tdm, hif := t.hif
        way := t.way, dray := t.dray, rcd := t.rcd, maint := t.maint }

/-- R527: no evidence in the time set after the loss, the twin is an ORPHAN and drives nothing. -/
def orphan : Prop :=
  ∀ (s : State) (tick : Nat), s.shape → s.tdm.lossTick = some tick → s.tdm.st = .shadow →
    tick + s.cfgf 0x7000 8 4 ≤ s.clk.tick → s.tdm.evid = 0 → s.tdm.takePend = 0 →
    ∃ t, Goes .orphan s t ∧ t.tdm.st = .orphan ∧ StoodDown s t ∧ t.tdm.lossTick = none ∧ t.pending = s.pending ∧
      t.regs = s.regs ∧ t.cfg = s.cfg ∧ t.gauge.qRem = s.gauge.qRem

/-- R531: eight frames of an unresolved mismatch are a floor cause at the ACTIVE, and recorded once at the SHADOW. -/
def mismatchUnresolved : Prop :=
  (∀ (s : State), s.tdm.st = .active → 8 ≤ s.tdm.misRun → s.brake.standing.getLsbD 0 = false →
    ∃ t, Goes .mismatchUnresolved s t ∧ t.brake.standing = setBit s.brake.standing 0 ∧
      (s.brake.inFloor = false → t.brake.floorPend = true) ∧ t = { s with brake := t.brake, rcd := t.rcd }) ∧
  (∀ (s : State), s.tdm.st = .shadow → 8 ≤ s.tdm.noEq → s.tdm.misOver = false →
    ∃ t, Goes .mismatchUnresolved s t ∧ t = { s with tdm := { s.tdm with misOver := true }, rcd := t.rcd })

/-- R511, R544: after 64 equal comparisons a twin with the active's set-up, image and firmware is SHADOW, another FAULTY. -/
def tdmJoin : Prop :=
  ∀ (s : State), s.shape → s.tdm.st = .joining → s.tdm.joinReady = true → 64 ≤ s.tdm.equalRun →
    ∃ t, Goes .tdmJoin s t ∧
      (s.setupEqual = true → t.tdm.st = .shadow ∧ t = { s with tdm := t.tdm, rcd := t.rcd }) ∧
      (s.setupEqual = false → t.tdm.st = .faulty ∧ t.tdm.cause = 3 ∧ StoodDown s t) ∧ t.pending = s.pending

/-- R544: a join that takes 100 ms fails. -/
def joinTimeout : Prop :=
  ∀ (s : State), s.shape → s.tdm.st = .joining → s.tdm.joinTick + 10000 ≤ s.clk.tick →
    ∃ t, Goes .joinTimeout s t ∧ t.tdm.st = .faulty ∧ t.tdm.cause = 5 ∧ StoodDown s t ∧ t.pending = s.pending

/-- R543: the twin joins its commanding peer. -/
def autoJoin : Prop :=
  ∀ (s : State) (tick : Nat), s.tdm.autoJoinAt = some tick → tick ≤ s.clk.tick → s.tdm.linkUp = true →
    s.cfgb 0x7000 16 = true → (s.tdm.st = .orphan ∨ s.tdm.st = .faulty ∨ s.tdm.st = .retired) →
    (s.tdm.peer = 3 ∨ s.tdm.peer = 4) →
    ∃ t, Goes .autoJoin s t ∧ t.tdm.st = .joining ∧ t.tdm.joinTick = s.clk.tick ∧ t.tdm.mirror = [] ∧
      t.tdm.autoJoinAt = none ∧ t = { s with tdm := t.tdm, sws := t.sws, rcd := t.rcd }

/-- R546: at the end of its hold the drilled twin yields back to a peer in SHADOW; without one the drill has failed. -/
def drillHoldEnd : Prop :=
  ∀ (s : State), s.tdm.drillPhase = 2 → s.commands = true → s.tdm.drillStart + 100 * s.tdm.drillHold ≤ s.clk.tick →
    ∃ t, Goes .drillHoldEnd s t ∧
      (s.canYield = true → t.tdm = { s.tdm with yieldReq := 6, drillOut := 1, drillPhase := 3 } ∧
        t = { s with tdm := t.tdm, rcd := t.rcd }) ∧
      (s.canYield = false → t.tdm = { s.tdm with drillOut := 2, drillPhase := 0 } ∧ OnlyEnds s t ∧
        t = { s with tdm := t.tdm, hif := t.hif, rcd := t.rcd, maint := t.maint })

/-- R510, R548: with its confirmation a promotion of a waiting twin or an ORPHAN takes effect at the next frame boundary;
otherwise the command is void and recorded. -/
def tdmPromote : Prop :=
  ∀ (s : State) (w : Word), s.sys.variant.hasTdm = true → s.sys.linkUp = true → s.running = true →
    let good := w.toNat % 16 = 1 ∧ w.toNat / 256 % 256 = 0xA5 ∧ (s.tdm.st = .waitLink ∨ s.tdm.st = .orphan)
    ∃ t, Goes (.tdmPromote w) s t ∧ (good → t = { s with tdm := { s.tdm with promotePend := true } }) ∧
      (¬ good → t = { s with rcd := t.rcd })

/-- R533, R549: the peer is taken out of service with the next block, and the descriptor ends after it. -/
def tdmRetire : Prop :=
  (∀ (s : State) (k : Nat), Served s k 0x0B01 (some fTDM) → s.tdm.st ≠ .single → s.tdm.linkUp = true →
    ∃ t, Goes (.tdmRetire k) s t ∧
      t.tdm = { s.tdm with retireSend := true, retireSlots := s.tdm.retireSlots ++ [k] } ∧
      t.tag k = { s.tag k with st := .applied } ∧ TagsBut [k] s t ∧
      t = { s with tdm := t.tdm, hif := { s.hif with tags := t.hif.tags } }) ∧
  (∀ (s : State) (k : Nat), Served s k 0x0B01 (some fTDM) → s.tdm.st = .single ∨ s.tdm.linkUp = false →
    ∃ t, Goes (.tdmRetire k) s t ∧ Ends t k stBADPARAM 1 ∧ OnlyEnds s t ∧ t = { s with hif := t.hif, rcd := t.rcd })

/-- R549: the peer is asked to join with the next block, and the descriptor ends with the join; a peer in SHADOW needs
none. -/
def tdmRejoin : Prop :=
  ∀ (s : State) (k : Nat), Served s k 0x0B02 (some fTDM) → s.tdm.st ≠ .single → s.tdm.linkUp = true →
    ∃ t, Goes (.tdmRejoin k) s t ∧
      (s.tdm.peer = 6 → Ends t k stDONE 0 ∧ OnlyEnds s t ∧ t = { s with hif := t.hif }) ∧
      (s.tdm.peer ≠ 6 → t.tdm = { s.tdm with joinSend := true, rejoinSlots := s.tdm.rejoinSlots ++ [k] } ∧
        t.tag k = { s.tag k with st := .applied } ∧ TagsBut [k] s t ∧
        t = { s with tdm := t.tdm, hif := { s.hif with tags := t.hif.tags } })

/-! ### Overruns, memory errors and the safe floor (spec/01, spec/02, spec/19) -/

/-- R743, R745: the floor begins: its causes are kept, the FLOOR_ENTER event is set, every rail outside the floor table is
off, capping and maintenance stop, and no descriptor but the exempt ones is in flight. -/
def floorEnter : Prop :=
  ∀ (s : State), s.wf → s.floorDue = true →
    ∃ t, Goes .floorEnter s t ∧ t.brake.inFloor = true ∧ t.brake.floorPend = false ∧
      t.brake.atEntry = s.brake.standing ∧ t.brake.floorTick = s.clk.tick ∧ t.hif.event.getLsbD 2 = true ∧
      t.cap.stage = 0 ∧ t.cap.thrHigh = 0 ∧ t.maint.running = 0 ∧ t.seq.running = false ∧
      (∀ k < 128, floorExempt (descOpcode (s.tag k).desc) = false → (t.tag k).st ≠ .held ∧ (t.tag k).st ≠ .applied) ∧
      t = { s with
        cfg := t.cfg, live := t.live, rails := t.rails, phases := t.phases, sws := t.sws, seq := t.seq, path := t.path
        gauge := t.gauge, tdm := t.tdm, hif := t.hif, dray := t.dray, rcd := t.rcd, brake := t.brake, cap := t.cap
        maint := t.maint, freeCtr := t.freeCtr }

/-- R747, R748: with no cause standing the boundary leaves the floor: halted engines run again, the FLOOR_EXIT event is set
and EXIT_FLOOR has ended DONE, RESULT 1; a cause standing keeps the floor and EXIT_FLOOR is denied. -/
def floorExit : Prop :=
  ∀ (s : State), s.exitDue = true →
    ∃ t, Goes .floorExit s t ∧ t.brake.exitSlots = [] ∧
      (s.brake.standing = 0 → t.brake.inFloor = false ∧ t.clk.halted = 0 ∧ t.brake.reload = 0 ∧
        t.hif.event.getLsbD 3 = true) ∧
      (s.brake.standing ≠ 0 → t.brake.inFloor = true ∧ t.clk = s.clk) ∧
      (∀ k, s.brake.exitSlots = [k] → k < s.hif.tags.length → (s.tag k).st = .applied → (s.tag k).discard = false →
        if s.brake.standing = 0 then Ends t k stDONE 1 else Ends t k stFLOOR s.brake.standing.toNat) ∧
      t = { s with
        clk := t.clk, live := t.live, rails := t.rails, phases := t.phases, sws := t.sws, seq := t.seq, path := t.path
        gauge := t.gauge, tdm := t.tdm, hif := t.hif, dray := t.dray, rcd := t.rcd, brake := t.brake, cap := t.cap
        maint := t.maint, freeCtr := t.freeCtr }

/-- R747: denied while a cause stands, waiting for the next boundary in the floor, DONE at once outside it. -/
def exitFloor : Prop :=
  ∀ (s : State) (k : Nat), Served s k 0x0D03 (some fBRAKE) →
    ∃ t, Goes (.exitFloor k) s t ∧
      (s.brake.standing ≠ 0 → Ends t k stFLOOR s.brake.standing.toNat ∧ OnlyEnds s t ∧
        t = { s with hif := t.hif, rcd := t.rcd }) ∧
      (s.brake.standing = 0 → s.brake.inFloor = true →
        t.brake = { s.brake with exitSlots := s.brake.exitSlots ++ [k], exitTick := s.clk.tick } ∧
        t.tag k = { s.tag k with st := .applied } ∧ TagsBut [k] s t ∧
        t = { s with brake := t.brake, hif := { s.hif with tags := t.hif.tags } }) ∧
      (s.brake.standing = 0 → s.brake.inFloor = false → Ends t k stDONE 0 ∧ OnlyEnds s t ∧ t = { s with hif := t.hif })

/-- R746: a reloaded engine is concerned no more; the last engine of CLIP or OVERRUN clears that cause. -/
def engineReload : Prop :=
  ∀ (s : State) (e : Nat) (ok : Bool), e < 16 → s.running = true → s.brake.inFloor = true →
    s.brake.reload.getLsbD e = true →
    let clip := clearBit s.brake.clipEngines e
    let ovr := clearBit s.brake.ovrEngines e
    ∃ t, Goes (.engineReload e ok) s t ∧ t.brake.reload.getLsbD e = false ∧
      (ok = true → t.brake.clipEngines = clip ∧ t.brake.ovrEngines = ovr ∧
        (clip = 0 → t.brake.standing.getLsbD 1 = false) ∧ (ovr = 0 → t.brake.standing.getLsbD 2 = false) ∧
        (clip ≠ 0 → ovr ≠ 0 → t.brake.standing = s.brake.standing)) ∧
      (ok = false → t.brake = { s.brake with reload := t.brake.reload }) ∧ t = { s with brake := t.brake, rcd := t.rcd }

/-- R741: the host link lost for the time set is a floor cause. -/
def hostLinkLoss : Prop :=
  ∀ (s : State), s.running = true → s.isStandby = false → s.linkLost = true → s.brake.linkLost = false →
    ∃ t, Goes .hostLinkLoss s t ∧ t.brake.linkLost = true ∧ t.brake.standing = setBit s.brake.standing 3 ∧
      (s.brake.inFloor = false → t.brake.floorPend = true) ∧ t = { s with brake := t.brake }

/-- R57–R60: the overrun of engine `e` is counted; a third within 100 frames asks for the floor, makes an active with a live
standby yield and a standby give up its work, and halts the engine in the floor. -/
def Overran (s t : State) (e : Nat) : Prop :=
  let n := ((s.clk.ovrHist.filter fun p => decide (s.clk.tick < p.1 + 100)).filter (·.2 = e)).length
  t.clk.overran.getLsbD e = true ∧ t.clk.ovrTotal = satInc 32 s.clk.ovrTotal ∧
  (n < 2 → t.tdm = s.tdm ∧ t.brake = { s.brake with engRun := t.brake.engRun } ∧ t.clk.halted = s.clk.halted) ∧
  (2 ≤ n → s.brake.inFloor = true → t.clk.halted.getLsbD e = true ∧ t.tdm = s.tdm) ∧
  (2 ≤ n → s.brake.inFloor = false → s.canYield = true → t.tdm = { s.tdm with yieldReq := 1 }) ∧
  (2 ≤ n → s.brake.inFloor = false → s.canYield = false → s.isStandby = true → t.tdm = { s.tdm with selfCheck := true }) ∧
  (2 ≤ n → s.brake.inFloor = false → s.canYield = false → s.isStandby = false →
    t.brake.standing = setBit s.brake.standing 2 ∧ t.brake.floorPend = true) ∧
  t = { s with clk := t.clk, tdm := t.tdm, rcd := t.rcd, brake := t.brake }

/-- R58: an overrun in a control slice stops the engine's control work of the frame. -/
def frameOverrun : Prop :=
  ∀ (s : State) (e slice cycles : Nat), 1 ≤ slice → slice ≤ 3 → s.running = true → e < 16 →
    s.clk.overran.getLsbD e = false → s.clk.halted.getLsbD e = false →
    ∃ t, Goes (.frameOverrun e slice cycles) s t ∧ Overran s t e ∧ t.clk.overranCtl.getLsbD e = true ∧
      t.brake.engRun.getLsbD e = false

/-- R59: an overrun in the background slice leaves the control work alone. -/
def backgroundOverrun : Prop :=
  ∀ (s : State) (e cycles : Nat), s.running = true → e < 16 → s.clk.overran.getLsbD e = false →
    s.clk.halted.getLsbD e = false →
    ∃ t, Goes (.backgroundOverrun e cycles) s t ∧ Overran s t e ∧ t.brake.engRun = s.brake.engRun

/-- R28: a single-bit error is corrected and recorded; what the record shows is free (log 3). -/
def singleBitError : Prop :=
  ∀ (s : State), s.running = true →
    ∃ t, Goes .singleBitError s t ∧ t = { s with rcd := t.rcd, freeCtr := s.freeCtr + 6 }

/-- R29, R30: a double-bit error is an overrun of its engine, an invalid trace entry, or elsewhere a floor cause, a yield or
a standby's self-check. -/
def doubleBitError : Prop :=
  (∀ (s : State) (e slice cycles : Nat), 1 ≤ slice → slice ≤ 4 → s.running = true → e < 16 →
    s.clk.overran.getLsbD e = false → s.clk.halted.getLsbD e = false →
    ∃ t, Goes (.doubleBitError (.engineMem e slice cycles)) s t ∧ Overran s t e) ∧
  (∀ (s : State) (i : Nat), s.running = true →
    ∃ t, Goes (.doubleBitError (.trace i)) s t ∧ (∀ e, s.rcd.trBuf[i]? = some e → t.rcd.trBuf[i]? =
      some { e with valid := false }) ∧ (∀ j, j ≠ i → t.rcd.trBuf[j]? = s.rcd.trBuf[j]?) ∧
      t = { s with rcd := { s.rcd with trBuf := t.rcd.trBuf } }) ∧
  (∀ (s : State), s.running = true →
    ∃ t, Goes (.doubleBitError .other) s t ∧
      (s.canYield = true → s.brake.inFloor = false → t = { s with tdm := { s.tdm with yieldReq := 2 } }) ∧
      (s.canYield = false → s.isStandby = true → t = { s with tdm := { s.tdm with selfCheck := true } }) ∧
      ((s.canYield = false ∨ s.brake.inFloor = true) → s.isStandby = false →
        t.brake.standing = setBit s.brake.standing 5 ∧ t = { s with brake := t.brake }))

/-- R740: a scrub without error clears the cause. -/
def scrubComplete : Prop :=
  ∀ (s : State) (ok : Bool), s.running = true →
    ∃ t, Goes (.scrubComplete ok) s t ∧
      (ok = true → t.brake = { s.brake with standing := clearBit s.brake.standing 5 }) ∧ (ok = false → t = s) ∧
      t = { s with brake := t.brake, rcd := t.rcd }

/-! ### Resets and register writes (spec/04, spec/24, spec/25) -/

/-- R142: what a cold reset leaves: every field at its reset value but the OTP's and NV store's words, the flash, the twin
logs of what was sent, and the commands waiting. -/
def Colded (s t : State) : Prop :=
  t = { State.reset with
    pending := s.pending, freeCtr := t.freeCtr, rcd := t.rcd
    sys := { State.reset.sys with
      variant := s.sys.variant, signedOnly := s.sys.signedOnly, rollback := s.sys.rollback
      rollbackLeft := s.sys.rollbackLeft, bootSession := s.sys.bootSession, supply := t.sys.supply
      resetLast := t.sys.resetLast, lostCpl := t.sys.lostCpl }
    cfg := { State.reset.cfg with
      slotA := t.cfg.slotA, slotB := t.cfg.slotB, bankA := t.cfg.bankA, bankB := t.cfg.bankB
      journalB := s.cfg.journalB, journalOk := s.cfg.journalOk }
    gauge := { State.reset.gauge with
      slotA := t.gauge.slotA, slotB := t.gauge.slotB, whyA := t.gauge.whyA, whyB := t.gauge.whyB }
    hif := { State.reset.hif with posted := s.hif.posted }
    dray := { State.reset.dray with sent := s.dray.sent } } ∧
  t.rcd.log = s.rcd.log ∧ t.rcd.flashSeq = s.rcd.flashSeq ∧ t.rcd.staging = [] ∧
  (s.cfg.wr = none → t.cfg.slotA = s.cfg.slotA ∧ t.cfg.slotB = s.cfg.slotB ∧ t.cfg.bankA = s.cfg.bankA ∧
    t.cfg.bankB = s.cfg.bankB)

/-- R111, R112, R142: VAON below 2.8 V or 4.3 V, or the host's request, with LAST 0, 1 or 2. -/
def coldReset : Prop :=
  (∀ s : State, ∃ t, Goes (.coldReset 0) s t ∧ Colded s t ∧ t.sys.supply = .off ∧ t.sys.resetLast = 0) ∧
  (∀ s : State, s.sys.supply ≠ .off → (s.sys.supply ≠ .aon ∨ s.sys.hib = .asleep) →
    ∃ t, Goes (.coldReset 1) s t ∧ Colded s t ∧ t.sys.supply = .aon ∧ t.sys.resetLast = 1) ∧
  (∀ s : State, s.sys.coldPending = true →
    ∃ t, Goes (.coldReset 2) s t ∧ Colded s t ∧ t.sys.supply = .v33 ∧ t.sys.resetLast = 2 ∧
      t.sys.lostCpl = (s.hif.tags.filter fun g => g.st != .free).length)

/-- R142, R145–R147: once everything is off, or after 100 ms, the device boots anew: outputs off, registers at their reset
values, slots and rings free; latches with their causes, and the totals, are kept. -/
def warmReset : Prop :=
  ∀ (s : State) (cause : Nat), s.sys.warmPending = some cause → s.sys.supply = .boot →
    (cause = 5 ∨ s.allOff = true ∨ s.sys.warmTick + framesMs 100 ≤ s.clk.tick) →
    ∃ t, Goes .warmReset s t ∧ t.sys.supply = .core ∧ t.sys.resetLast = cause ∧
      t.sys.warmCount = satInc 16 s.sys.warmCount ∧ t.sys.booted = false ∧ t.sys.ready = 0 ∧ t.sys.lock = false ∧
      t.regs = [] ∧ t.live = [] ∧ (∀ k, (t.tag k).st = .free) ∧ (∀ r, (t.ring r).st = .disabled) ∧
      (∀ n < s.rails.length, (t.rail n).st = .off ∧ (t.rail n).recallCnt = (s.rail n).recallCnt ∧
        ((s.rail n).lstate = .latched → (t.rail n).lstate = .latched ∧ (t.rail n).causes = (s.rail n).causes)) ∧
      (∀ n < s.sws.length, (t.sw n).tripCnt = (s.sw n).tripCnt ∧
        (t.sw n).st = if (s.sw n).st = .latched then .latched else .off) ∧
      (∀ m < s.phases.length, (t.phase m).drive = .mid ∧ (t.phase m).latched = (s.phase m).latched) ∧
      t.clk.devTime = s.clk.devTime ∧ t.gauge.acc = s.gauge.acc ∧ t.hif.posted = s.hif.posted ∧ t.pending = s.pending

/-- R92, R142: every gate goes to source, and a warm reset follows at once. -/
def fieldMainReset : Prop :=
  ∀ (s : State), s.wf → s.running = true →
    ∃ t, Goes .fieldMainReset s t ∧ t.sys.warmPending = some 5 ∧ t.sys.bridgePending = false ∧
      t.sys.flushCnt = satInc 16 s.sys.flushCnt ∧
      (∀ n ∈ s.swIdx, (t.sw n).gateLow = true ∧ (t.sw n).st = if (s.sw n).st = .latched then .latched else .off) ∧
      t = { s with sys := t.sys, sws := t.sws, rcd := t.rcd, freeCtr := t.freeCtr }

/-- R143: rings, windows, MSI-X and GLB_SCRATCH are as after reset, decided completions are discarded and those of work in
progress will be; nothing outside the endpoint changes. -/
def pcieReset : Prop :=
  ∀ (s : State), s.sys.supply = .boot →
    ∃ t, Goes .pcieReset s t ∧ t.sys.linkUp = false ∧ t.sys.pcieCfg = false ∧ t.isReady fRING = false ∧
      t.hif.rings = List.replicate 64 {} ∧ t.hif.wins = List.replicate 8 {} ∧ t.hif.decided = [] ∧
      t.hif.discarded = s.hif.discarded + s.hif.decided.length ∧ t.hif.scratch = 0 ∧ t.hif.bme = false ∧
      t.way.en = false ∧ t.way.held = none ∧
      (∀ k < s.hif.tags.length, (t.tag k).st = (if (s.tag k).st = .decided then .free else (s.tag k).st) ∧
        ((s.tag k).st = .held ∨ (s.tag k).st = .applied → (t.tag k).discard = true)) ∧
      t = { s with
        sys := { s.sys with
          linkUp := false, pcieCfg := false, perstTick := s.clk.tick, ready := clearBit s.sys.ready fRING }
        regs := t.regs, live := t.live, hif := t.hif, way := t.way, rcd := t.rcd }

/-- R142: with the link up the rings report ready again where the function has come up. -/
def pcieLinkUp : Prop :=
  ∀ (s : State), s.sys.supply = .boot → s.sys.linkUp = false →
    ∃ t, Goes .pcieLinkUp s t ∧ t.sys.linkUp = true ∧ t.sys.linkEver = true ∧
      (s.sys.ringUp = true → t.isReady fRING = true) ∧
      t = { s with
        rcd := t.rcd, clk := { s.clk with pcieLock := true }, hif := { s.hif with linkDown := 0 }
        sys := { s.sys with linkUp := true, linkEver := true, ready := t.sys.ready } }

/-- R126: configuration requests are answered 100 ms after boot start and after PERST_N. -/
def pcieConfigReady : Prop :=
  ∀ (s : State), s.sys.supply = .boot → s.sys.bootDev + 100000000 ≤ s.clk.devTime →
    (s.sys.perstTick = 0 ∨ s.sys.perstTick + framesMs 100 ≤ s.clk.tick) →
    ∃ t, Goes .pcieConfigReady s t ∧ t = { s with sys := { s.sys with pcieCfg := true } }

/-- R119, R496, R718: the loss is kept with its time and voltage, a trace being written is abandoned. -/
def vaonLoss : Prop :=
  ∀ (s : State) (mv : Nat), s.running = true → s.sys.vaonLost = false → mv < s.cfg.vaonLossMv →
    ∃ t, Goes (.vaonLoss mv) s t ∧
      t.sys = { s.sys with vaonLost := true, vaonLostAt := s.clk.devTime, vaonMv := mv } ∧
      (s.rcd.trSt = .writing → t.rcd.trSlots = s.rcd.trSlots.set s.rcd.trSlot none) ∧ OnlyEnds s t ∧
      t = { s with sys := t.sys, gauge := t.gauge, hif := t.hif, rcd := t.rcd }

/-- R6, R18–R20, R776: a write to BAR0 changes the register's permitted fields to the written values; a write where the register has
no field, to an enabled ring's configuration, or to a TEST register while locked has no effect. R558, R603: a vector's table entry takes data and mask. -/
def registerWrite : Prop :=
  (∀ (s : State) (off : Nat) (w : Word), s.wf → s.sys.linkUp = true → off < 0x10000 →
    let v := s.sys.variant
    let no := deniedFields v s.sys.lock off (s.regv off) w.toNat
    let x := judgedWord v off (s.regv off) w.toNat no
    let ring := 0x8000 ≤ off ∧ off < 0x9000
    let test := 0xE000 ≤ off ∧ off < 0xF000
    ∃ t, Goes (.registerWrite off w) s t ∧ (regFields v off = [] → t = s) ∧
      (regFields v off ≠ [] → ¬ ring → ¬ test →
        t.regv off = x % 2 ^ 32 ∧ (isSetup off = true → t.sys.bridgePending = true) ∧ (no = [] → t.rcd = s.rcd)) ∧
      (regFields v off ≠ [] → ring → (s.ring ((off - 0x8000) / 0x40)).st = .disabled → t.regv off = x % 2 ^ 32) ∧
      (regFields v off ≠ [] → ring → (s.ring ((off - 0x8000) / 0x40)).st ≠ .disabled →
        s.ringLocked ((off - 0x8000) / 0x40) = false → t = { s with rcd := t.rcd }) ∧
      (regFields v off ≠ [] → test → s.maint.unlocked = true → t.regv off = x % 2 ^ 32) ∧
      (test → s.maint.unlocked = false → t = s) ∧ (∀ o, o ≠ off → t.regv o = s.regv o) ∧
      t = { s with
        regs := t.regs, rcd := t.rcd, sys := { s.sys with bridgePending := t.sys.bridgePending }
        hif := { s.hif with scratch := t.hif.scratch }, maint := { s.maint with lfsr := t.maint.lfsr } }) ∧
  (∀ (s : State) (vec : Nat) (w : Word), s.sys.linkUp = true → vec < 64 → s.hif.msixTab.length = 64 →
    (∃ t, Goes (.registerWrite (0x11000 + 16 * vec + 8) w) s t ∧
      (t.hif.msixTab.getD vec 0).extractLsb' 64 32 = w ∧
      (t.hif.msixTab.getD vec 0).extractLsb' 0 64 = (s.hif.msixTab.getD vec 0).extractLsb' 0 64 ∧
      (∀ v, v ≠ vec → t.hif.msixTab.getD v 0 = s.hif.msixTab.getD v 0) ∧
      t = { s with hif := { s.hif with msixTab := t.hif.msixTab } }) ∧
    (∃ t, Goes (.registerWrite (0x11000 + 16 * vec + 12) w) s t ∧
      t.hif.vecMask = (if w.getLsbD 0 then setBit s.hif.vecMask vec else clearBit s.hif.vecMask vec) ∧
      t = { s with hif := { s.hif with vecMask := t.hif.vecMask, vecPend := t.hif.vecPend, posted := t.hif.posted } }))

/-- R782: the copies go to the field die while its clock runs. -/
def fieldForward : Prop :=
  ∀ (s : State), s.sys.running.getLsbD 1 = true →
    ∃ t, Goes .fieldForward s t ∧ t = { s with sys := { s.sys with bridgePending := false } }

/-- R782: the write clears FIELD_BRIDGE.FLUSH. -/
def fieldBridgeFlushClear : Prop :=
  ∀ (s : State), s.sys.linkUp = true →
    ∃ t, Goes .fieldBridgeFlushClear s t ∧ t = { s with sys := { s.sys with bridgeFlush := false } }

/-- R602, R780: each 1 written clears its event. -/
def hifEventClear : Prop :=
  ∀ (s : State) (w : Word), s.sys.linkUp = true →
    ∃ t, Goes (.hifEventClear w) s t ∧
      (∀ b < 4, t.hif.event.getLsbD b = (s.hif.event.getLsbD b && !w.getLsbD b)) ∧
      t = { s with hif := { s.hif with event := t.hif.event } }

/-- R138: SETUP_LOCK is set. -/
def setupLock : Prop :=
  ∀ (s : State), s.sys.linkUp = true →
    ∃ t, Goes .setupLock s t ∧ t.sys = { s.sys with lock := true } ∧ (s.sys.lock = true → t = s) ∧
      t = { s with sys := t.sys, rcd := t.rcd }

/-- R138, R142: a request for a warm reset with its confirmation is pending; without it the write is recorded. Outside
normal running nothing has to be turned off first. -/
def warmResetRequest : Prop :=
  (∀ (s : State) (w : Word), s.sys.linkUp = true → w.getLsbD 0 = false → w.getLsbD 1 = true → w.getLsbD 2 = false →
    w.toNat / 256 % 256 = 0x5A → s.sys.warmPending = none →
    ∃ t, Goes (.warmResetRequest w) s t ∧ t.sys.warmPending = some 3 ∧ t.sys.warmTick = s.clk.tick ∧ OnlyEnds s t ∧
      (s.running = false ∨ s.sys.recovery = true →
        t = { s with sys := { s.sys with warmPending := some 3, warmTick := s.clk.tick } }) ∧
      t = { s with
        sys := t.sys, rails := t.rails, phases := t.phases, sws := t.sws, seq := t.seq, tdm := t.tdm, hif := t.hif
        rcd := t.rcd }) ∧
  (∀ (s : State) (w : Word), s.sys.linkUp = true → w.getLsbD 0 = false → (w.getLsbD 1 = true ∨ w.getLsbD 2 = true) →
    w.toNat / 256 % 256 ≠ 0x5A → ∃ t, Goes (.warmResetRequest w) s t ∧ t = { s with rcd := t.rcd })

/-- R138, R142: a request for a cold reset with its confirmation is pending. -/
def coldResetRequest : Prop :=
  ∀ (s : State) (w : Word), s.sys.linkUp = true → w.getLsbD 2 = true → w.toNat / 256 % 256 = 0x5A →
    ∃ t, Goes (.coldResetRequest w) s t ∧
      t.sys = { s.sys with coldPending := true, lock := s.sys.lock || w.getLsbD 0 } ∧
      t = { s with sys := t.sys, rcd := t.rcd }

/-! ### Supplies, boot, bring-up and hibernate (spec/03, spec/04) -/

/-- R111: VAON above 3.0 V, the always-on domain runs. -/
def alwaysOnStart : Prop :=
  ∀ (s : State), s.sys.supply = .off →
    ∃ t, Goes .alwaysOnStart s t ∧ t = { s with sys := { s.sys with supply := .aon, live := 0x4, running := 0x4 } }

/-- R113: VAON above 4.5 V, the V33 regulator is enabled unless the device hibernates. -/
def vaonRise : Prop :=
  ∀ (s : State), s.sys.supply = .aon →
    ∃ t, Goes .vaonRise s t ∧
      t = { s with sys := { s.sys with supply := if s.sys.hib = .asleep then .aon else .v33 } }

/-- R113: V33 good, the V18 regulator is enabled. -/
def v33Good : Prop :=
  ∀ (s : State), s.sys.supply = .v33 → ∃ t, Goes .v33Good s t ∧ t = { s with sys := { s.sys with supply := .v18 } }

/-- R8, R107, R108: the straps give the role and the side, once; a reserved role is Branch with STRAP_CONFLICT, and so is any
role but Branch on a device without a downlink. -/
def strapLatch : Prop :=
  ∀ (s : State) (r1 r0 side : Bool), s.sys.supply = .v18 → s.sys.strapsLatched = false →
    let reserved : Bool := (r1 && r0) || (!s.sys.variant.hasDown && (r1 || r0))
    ∃ t, Goes (.strapLatch r1 r0 side) s t ∧ t.sys.strapsLatched = true ∧ t.sys.strapRole.getLsbD 0 = r0 ∧
      t.sys.strapRole.getLsbD 1 = r1 ∧
      t.sys.role = (if reserved then .branch else if r1 then .manager else if r0 then .zone else .branch) ∧
      t.sys.conflict = reserved ∧ t.sys.sideB = (side && s.sys.variant.hasTdm) ∧
      t = { s with
        rcd := t.rcd
        sys := { s.sys with
          strapsLatched := true, strapRole := t.sys.strapRole, strapSide := t.sys.strapSide, role := t.sys.role
          sideB := t.sys.sideB, conflict := t.sys.conflict } }

/-- R113: V18 good, the core is enabled. -/
def v18Good : Prop :=
  ∀ (s : State), s.sys.supply = .v18 →
    ∃ t, Goes .v18Good s t ∧ t = { s with sys := { s.sys with supply := .core, coreEn := true } }

/-- R114, R115: a core that does not start is tried again; at the third failure the field die gives up with FAULT_N low. -/
def coreStartRetry : Prop :=
  ∀ (s : State) (mv : Nat), s.sys.supply = .core →
    ∃ t, Goes (.coreStartRetry mv) s t ∧ t.sys.coreTries = s.sys.coreTries + 1 ∧ t.sys.coreMv = mv ∧
      t.sys.resetLast = 7 ∧
      (s.sys.coreTries < 2 → t.sys.supply = .core ∧ t.seq = s.seq) ∧
      (2 ≤ s.sys.coreTries → t.sys.supply = .giveUp ∧ t.sys.coreEn = false ∧ t.seq.faultLow = true ∧
        t.seq.pgood = false) ∧ t = { s with sys := t.sys, seq := t.seq }

/-- R125–R129, R655: boot starts with the next Drayline session and runs the bank of R128; with no valid bank the device
is in firmware recovery. -/
def bootStart : Prop :=
  ∀ (s : State) (refSrc pageUs time : Nat) (eraseSuspend : Bool), s.sys.supply = .core → s.sys.coreEn = true →
    s.sys.strapsLatched = true →
    ∃ t, Goes (.bootStart refSrc pageUs eraseSuspend time) s t ∧ t.sys.supply = .boot ∧
      t.sys.bootSession = s.sys.bootSession + 1 ∧ t.dray.session = s.sys.bootSession + 1 ∧
      t.clk.refSrc = refSrc % 4 ∧ t.sys.bootDev = max s.clk.devTime time ∧
      t.rcd.flashSlow = (decide (600 < pageUs) || !eraseSuspend) ∧
      (∀ b, s.bankPick = some b → t.sys.recovery = false ∧ t.sys.booted = false ∧ t.cfg.runningB = b ∧
        t.cfg.fwVersion = bankVersion (if b then s.cfg.bankB else s.cfg.bankA)) ∧
      (s.bankPick = none → t.sys.recovery = true ∧ t.sys.booted = true ∧ t.seq.faultLow = true ∧
        t.isReady fRING = true) ∧
      t = { s with
        sys := t.sys, clk := t.clk, cfg := t.cfg, seq := t.seq, tdm := t.tdm, rcd := t.rcd
        dray := { s.dray with session := t.dray.session } }

/-- R130, R131: the chosen slot's image is loaded and frames begin; with neither slot valid the device stays
unconfigured. -/
def cfgImageLoad : Prop :=
  ∀ (s : State) (us : Nat), s.sys.supply = .boot → s.sys.booted = false →
    let a := s.slotValid s.cfg.slotA
    let b := s.slotValid s.cfg.slotB
    ∃ t, Goes (.cfgImageLoad us) s t ∧ t.sys.booted = true ∧
      (∀ im, chooseSlot s.cfg.slotA s.cfg.slotB a b = some im → t.sys.configured = true ∧ t.cfg.imageSeq = imgSeq im) ∧
      (chooseSlot s.cfg.slotA s.cfg.slotB a b = none → t.sys.configured = s.sys.configured ∧ t.regs = s.regs ∧
        t.rails = s.rails ∧ t.cfg = s.cfg) ∧
      t = { s with
        sys := t.sys, clk := t.clk, cfg := t.cfg, regs := t.regs, live := t.live, rails := t.rails, phases := t.phases
        sws := t.sws, tdm := t.tdm, rcd := t.rcd }

/-- R132: a function whose turn it is reports ready. -/
def functionReady : Prop :=
  ∀ (s : State) (f : Nat), s.mayReady f = true →
    ∃ t, Goes (.functionReady f) s t ∧ t.isReady f = true ∧ (∀ g < 11, g ≠ f → t.isReady g = s.isReady g) ∧
      (f = 5 → t.path.st = .noFeed) ∧ (f = 7 → t.sys.ringUp = true) ∧
      (f = 8 → s.tdm.linkUp = false → t.tdm.st = .single) ∧
      t = { s with
        sys := t.sys, sws := t.sws, path := t.path, gauge := t.gauge, tdm := t.tdm, hif := t.hif, rcd := t.rcd
        maint := t.maint }

/-- R131, R134: a function that fails shows FAIL. -/
def funcFail : Prop :=
  ∀ (s : State) (f cause : Nat), s.running = true → s.sys.recovery = false → f < 11 → s.turnOf f = true →
    s.isSettled f = false →
    ∃ t, Goes (.funcFail f cause) s t ∧ t.sys.fail = setBit s.sys.fail f ∧ t.sys.ready = s.sys.ready ∧
      (f ≠ fTDM → t = { s with sys := t.sys, rcd := t.rcd }) ∧ t.pending = s.pending

/-- R137, R417, R509: once RAIL, SW and PATH have settled AUTO_PROG is requested, once: not on side B of a pair that works,
not after a forced off, not in the floor or while a program runs. -/
def autoProgStart : Prop :=
  ∀ (s : State), s.running = true → s.sys.configured = true → s.sys.autoDone = false → s.cfg.autoProg ≠ 0xFF →
    s.isSettled fRAIL = true → s.isSettled fSW = true → s.isSettled fPATH = true →
    (s.sys.sideB = false ∨ s.isSettled fTDM = true) →
    ∃ t, Goes .autoProgStart s t ∧ t.sys = { s.sys with autoDone := true } ∧
      ((s.sys.sideB = true ∧ s.tdm.st ≠ .single) ∨ s.seq.forcedOff = true ∨ s.brake.inFloor = true ∨ s.seqBusy = true →
        t = { s with sys := t.sys }) ∧ OnlyEnds s t ∧
      t = { s with sys := t.sys, rails := t.rails, sws := t.sws, seq := t.seq, hif := t.hif, rcd := t.rcd }

/-- R139: AUTOLOCK sets the lock after its epochs. -/
def autolock : Prop :=
  ∀ (s : State) (since : Nat), s.sys.readyAllTick = some since → s.running = true → s.cfg.autolock = true →
    since + 100 * s.cfg.autolockEpochs ≤ s.clk.tick →
    ∃ t, Goes .autolock s t ∧ t.sys = { s.sys with lock := true } ∧ t = { s with sys := t.sys, rcd := t.rcd }

/-- R140: a configured device that no host has reached locks itself. -/
def nohostLock : Prop :=
  ∀ (s : State), s.running = true → s.sys.configured = true → s.cfg.autolock = false → s.sys.linkEver = false →
    s.sys.bootDev + 1000000 * s.cfg.nohostMs ≤ s.clk.devTime →
    ∃ t, Goes .nohostLock s t ∧ t.sys = { s.sys with lock := true } ∧ t = { s with sys := t.sys, rcd := t.rcd }

/-- R149, R150: with a wake source, no maintenance and no standby to yield to, hibernate entry begins and the descriptor is
in progress; each refusal has its status. -/
def hibernate : Prop :=
  ∀ (s : State) (k : Nat), Served s k 0x0102 none →
    let src := s.cfg.wakeSrc.getLsbD 0 || (s.cfg.wakeSrc.getLsbD 1 && s.sys.variant.hasPath)
    ∃ t, Goes (.hibernate k) s t ∧
      (∀ c, (bitsOf 9 s.maint.running.toNat).head? = some c → Ends t k stMAINT c ∧ t = { s with hif := t.hif }) ∧
      (bitsOf 9 s.maint.running.toNat = [] → s.canYield = true → Ends t k stBADPARAM 1) ∧
      (bitsOf 9 s.maint.running.toNat = [] → s.canYield = false → src = false → Ends t k stBADPARAM 2) ∧
      (bitsOf 9 s.maint.running.toNat = [] → s.canYield = false → src = true →
        t.sys = { s.sys with
          hib := .offProg, hibSlots := [k], hibTick := s.clk.tick, wakePend := none, hibOffProg := t.sys.hibOffProg } ∧
        (s.allOff = true → t.tag k = { s.tag k with st := .applied } ∧ TagsBut [k] s t ∧
          t = { s with sys := t.sys, hif := { s.hif with tags := t.hif.tags } })) ∧
      t = { s with
        sys := t.sys, rails := t.rails, phases := t.phases, sws := t.sws, seq := t.seq, hif := t.hif, rcd := t.rcd }

/-- R150, R155: with everything off the device is in H1 and HIBERNATE has ended DONE; a wake before that ends the entry,
aborted with the wake source. -/
def hibH1 : Prop :=
  ∀ (s : State), s.running = true → s.sys.hib = .offProg → s.seqBusy = false →
    (s.sys.hibOffProg = true ∨ s.allOff = true) →
    ∃ t, Goes .hibH1 s t ∧ t.sys.hibSlots = [] ∧
      (s.sys.wakePend = none → t.sys.hib = .h1 ∧ t.sys.hibTick = s.clk.tick) ∧
      (∀ w, s.sys.wakePend = some w → t.sys.hib = .none ∧ t.sys.wakePend = none) ∧
      (∀ k, s.sys.hibSlots = [k] → k < s.hif.tags.length → (s.tag k).st = .applied → (s.tag k).discard = false →
        (s.sys.wakePend = none → Ends t k stDONE 0) ∧ ∀ w, s.sys.wakePend = some w → Ends t k stABORTED w) ∧ OnlyEnds s t ∧
      t = { s with sys := t.sys, gauge := t.gauge, hif := t.hif }

/-- R150, R152: a millisecond later only the always-on domain runs, staging flushed and counted; a wake meanwhile boots at
once. -/
def hibHandoff : Prop :=
  ∀ (s : State), s.running = true → s.sys.hib = .h1 → s.sys.hibTick + 100 ≤ s.clk.tick →
    ∃ t, Goes .hibHandoff s t ∧ t.sys.hibCount = satInc 16 s.sys.hibCount ∧ t.sys.booted = false ∧
      (s.sys.wakePend = none → t.sys.hib = .asleep ∧ t.sys.supply = .aon ∧ t.clk.devTime = s.clk.devTime) ∧
      (∀ w, s.sys.wakePend = some w → t.sys.hib = .none ∧ t.sys.supply = .v33 ∧ t.sys.resetLast = 6) ∧
      t.regs = [] ∧ t.live = [] ∧ (∀ n < s.rails.length, (t.rail n).st = .off) ∧ t.rcd.staging = [] ∧
      t.pending = s.pending

/-- R115, R153, R155: WAKE_N wakes the device, ends a hibernate entry, and retries the core start of a device that gave
up. -/
def wakePin : Prop :=
  ∀ (s : State) (ns : Nat),
    ∃ t, Goes (.wakePin ns) s t ∧
      (s.sys.supply = .giveUp → t = { s with sys := { s.sys with supply := .core, coreEn := true } }) ∧
      (s.sys.supply ≠ .giveUp → s.cfg.wakeSrc.getLsbD 0 = true → s.sys.hib = .asleep →
        t.sys.hib = .none ∧ t.sys.supply = .v33 ∧ t.sys.resetLast = 6 ∧ t.clk.devTime = s.clk.devTime + ns) ∧
      (s.sys.supply ≠ .giveUp → s.cfg.wakeSrc.getLsbD 0 = true → (s.sys.hib = .offProg ∨ s.sys.hib = .h1) →
        t = { s with sys := { s.sys with wakePend := some 0 } }) ∧
      (s.sys.supply ≠ .giveUp → (s.cfg.wakeSrc.getLsbD 0 = false ∨ s.sys.hib = .none) → t = s) ∧
      t = { s with sys := t.sys, clk := t.clk, seq := t.seq, gauge := t.gauge, rcd := t.rcd }

/-- R153, R500: asleep, the accumulator takes each sample for 250 ms, and the second in a row above the limit wakes. -/
def currentWakeSample : Prop :=
  ∀ (s : State) (ma : Int) (ns : Nat), s.sys.hib = .asleep → s.cfg.wakeSrc.getLsbD 1 = true → s.sys.variant.hasPath = true →
    let run := if s.cfg.wakeMa < ma.natAbs then s.sys.wakeRun + 1 else 0
    ∃ t, Goes (.currentWakeSample ma ns) s t ∧
      t.gauge.acc = signedOf 48 (twos 48 (s.gauge.acc + 250000 * ma)) ∧ t.gauge.last = ma ∧
      (run < 2 → t.sys = { s.sys with wakeRun := run } ∧ t.clk = s.clk) ∧
      (2 ≤ run → t.sys.hib = .none ∧ t.sys.supply = .v33 ∧ t.clk.devTime = s.clk.devTime + ns) ∧
      t = { s with sys := t.sys, clk := t.clk, seq := t.seq, gauge := t.gauge, rcd := t.rcd }

/-! ### Frames and epochs (spec/02) -/

/-- The clock of the frame that begins (R66, R69, R72): its strobe, and frame number, position and epoch as aligned time
gives them. -/
def FrameBegun (s t : State) : Prop :=
  let a : Int := (s.nextStrobe : Int) + s.clk.alignOfs
  t.clk.strobe = s.nextStrobe ∧ t.clk.count = BitVec.ofInt 32 (a / 10000) ∧ t.clk.pos = (a / 10000 % 100).toNat ∧
  t.clk.epoch = BitVec.ofInt 32 (a / 1000000) ∧ t.clk.tick = s.clk.tick + 1 ∧ t.clk.lastCount = s.clk.count ∧
  t.clk.begun = true

/-- R53, R66, R776: the next frame begins on its sample set, with the registers written in the last one in force but those
that wait for a turn-on or an epoch; after an epoch boundary has begun it, the row brings its sample set only. In
firmware recovery only the clock runs. -/
def frameBoundary : Prop :=
  (∀ (s : State) (x : Sample), s.wf → s.running = true → s.sys.recovery = false →
    ∃ t, Goes (.frameBoundary x) s t ∧ t.smp = x ∧ t.clk.opened = false ∧ t.clk.missRun = 0 ∧
      (s.clk.opened = false → FrameBegun s t) ∧
      (s.clk.opened = true → t.clk.strobe = s.clk.strobe ∧ t.clk.count = s.clk.count ∧ t.clk.tick = s.clk.tick ∧
        t.clk.pos = s.clk.pos ∧ t.clk.epoch = s.clk.epoch) ∧
      (∀ off, liveLater off = false → t.cfgv off = s.regv off) ∧ t.hif.takenNow = 0 ∧ t.hif.visit = none ∧
      t.regs = s.regs ∧ t.cfg = s.cfg ∧ t.pending = s.pending) ∧
  (∀ (s : State) (x : Sample), s.running = true → s.sys.recovery = true →
    ∃ t, Goes (.frameBoundary x) s t ∧ FrameBegun s t ∧ t = { s with clk := t.clk, hif := { s.hif with decLog := [] } })

/-- R67, R271: the epoch boundary commits the frame at position 99 and begins the next, or sent within the frame at position 0
does its work there: averages and capping's counts start anew. -/
def epochBoundary : Prop :=
  (∀ (s : State), s.running = true → s.sys.recovery = false → s.clk.begun = true → s.clk.pos = 99 → s.clk.opened = false →
    ∃ t, Goes .epochBoundary s t ∧ FrameBegun s t ∧ t.clk.opened = true ∧
      (t.clk.pos = 0 → t.clk.epTick = t.clk.tick ∧ t.cap.pEpoch = 0) ∧ t.regs = s.regs ∧ t.cfg = s.cfg ∧ t.smp = s.smp ∧
      t.pending = s.pending) ∧
  (∀ (s : State), s.running = true → s.sys.recovery = false → s.clk.begun = true → s.clk.pos = 0 →
    s.clk.epTick ≠ s.clk.tick →
    ∃ t, Goes .epochBoundary s t ∧ t.clk.epTick = s.clk.tick ∧ t.clk.count = s.clk.count ∧ t.clk.tick = s.clk.tick ∧
      t.cap.pEpoch = 0 ∧
      (s.brake.inFloor = false →
        t.cap.grace = (if s.cap.overAll then min (s.cap.grace + 1) 255 else s.cap.grace) ∧
        t.cap.rel = (if s.cap.underAll then min (s.cap.rel + 1) 255 else 0)) ∧
      t.regs = s.regs ∧ t.cfg = s.cfg ∧ t.smp = s.smp ∧ t.pending = s.pending)

/-- R89, R90: a frame without its sample set runs no control slice; the eighth in a row asks for the floor, the yield or the
standby's self-check. -/
def sampleMissed : Prop :=
  ∀ (s : State), s.running = true → s.sys.recovery = false →
    ∃ t, Goes .sampleMissed s t ∧ t.clk.missRun = s.clk.missRun + 1 ∧ t.clk.missTotal = s.clk.missTotal + 1 ∧
      t.clk.overranCtl = 0xFFFF ∧ t.brake.engRun = 0 ∧ t.smp = s.smp ∧ (s.clk.opened = false → FrameBegun s t) ∧
      (s.clk.missRun = 7 → t.brake.standing.getLsbD 6 = true ∨ t.tdm.yieldReq = 3 ∨ t.tdm.selfCheck = true) ∧
      t.regs = s.regs ∧ t.cfg = s.cfg ∧ t.pending = s.pending

/-- R91: an output set that did not come in time is recorded, and the field die keeps the one before. -/
def outputMissed : Prop :=
  ∀ (s : State), s.running = true → s.sys.recovery = false →
    ∃ t, Goes .outputMissed s t ∧ t = { s with rcd := t.rcd }

/-! ### Rules of the whole block -/

/-- R6: a register of an absent unit reads 0, and a write to it changes nothing. -/
def absentUnit : Prop :=
  ∀ (s : State) (off : Nat), absentReg s.sys.variant off = true →
    s.readReg off = 0 ∧ ∀ w : Word, Goes (.registerWrite off w) s s

/-- R779, R70: reading a read-only _LO register with a link latches its upper half, whatever register pair it is, and the
_HI register of every such pair that the variant has returns the one latch. -/
def oneLatch : Prop :=
  ∀ (s : State) (off : Nat), s.sys.linkUp = true →
    ∃ t, Goes (.loReadLatch off) s t ∧
      (∀ h, s.hiOf off = some h → h < 2 ^ 32 → t.hif.latchHi.toNat = h) ∧
      (s.hiOf off = none → t.hif.latchHi = s.hif.latchHi) ∧
      (∀ lo, (t.hiOf lo).isSome = true → absentReg t.sys.variant (lo + 4) = false →
        t.readReg (lo + 4) = t.hif.latchHi.toNat)

/-- R733: a write that would leave a rail's VMIN above its VMAX leaves both as they were, and SETUP_WRITE_DENIED (0x0024)
says so. After SETUP_LOCK the write could only lower VMAX and only raise VMIN (R20). -/
def limitPair : Prop :=
  ∀ (s : State) (n : Nat) (w : Word), s.sys.linkUp = true → n < s.sys.variant.rails →
    let off := 0xC100 + 16 * n
    let cur := s.regv off
    let vmax := if s.sys.lock then min (cutField cur 0 16) (cutField w.toNat 0 16) else cutField w.toNat 0 16
    let vmin := if s.sys.lock then max (cutField cur 16 16) (cutField w.toNat 16 16) else cutField w.toNat 16 16
    vmax < vmin →
    ∃ t, Goes (.registerWrite off w) s t ∧ cutField (t.regv off) 0 16 = cutField cur 0 16 ∧
      cutField (t.regv off) 16 16 = cutField cur 16 16 ∧ (∃ kept, t.rcd = (s.emit 0x0024 14 [off, w.toNat, kept, 0]).rcd) ∧
      ∀ o, o ≠ off → t.regv o = s.regv o

/-- R686: the marker for a SEQ that is gone. -/
def goneMarker : Prop :=
  ∀ (s : State) (q : BitVec 32), (s.rcd.log ++ s.rcd.staging).find? (·.seq = q) = none →
    s.recAt q = { code := 0xFFFF, flags := 0, source := 0xFF, seq := q, time := 0, p0 := s.rcd.oldest, p1 := 0, p2 := 0, p3 := 0 }

/-- R138: writing 1 sets SETUP_LOCK, and nothing but a warm reset, a cold reset or the hand-off of hibernate clears it. -/
def lockStands : Prop :=
  (∀ s : State, s.sys.linkUp = true → ∃ t, Goes .setupLock s t ∧ t.sys.lock = true) ∧
  (∀ (c : Instr) (s t : State), Goes c s t → s.sys.lock = true →
    t.sys.lock = true ∨ c = .warmReset ∨ (∃ n, c = .coldReset n) ∨ c = .hibHandoff)

/-- R729, R730: no command lowers the anti-rollback counter or adds an advance. -/
def rollbackStands : Prop :=
  ∀ (c : Instr) (s t : State), s.cfg.fwVersion < 2 ^ 64 → Goes c s t →
    s.sys.rollback.toNat ≤ t.sys.rollback.toNat ∧ t.sys.rollbackLeft ≤ s.sys.rollbackLeft

end Sys2Proof.Claims

/-- A step takes the command at the front of the queue and runs it on the state with the queue's rest; with no command
waiting the block idles, which is the model's choice (log 10). -/
def Obligations.StepTakesFront : Prop :=
  (∀ (s : Sys2Proof.Machine.State) (c : Sys2Proof.Instr) (rest : List Sys2Proof.Instr), s.pending = c :: rest →
    Sys2Proof.Machine.step s = Sys2Proof.Machine.exec c { s with pending := rest }) ∧
  (∀ s : Sys2Proof.Machine.State, s.pending = [] → Sys2Proof.Machine.step s = .next s)

/-- R69, R142, R147, R588, R730: what the spec gives for cold reset. -/
def Obligations.ResetValues : Prop :=
  let r := Sys2Proof.Machine.State.reset
  r.pending = [] ∧ r.clk.devTime = 0 ∧ r.sys.supply = .off ∧ r.sys.lock = false ∧ r.sys.resetLast = 0 ∧
  r.sys.warmCount = 0 ∧ r.sys.ready = 0 ∧ r.sys.linkUp = false ∧ r.hif.event = 0 ∧
  (∀ x ∈ r.hif.rings, x.st = .disabled) ∧ (∀ x ∈ r.hif.tags, x.st = .free) ∧
  (∀ x ∈ r.rails, x.isOn = false ∧ x.pg = false) ∧ (∀ x ∈ r.sws, x.st = .off) ∧ (∀ x ∈ r.phases, x.drive = .mid) ∧
  r.maint.unlocked = false ∧ r.brake.inFloor = false ∧ r.regs = [] ∧ r.live = [] ∧ r.way.gen = 0

/-- The reset state is well-formed. -/
def Obligations.ResetWellFormed : Prop := Sys2Proof.Machine.State.reset.wf

/-- Every command answers a next state with the queue untouched and every table whole. -/
def Obligations.EveryCommandCompletes : Prop :=
  ∀ (c : Sys2Proof.Instr) (s : Sys2Proof.Machine.State), s.shape →
    ∃ t, Sys2Proof.Machine.exec c s = .next t ∧ t.pending = s.pending ∧ t.shape

/-- Every step from a well-formed state answers a well-formed one. -/
def Obligations.StepKeepsWellFormed : Prop :=
  ∀ s t : Sys2Proof.Machine.State, s.wf → Sys2Proof.Machine.step s = .next t → t.wf

def Obligations.AbsentUnits : Prop := Sys2Proof.Claims.absentUnit
def Obligations.OneLatch : Prop := Sys2Proof.Claims.oneLatch
def Obligations.LimitPair : Prop := Sys2Proof.Claims.limitPair
def Obligations.GoneMarker : Prop := Sys2Proof.Claims.goneMarker
def Obligations.SetupLockStands : Prop := Sys2Proof.Claims.lockStands
def Obligations.RollbackStands : Prop := Sys2Proof.Claims.rollbackStands
def Obligations.HostCap : Prop := Sys2Proof.Claims.capSet

/-- Stream words, on-time ends and reference steps of a rail. -/
def Obligations.RailSampling : Prop :=
  Sys2Proof.Claims.currentStreamWord ∧
  Sys2Proof.Claims.onTimeExpiry ∧
  Sys2Proof.Claims.referenceUpdate

/-- Truncation, recall, shedding and the end of the recall hold. -/
def Obligations.FastErrorAndShedding : Prop :=
  Sys2Proof.Claims.fastErrorWord ∧
  Sys2Proof.Claims.phaseShed ∧
  Sys2Proof.Claims.recallHoldEnd

/-- The mask, and a forecast entry from speculation to retirement. -/
def Obligations.Speculation : Prop :=
  Sys2Proof.Claims.pgmaskEnd ∧
  Sys2Proof.Claims.speculationStart ∧
  Sys2Proof.Claims.biasEnd ∧
  Sys2Proof.Claims.forecastRetire

/-- Turning a rail on and off by descriptor. -/
def Obligations.RailOnOff : Prop :=
  Sys2Proof.Claims.railOn ∧
  Sys2Proof.Claims.railOff

/-- Setting and querying a rail's voltage, and host forecasts. -/
def Obligations.RailVoltage : Prop :=
  Sys2Proof.Claims.railSetVoltage ∧
  Sys2Proof.Claims.railQuery ∧
  Sys2Proof.Claims.forecastPost ∧
  Sys2Proof.Claims.forecastCancel

/-- A rail's faults: timers, short at start, retry and its count. -/
def Obligations.RailFaults : Prop :=
  Sys2Proof.Claims.railFault ∧
  Sys2Proof.Claims.ssShort ∧
  Sys2Proof.Claims.railRetry ∧
  Sys2Proof.Claims.retryCountReset

/-- Phase latches, the crowbar, how a discharge ends, and RAIL_CLEAR. -/
def Obligations.Crowbar : Prop :=
  Sys2Proof.Claims.phaseLatch ∧
  Sys2Proof.Claims.ovCrowbar ∧
  Sys2Proof.Claims.crowbarHoldEnd ∧
  Sys2Proof.Claims.railClear ∧
  Sys2Proof.Claims.dischargeEnd ∧
  Sys2Proof.Claims.dischargeTimeout

/-- Every trip of a switch channel leaves the same state. -/
def Obligations.SwitchTrips : Prop :=
  Sys2Proof.Claims.rampTimeout ∧
  Sys2Proof.Claims.switchShort ∧
  Sys2Proof.Claims.swFaultTimerExpiry ∧
  Sys2Proof.Claims.swPumpTrip ∧
  Sys2Proof.Claims.brakeI2tTrip

/-- Ramp end, retry and seating of a switch channel. -/
def Obligations.SwitchRecovery : Prop :=
  Sys2Proof.Claims.rampComplete ∧
  Sys2Proof.Claims.swRetry ∧
  Sys2Proof.Claims.swRetryCountReset ∧
  Sys2Proof.Claims.seatQualified ∧
  Sys2Proof.Claims.seatLoss

/-- SW_ON, SW_OFF and SW_CLEAR. -/
def Obligations.SwitchCommands : Prop :=
  Sys2Proof.Claims.swOn ∧
  Sys2Proof.Claims.swOff ∧
  Sys2Proof.Claims.swClear

/-- A qualified step, and a step whose time ran out. -/
def Obligations.SequencerSteps : Prop :=
  Sys2Proof.Claims.stepQualified ∧
  Sys2Proof.Claims.stepTimeout

/-- The SYNC line: hold segments, advance, home and abort. -/
def Obligations.SyncLine : Prop :=
  Sys2Proof.Claims.syncRelease ∧
  Sys2Proof.Claims.syncRefresh ∧
  Sys2Proof.Claims.holdSegmentEnd ∧
  Sys2Proof.Claims.syncAdvance ∧
  Sys2Proof.Claims.syncHome ∧
  Sys2Proof.Claims.syncInvalid ∧
  Sys2Proof.Claims.homePulseEnd

/-- Abort burst and long press, PGOOD, MR_N, presses and reset pulses. -/
def Obligations.ForcedOff : Prop :=
  Sys2Proof.Claims.syncAbortBurst ∧
  Sys2Proof.Claims.longPress ∧
  Sys2Proof.Claims.pgoodRelease ∧
  Sys2Proof.Claims.mrNAssert ∧
  Sys2Proof.Claims.mrNEnd ∧
  Sys2Proof.Claims.pbPress ∧
  Sys2Proof.Claims.resetPulseEnd

/-- SEQ_RUN, SEQ_ABORT, SEQ_RESET_PULSE and SEQ_FAULT_ACK. -/
def Obligations.SequencerCommands : Prop :=
  Sys2Proof.Claims.seqRun ∧
  Sys2Proof.Claims.seqAbort ∧
  Sys2Proof.Claims.seqResetPulse ∧
  Sys2Proof.Claims.seqFaultAck

/-- Feed loss, hand-over, hold-up and hand-back. -/
def Obligations.FeedAndHandover : Prop :=
  Sys2Proof.Claims.feedLoss ∧
  Sys2Proof.Claims.converterBoost ∧
  Sys2Proof.Claims.handoverEnd ∧
  Sys2Proof.Claims.feedQualified ∧
  Sys2Proof.Claims.handbackEnd ∧
  Sys2Proof.Claims.reserveReached ∧
  Sys2Proof.Claims.batCutoff

/-- Detection of the battery, the periodic pulse and forced stops of charging. -/
def Obligations.Battery : Prop :=
  Sys2Proof.Claims.batPresent ∧
  Sys2Proof.Claims.batMissing ∧
  Sys2Proof.Claims.prechargeEnd ∧
  Sys2Proof.Claims.detectionPulseEnd ∧
  Sys2Proof.Claims.periodicPulse ∧
  Sys2Proof.Claims.chgForcedStop

/-- Charging, PATH_CLEAR and BAT_ISOLATE in both forms, and the feed search. -/
def Obligations.PathCommands : Prop :=
  Sys2Proof.Claims.chgStart ∧
  Sys2Proof.Claims.chgStop ∧
  Sys2Proof.Claims.pathClear ∧
  Sys2Proof.Claims.batIsolate ∧
  Sys2Proof.Claims.batReconnect ∧
  Sys2Proof.Claims.searchDwellEnd ∧
  Sys2Proof.Claims.searchPeriod

/-- The gauge: samples, empty, open-circuit correction and spectroscopy. -/
def Obligations.GaugeCounting : Prop :=
  Sys2Proof.Claims.gaugeSample ∧
  Sys2Proof.Claims.emptyConfirmed ∧
  Sys2Proof.Claims.ocvCorrect ∧
  Sys2Proof.Claims.spectroStart ∧
  Sys2Proof.Claims.spectroResult

/-- The gauge's non-volatile slots, its commands and its wake sampler. -/
def Obligations.GaugeStore : Prop :=
  Sys2Proof.Claims.nvWrite ∧
  Sys2Proof.Claims.nvWritePeriodic ∧
  Sys2Proof.Claims.gaugeSetFull ∧
  Sys2Proof.Claims.gaugeSave ∧
  Sys2Proof.Claims.gaugeNewBattery ∧
  Sys2Proof.Claims.gaugeSpectro ∧
  Sys2Proof.Claims.currentWakeSample

/-- Reducing and raising the load limits, and the die sensor. -/
def Obligations.CappingAndThermal : Prop :=
  Sys2Proof.Claims.capReduce ∧
  Sys2Proof.Claims.capRaise ∧
  Sys2Proof.Claims.tsenseFailed ∧
  Sys2Proof.Claims.tsenseRecover

/-- Doorbells and the intake of a descriptor. -/
def Obligations.Doorbells : Prop :=
  Sys2Proof.Claims.sqDoorbell ∧
  Sys2Proof.Claims.cqDoorbell ∧
  Sys2Proof.Claims.descriptorIntake ∧
  Sys2Proof.Claims.deadlineMissed

/-- Completions reach host memory, and vectors are signalled. -/
def Obligations.Completions : Prop :=
  Sys2Proof.Claims.completionWrite ∧
  Sys2Proof.Claims.coalTimeout ∧
  Sys2Proof.Claims.msixUnmask

/-- The endpoint: bus mastering, failing reads, windows, void accesses, resets. -/
def Obligations.EndpointState : Prop :=
  Sys2Proof.Claims.busMasterChange ∧
  Sys2Proof.Claims.dmaReadFail ∧
  Sys2Proof.Claims.dmaWindowWrite ∧
  Sys2Proof.Claims.barAccessVoid ∧
  Sys2Proof.Claims.pcieReset ∧
  Sys2Proof.Claims.pcieLinkUp ∧
  Sys2Proof.Claims.pcieConfigReady ∧
  Sys2Proof.Claims.vaonLoss

/-- Enabling and resetting a ring through its registers. -/
def Obligations.RingRegisters : Prop :=
  Sys2Proof.Claims.ringEnable ∧
  Sys2Proof.Claims.ringCtrlReset

/-- The ring and window descriptors, NOP and WALL_SET. -/
def Obligations.RingCommands : Prop :=
  Sys2Proof.Claims.nop ∧
  Sys2Proof.Claims.wallSet ∧
  Sys2Proof.Claims.ringCreate ∧
  Sys2Proof.Claims.ringDelete ∧
  Sys2Proof.Claims.resetRing ∧
  Sys2Proof.Claims.dmaWindowSet

/-- CFG_WRITE, FW_WRITE and their ends, the rollback counter, BRAKE_TIGHTEN. -/
def Obligations.ImagesAndBanks : Prop :=
  Sys2Proof.Claims.cfgWrite ∧
  Sys2Proof.Claims.cfgWriteComplete ∧
  Sys2Proof.Claims.fwWrite ∧
  Sys2Proof.Claims.fwWriteComplete ∧
  Sys2Proof.Claims.rollbackAdvance ∧
  Sys2Proof.Claims.brakeTighten

/-- Tokens, pages, snapshots and the record window. -/
def Obligations.RecorderLog : Prop :=
  Sys2Proof.Claims.tokenRefill ∧
  Sys2Proof.Claims.flashPageWrite ∧
  Sys2Proof.Claims.partialPageFlush ∧
  Sys2Proof.Claims.stagingFlushed ∧
  Sys2Proof.Claims.recCursorWrite ∧
  Sys2Proof.Claims.recSnap ∧
  Sys2Proof.Claims.windowFetchDone ∧
  Sys2Proof.Claims.recRead

/-- The frame trace from its trigger to a slot. -/
def Obligations.FrameTrace : Prop :=
  Sys2Proof.Claims.recTrigger ∧
  Sys2Proof.Claims.recTraceRead ∧
  Sys2Proof.Claims.traceFreeze ∧
  Sys2Proof.Claims.traceWritten ∧
  Sys2Proof.Claims.eraseAheadComplete

/-- MAINT_START and MAINT_STOP. -/
def Obligations.MaintenanceStartStop : Prop :=
  Sys2Proof.Claims.maintStart ∧
  Sys2Proof.Claims.maintStop

/-- The steps of the maintenance activities, and the perturbation unit. -/
def Obligations.MaintenanceSteps : Prop :=
  Sys2Proof.Claims.selftestChannel ∧
  Sys2Proof.Claims.adcCalConverter ∧
  Sys2Proof.Claims.logCompactSector ∧
  Sys2Proof.Claims.safePoint ∧
  Sys2Proof.Claims.swapWaitExpiry ∧
  Sys2Proof.Claims.dryrunStep ∧
  Sys2Proof.Claims.testUnlock ∧
  Sys2Proof.Claims.testLock ∧
  Sys2Proof.Claims.benchLow

/-- The Waybill image reaches its half of the buffer. -/
def Obligations.Waybill : Prop :=
  Sys2Proof.Claims.waybillWrite

/-- A led node: beacons, alignment, caps, forecasts and acknowledgements. -/
def Obligations.DrayUplink : Prop :=
  Sys2Proof.Claims.beacon ∧
  Sys2Proof.Claims.alignLock ∧
  Sys2Proof.Claims.holdover ∧
  Sys2Proof.Claims.cap ∧
  Sys2Proof.Claims.forecast ∧
  Sys2Proof.Claims.ack ∧
  Sys2Proof.Claims.drayUplinkLoss ∧
  Sys2Proof.Claims.drayCrcDiscard

/-- A leader: reports, stages, alarms, lost nodes and conflicts. -/
def Obligations.DrayLeader : Prop :=
  Sys2Proof.Claims.report ∧
  Sys2Proof.Claims.stage ∧
  Sys2Proof.Claims.alarm ∧
  Sys2Proof.Claims.nodeLoss ∧
  Sys2Proof.Claims.idConflictClear

/-- Drayline transmission and the descriptors behind it. -/
def Obligations.DraySending : Prop :=
  Sys2Proof.Claims.drayTransmit ∧
  Sys2Proof.Claims.drayCap ∧
  Sys2Proof.Claims.drayForecast ∧
  Sys2Proof.Claims.drayStage

/-- The Tandem link, missing blocks and the hold of a SOLO. -/
def Obligations.TandemLink : Prop :=
  Sys2Proof.Claims.statusBlockReceived ∧
  Sys2Proof.Claims.tdmLinkDown ∧
  Sys2Proof.Claims.blockMissing ∧
  Sys2Proof.Claims.tdmLinkUp ∧
  Sys2Proof.Claims.soloHoldEnd ∧
  Sys2Proof.Claims.orphan ∧
  Sys2Proof.Claims.mismatchUnresolved

/-- What a received state block does to a standby. -/
def Obligations.TandemStateBlock : Prop :=
  Sys2Proof.Claims.stateBlockReceived

/-- Takeover: a SHADOW becomes SOLO and carries on the pair's work. -/
def Obligations.TandemTakeover : Prop :=
  Sys2Proof.Claims.takeover

/-- Joining, drills, promotion and retirement of a twin. -/
def Obligations.TandemJoin : Prop :=
  Sys2Proof.Claims.tdmJoin ∧
  Sys2Proof.Claims.joinTimeout ∧
  Sys2Proof.Claims.autoJoin ∧
  Sys2Proof.Claims.drillHoldEnd ∧
  Sys2Proof.Claims.tdmPromote ∧
  Sys2Proof.Claims.tdmRetire ∧
  Sys2Proof.Claims.tdmRejoin

/-- Entering the safe floor. -/
def Obligations.FloorEnter : Prop :=
  Sys2Proof.Claims.floorEnter

/-- Leaving the safe floor, EXIT_FLOOR, reloads and host link loss. -/
def Obligations.FloorExit : Prop :=
  Sys2Proof.Claims.floorExit ∧
  Sys2Proof.Claims.exitFloor ∧
  Sys2Proof.Claims.engineReload ∧
  Sys2Proof.Claims.hostLinkLoss

/-- Overruns, memory errors, scrubbing, the crystal and stalled accesses. -/
def Obligations.OverrunsAndMemoryErrors : Prop :=
  Sys2Proof.Claims.frameOverrun ∧
  Sys2Proof.Claims.backgroundOverrun ∧
  Sys2Proof.Claims.singleBitError ∧
  Sys2Proof.Claims.doubleBitError ∧
  Sys2Proof.Claims.scrubComplete ∧
  Sys2Proof.Claims.xtalFail ∧
  Sys2Proof.Claims.xtalRestored ∧
  Sys2Proof.Claims.domainStall

/-- Cold, warm and field-main reset. -/
def Obligations.Resets : Prop :=
  Sys2Proof.Claims.coldReset ∧
  Sys2Proof.Claims.warmReset ∧
  Sys2Proof.Claims.fieldMainReset

/-- Register writes, the bridge, events and GLB_CTRL requests. -/
def Obligations.RegisterWrites : Prop :=
  Sys2Proof.Claims.registerWrite ∧
  Sys2Proof.Claims.fieldForward ∧
  Sys2Proof.Claims.fieldBridgeFlushClear ∧
  Sys2Proof.Claims.hifEventClear ∧
  Sys2Proof.Claims.setupLock ∧
  Sys2Proof.Claims.warmResetRequest ∧
  Sys2Proof.Claims.coldResetRequest

/-- Supplies, straps and core starts. -/
def Obligations.PowerUp : Prop :=
  Sys2Proof.Claims.alwaysOnStart ∧
  Sys2Proof.Claims.vaonRise ∧
  Sys2Proof.Claims.v33Good ∧
  Sys2Proof.Claims.strapLatch ∧
  Sys2Proof.Claims.v18Good ∧
  Sys2Proof.Claims.coreStartRetry

/-- Boot, configuration load, readiness and the locks that follow. -/
def Obligations.BootAndReadiness : Prop :=
  Sys2Proof.Claims.bootStart ∧
  Sys2Proof.Claims.cfgImageLoad ∧
  Sys2Proof.Claims.functionReady ∧
  Sys2Proof.Claims.funcFail ∧
  Sys2Proof.Claims.autoProgStart ∧
  Sys2Proof.Claims.autolock ∧
  Sys2Proof.Claims.nohostLock

/-- Hibernate entry and wake. -/
def Obligations.Hibernate : Prop :=
  Sys2Proof.Claims.hibernate ∧
  Sys2Proof.Claims.hibH1 ∧
  Sys2Proof.Claims.hibHandoff ∧
  Sys2Proof.Claims.wakePin

/-- Frame and epoch boundaries, missed samples and missed outputs. -/
def Obligations.FramesBegin : Prop :=
  Sys2Proof.Claims.frameBoundary ∧
  Sys2Proof.Claims.epochBoundary ∧
  Sys2Proof.Claims.sampleMissed ∧
  Sys2Proof.Claims.outputMissed ∧
  Sys2Proof.Claims.loReadLatch
end

