-- ==== Sys2Proof/Laws/State.lean ====
section
/-! SUPPORT. The small lemmas of the state's updates: what one unit's update leaves alone, field by field, what its own entry
becomes, and folds that keep a part of the state. -/

namespace Sys2Proof.Machine
theorem foldl_keep {α β γ : Type} (g : α → γ) (f : α → β → α) (h : ∀ a b, g (f a b) = g a) (l : List β) (a : α) :
    g (l.foldl f a) = g a := by
  induction l generalizing a with
  | nil => rfl
  | cons x xs ih => simp [ih, h]
@[simp] theorem foldl_sys {β : Type} (f : State → β → State) (h : ∀ s k, (f s k).sys = s.sys) (l : List β) (s : State) :
    (l.foldl f s).sys = s.sys := foldl_keep (·.sys) f h l s
@[simp] theorem each_sys (f : State → Nat → State) (h : ∀ s k, (f s k).sys = s.sys) (l : List Nat) (s : State) :
    (s.each l f).sys = s.sys := foldl_keep (·.sys) f h l s
@[simp] theorem foldl_clk {β : Type} (f : State → β → State) (h : ∀ s k, (f s k).clk = s.clk) (l : List β) (s : State) :
    (l.foldl f s).clk = s.clk := foldl_keep (·.clk) f h l s
@[simp] theorem each_clk (f : State → Nat → State) (h : ∀ s k, (f s k).clk = s.clk) (l : List Nat) (s : State) :
    (s.each l f).clk = s.clk := foldl_keep (·.clk) f h l s
@[simp] theorem foldl_cfg {β : Type} (f : State → β → State) (h : ∀ s k, (f s k).cfg = s.cfg) (l : List β) (s : State) :
    (l.foldl f s).cfg = s.cfg := foldl_keep (·.cfg) f h l s
@[simp] theorem each_cfg (f : State → Nat → State) (h : ∀ s k, (f s k).cfg = s.cfg) (l : List Nat) (s : State) :
    (s.each l f).cfg = s.cfg := foldl_keep (·.cfg) f h l s
@[simp] theorem foldl_regs {β : Type} (f : State → β → State) (h : ∀ s k, (f s k).regs = s.regs) (l : List β) (s : State) :
    (l.foldl f s).regs = s.regs := foldl_keep (·.regs) f h l s
@[simp] theorem each_regs (f : State → Nat → State) (h : ∀ s k, (f s k).regs = s.regs) (l : List Nat) (s : State) :
    (s.each l f).regs = s.regs := foldl_keep (·.regs) f h l s
@[simp] theorem foldl_live {β : Type} (f : State → β → State) (h : ∀ s k, (f s k).live = s.live) (l : List β) (s : State) :
    (l.foldl f s).live = s.live := foldl_keep (·.live) f h l s
@[simp] theorem each_live (f : State → Nat → State) (h : ∀ s k, (f s k).live = s.live) (l : List Nat) (s : State) :
    (s.each l f).live = s.live := foldl_keep (·.live) f h l s
@[simp] theorem foldl_rails {β : Type} (f : State → β → State) (h : ∀ s k, (f s k).rails = s.rails) (l : List β) (s : State) :
    (l.foldl f s).rails = s.rails := foldl_keep (·.rails) f h l s
@[simp] theorem each_rails (f : State → Nat → State) (h : ∀ s k, (f s k).rails = s.rails) (l : List Nat) (s : State) :
    (s.each l f).rails = s.rails := foldl_keep (·.rails) f h l s
@[simp] theorem foldl_phases {β : Type} (f : State → β → State) (h : ∀ s k, (f s k).phases = s.phases) (l : List β) (s : State) :
    (l.foldl f s).phases = s.phases := foldl_keep (·.phases) f h l s
@[simp] theorem each_phases (f : State → Nat → State) (h : ∀ s k, (f s k).phases = s.phases) (l : List Nat) (s : State) :
    (s.each l f).phases = s.phases := foldl_keep (·.phases) f h l s
@[simp] theorem foldl_sws {β : Type} (f : State → β → State) (h : ∀ s k, (f s k).sws = s.sws) (l : List β) (s : State) :
    (l.foldl f s).sws = s.sws := foldl_keep (·.sws) f h l s
@[simp] theorem each_sws (f : State → Nat → State) (h : ∀ s k, (f s k).sws = s.sws) (l : List Nat) (s : State) :
    (s.each l f).sws = s.sws := foldl_keep (·.sws) f h l s
@[simp] theorem foldl_seq {β : Type} (f : State → β → State) (h : ∀ s k, (f s k).seq = s.seq) (l : List β) (s : State) :
    (l.foldl f s).seq = s.seq := foldl_keep (·.seq) f h l s
@[simp] theorem each_seq (f : State → Nat → State) (h : ∀ s k, (f s k).seq = s.seq) (l : List Nat) (s : State) :
    (s.each l f).seq = s.seq := foldl_keep (·.seq) f h l s
@[simp] theorem foldl_path {β : Type} (f : State → β → State) (h : ∀ s k, (f s k).path = s.path) (l : List β) (s : State) :
    (l.foldl f s).path = s.path := foldl_keep (·.path) f h l s
@[simp] theorem each_path (f : State → Nat → State) (h : ∀ s k, (f s k).path = s.path) (l : List Nat) (s : State) :
    (s.each l f).path = s.path := foldl_keep (·.path) f h l s
@[simp] theorem foldl_gauge {β : Type} (f : State → β → State) (h : ∀ s k, (f s k).gauge = s.gauge) (l : List β) (s : State) :
    (l.foldl f s).gauge = s.gauge := foldl_keep (·.gauge) f h l s
@[simp] theorem each_gauge (f : State → Nat → State) (h : ∀ s k, (f s k).gauge = s.gauge) (l : List Nat) (s : State) :
    (s.each l f).gauge = s.gauge := foldl_keep (·.gauge) f h l s
@[simp] theorem foldl_tdm {β : Type} (f : State → β → State) (h : ∀ s k, (f s k).tdm = s.tdm) (l : List β) (s : State) :
    (l.foldl f s).tdm = s.tdm := foldl_keep (·.tdm) f h l s
@[simp] theorem each_tdm (f : State → Nat → State) (h : ∀ s k, (f s k).tdm = s.tdm) (l : List Nat) (s : State) :
    (s.each l f).tdm = s.tdm := foldl_keep (·.tdm) f h l s
@[simp] theorem foldl_hif {β : Type} (f : State → β → State) (h : ∀ s k, (f s k).hif = s.hif) (l : List β) (s : State) :
    (l.foldl f s).hif = s.hif := foldl_keep (·.hif) f h l s
@[simp] theorem each_hif (f : State → Nat → State) (h : ∀ s k, (f s k).hif = s.hif) (l : List Nat) (s : State) :
    (s.each l f).hif = s.hif := foldl_keep (·.hif) f h l s
@[simp] theorem foldl_way {β : Type} (f : State → β → State) (h : ∀ s k, (f s k).way = s.way) (l : List β) (s : State) :
    (l.foldl f s).way = s.way := foldl_keep (·.way) f h l s
@[simp] theorem each_way (f : State → Nat → State) (h : ∀ s k, (f s k).way = s.way) (l : List Nat) (s : State) :
    (s.each l f).way = s.way := foldl_keep (·.way) f h l s
@[simp] theorem foldl_dray {β : Type} (f : State → β → State) (h : ∀ s k, (f s k).dray = s.dray) (l : List β) (s : State) :
    (l.foldl f s).dray = s.dray := foldl_keep (·.dray) f h l s
@[simp] theorem each_dray (f : State → Nat → State) (h : ∀ s k, (f s k).dray = s.dray) (l : List Nat) (s : State) :
    (s.each l f).dray = s.dray := foldl_keep (·.dray) f h l s
@[simp] theorem foldl_rcd {β : Type} (f : State → β → State) (h : ∀ s k, (f s k).rcd = s.rcd) (l : List β) (s : State) :
    (l.foldl f s).rcd = s.rcd := foldl_keep (·.rcd) f h l s
@[simp] theorem each_rcd (f : State → Nat → State) (h : ∀ s k, (f s k).rcd = s.rcd) (l : List Nat) (s : State) :
    (s.each l f).rcd = s.rcd := foldl_keep (·.rcd) f h l s
@[simp] theorem foldl_brake {β : Type} (f : State → β → State) (h : ∀ s k, (f s k).brake = s.brake) (l : List β) (s : State) :
    (l.foldl f s).brake = s.brake := foldl_keep (·.brake) f h l s
@[simp] theorem each_brake (f : State → Nat → State) (h : ∀ s k, (f s k).brake = s.brake) (l : List Nat) (s : State) :
    (s.each l f).brake = s.brake := foldl_keep (·.brake) f h l s
@[simp] theorem foldl_cap {β : Type} (f : State → β → State) (h : ∀ s k, (f s k).cap = s.cap) (l : List β) (s : State) :
    (l.foldl f s).cap = s.cap := foldl_keep (·.cap) f h l s
@[simp] theorem each_cap (f : State → Nat → State) (h : ∀ s k, (f s k).cap = s.cap) (l : List Nat) (s : State) :
    (s.each l f).cap = s.cap := foldl_keep (·.cap) f h l s
@[simp] theorem foldl_maint {β : Type} (f : State → β → State) (h : ∀ s k, (f s k).maint = s.maint) (l : List β) (s : State) :
    (l.foldl f s).maint = s.maint := foldl_keep (·.maint) f h l s
@[simp] theorem each_maint (f : State → Nat → State) (h : ∀ s k, (f s k).maint = s.maint) (l : List Nat) (s : State) :
    (s.each l f).maint = s.maint := foldl_keep (·.maint) f h l s
@[simp] theorem foldl_smp {β : Type} (f : State → β → State) (h : ∀ s k, (f s k).smp = s.smp) (l : List β) (s : State) :
    (l.foldl f s).smp = s.smp := foldl_keep (·.smp) f h l s
@[simp] theorem each_smp (f : State → Nat → State) (h : ∀ s k, (f s k).smp = s.smp) (l : List Nat) (s : State) :
    (s.each l f).smp = s.smp := foldl_keep (·.smp) f h l s
@[simp] theorem foldl_freeCtr {β : Type} (f : State → β → State) (h : ∀ s k, (f s k).freeCtr = s.freeCtr) (l : List β) (s : State) :
    (l.foldl f s).freeCtr = s.freeCtr := foldl_keep (·.freeCtr) f h l s
@[simp] theorem each_freeCtr (f : State → Nat → State) (h : ∀ s k, (f s k).freeCtr = s.freeCtr) (l : List Nat) (s : State) :
    (s.each l f).freeCtr = s.freeCtr := foldl_keep (·.freeCtr) f h l s
@[simp] theorem foldl_pending {β : Type} (f : State → β → State) (h : ∀ s k, (f s k).pending = s.pending) (l : List β) (s : State) :
    (l.foldl f s).pending = s.pending := foldl_keep (·.pending) f h l s
@[simp] theorem each_pending (f : State → Nat → State) (h : ∀ s k, (f s k).pending = s.pending) (l : List Nat) (s : State) :
    (s.each l f).pending = s.pending := foldl_keep (·.pending) f h l s
@[simp] theorem foldl_rails_length {β : Type} (f : State → β → State) (h : ∀ s k, (f s k).rails.length = s.rails.length) (l : List β) (s : State) :
    (l.foldl f s).rails.length = s.rails.length := foldl_keep (·.rails.length) f h l s
@[simp] theorem each_rails_length (f : State → Nat → State) (h : ∀ s k, (f s k).rails.length = s.rails.length) (l : List Nat) (s : State) :
    (s.each l f).rails.length = s.rails.length := foldl_keep (·.rails.length) f h l s
@[simp] theorem foldl_phases_length {β : Type} (f : State → β → State) (h : ∀ s k, (f s k).phases.length = s.phases.length) (l : List β) (s : State) :
    (l.foldl f s).phases.length = s.phases.length := foldl_keep (·.phases.length) f h l s
@[simp] theorem each_phases_length (f : State → Nat → State) (h : ∀ s k, (f s k).phases.length = s.phases.length) (l : List Nat) (s : State) :
    (s.each l f).phases.length = s.phases.length := foldl_keep (·.phases.length) f h l s
@[simp] theorem foldl_sws_length {β : Type} (f : State → β → State) (h : ∀ s k, (f s k).sws.length = s.sws.length) (l : List β) (s : State) :
    (l.foldl f s).sws.length = s.sws.length := foldl_keep (·.sws.length) f h l s
@[simp] theorem each_sws_length (f : State → Nat → State) (h : ∀ s k, (f s k).sws.length = s.sws.length) (l : List Nat) (s : State) :
    (s.each l f).sws.length = s.sws.length := foldl_keep (·.sws.length) f h l s
@[simp] theorem foldl_hif_rings_length {β : Type} (f : State → β → State) (h : ∀ s k, (f s k).hif.rings.length = s.hif.rings.length) (l : List β) (s : State) :
    (l.foldl f s).hif.rings.length = s.hif.rings.length := foldl_keep (·.hif.rings.length) f h l s
@[simp] theorem each_hif_rings_length (f : State → Nat → State) (h : ∀ s k, (f s k).hif.rings.length = s.hif.rings.length) (l : List Nat) (s : State) :
    (s.each l f).hif.rings.length = s.hif.rings.length := foldl_keep (·.hif.rings.length) f h l s
@[simp] theorem foldl_hif_tags_length {β : Type} (f : State → β → State) (h : ∀ s k, (f s k).hif.tags.length = s.hif.tags.length) (l : List β) (s : State) :
    (l.foldl f s).hif.tags.length = s.hif.tags.length := foldl_keep (·.hif.tags.length) f h l s
@[simp] theorem each_hif_tags_length (f : State → Nat → State) (h : ∀ s k, (f s k).hif.tags.length = s.hif.tags.length) (l : List Nat) (s : State) :
    (s.each l f).hif.tags.length = s.hif.tags.length := foldl_keep (·.hif.tags.length) f h l s
@[simp] theorem foldl_sys_variant {β : Type} (f : State → β → State) (h : ∀ s k, (f s k).sys.variant = s.sys.variant) (l : List β) (s : State) :
    (l.foldl f s).sys.variant = s.sys.variant := foldl_keep (·.sys.variant) f h l s
@[simp] theorem each_sys_variant (f : State → Nat → State) (h : ∀ s k, (f s k).sys.variant = s.sys.variant) (l : List Nat) (s : State) :
    (s.each l f).sys.variant = s.sys.variant := foldl_keep (·.sys.variant) f h l s
@[simp] theorem ite_sys (c : Prop) [Decidable c] (a b : State) : (if c then a else b).sys = if c then a.sys else b.sys := by split <;> rfl
@[simp] theorem ite_clk (c : Prop) [Decidable c] (a b : State) : (if c then a else b).clk = if c then a.clk else b.clk := by split <;> rfl
@[simp] theorem ite_cfg (c : Prop) [Decidable c] (a b : State) : (if c then a else b).cfg = if c then a.cfg else b.cfg := by split <;> rfl
@[simp] theorem ite_regs (c : Prop) [Decidable c] (a b : State) : (if c then a else b).regs = if c then a.regs else b.regs := by split <;> rfl
@[simp] theorem ite_live (c : Prop) [Decidable c] (a b : State) : (if c then a else b).live = if c then a.live else b.live := by split <;> rfl
@[simp] theorem ite_rails (c : Prop) [Decidable c] (a b : State) : (if c then a else b).rails = if c then a.rails else b.rails := by split <;> rfl
@[simp] theorem ite_phases (c : Prop) [Decidable c] (a b : State) : (if c then a else b).phases = if c then a.phases else b.phases := by split <;> rfl
@[simp] theorem ite_sws (c : Prop) [Decidable c] (a b : State) : (if c then a else b).sws = if c then a.sws else b.sws := by split <;> rfl
@[simp] theorem ite_seq (c : Prop) [Decidable c] (a b : State) : (if c then a else b).seq = if c then a.seq else b.seq := by split <;> rfl
@[simp] theorem ite_path (c : Prop) [Decidable c] (a b : State) : (if c then a else b).path = if c then a.path else b.path := by split <;> rfl
@[simp] theorem ite_gauge (c : Prop) [Decidable c] (a b : State) : (if c then a else b).gauge = if c then a.gauge else b.gauge := by split <;> rfl
@[simp] theorem ite_tdm (c : Prop) [Decidable c] (a b : State) : (if c then a else b).tdm = if c then a.tdm else b.tdm := by split <;> rfl
@[simp] theorem ite_hif (c : Prop) [Decidable c] (a b : State) : (if c then a else b).hif = if c then a.hif else b.hif := by split <;> rfl
@[simp] theorem ite_way (c : Prop) [Decidable c] (a b : State) : (if c then a else b).way = if c then a.way else b.way := by split <;> rfl
@[simp] theorem ite_dray (c : Prop) [Decidable c] (a b : State) : (if c then a else b).dray = if c then a.dray else b.dray := by split <;> rfl
@[simp] theorem ite_rcd (c : Prop) [Decidable c] (a b : State) : (if c then a else b).rcd = if c then a.rcd else b.rcd := by split <;> rfl
@[simp] theorem ite_brake (c : Prop) [Decidable c] (a b : State) : (if c then a else b).brake = if c then a.brake else b.brake := by split <;> rfl
@[simp] theorem ite_cap (c : Prop) [Decidable c] (a b : State) : (if c then a else b).cap = if c then a.cap else b.cap := by split <;> rfl
@[simp] theorem ite_maint (c : Prop) [Decidable c] (a b : State) : (if c then a else b).maint = if c then a.maint else b.maint := by split <;> rfl
@[simp] theorem ite_smp (c : Prop) [Decidable c] (a b : State) : (if c then a else b).smp = if c then a.smp else b.smp := by split <;> rfl
@[simp] theorem ite_freeCtr (c : Prop) [Decidable c] (a b : State) : (if c then a else b).freeCtr = if c then a.freeCtr else b.freeCtr := by split <;> rfl
@[simp] theorem ite_pending (c : Prop) [Decidable c] (a b : State) : (if c then a else b).pending = if c then a.pending else b.pending := by split <;> rfl
@[simp] theorem ite_len {α : Type} (c : Prop) [Decidable c] (a b : List α) : (if c then a else b).length = if c then a.length else b.length := by split <;> rfl
@[simp] theorem ite_hr (c : Prop) [Decidable c] (a b : Hif) : (if c then a else b).rings = if c then a.rings else b.rings := by split <;> rfl
@[simp] theorem ite_ht (c : Prop) [Decidable c] (a b : Hif) : (if c then a else b).tags = if c then a.tags else b.tags := by split <;> rfl
@[simp] theorem ite_sv (c : Prop) [Decidable c] (a b : Sys) : (if c then a else b).variant = if c then a.variant else b.variant := by split <;> rfl
@[simp] theorem ite_fst {α β : Type} (c : Prop) [Decidable c] (a b : α × β) : (if c then a else b).1 = if c then a.1 else b.1 := by split <;> rfl
theorem ite_weak {α : Sort _} (c : Prop) [Decidable c] {a b a' b' : α} (h : a = a') (k : b = b') : (if c then a else b) = if c then a' else b' := by subst h; subst k; rfl

/-! ### One unit's update, field by field -/

@[simp] theorem State.modRail_sys (s : State) (n : Nat) (g : Rail → Rail) : (s.modRail n g).sys = s.sys := rfl
@[simp] theorem State.modRail_clk (s : State) (n : Nat) (g : Rail → Rail) : (s.modRail n g).clk = s.clk := rfl
@[simp] theorem State.modRail_cfg (s : State) (n : Nat) (g : Rail → Rail) : (s.modRail n g).cfg = s.cfg := rfl
@[simp] theorem State.modRail_regs (s : State) (n : Nat) (g : Rail → Rail) : (s.modRail n g).regs = s.regs := rfl
@[simp] theorem State.modRail_live (s : State) (n : Nat) (g : Rail → Rail) : (s.modRail n g).live = s.live := rfl
@[simp] theorem State.modRail_phases (s : State) (n : Nat) (g : Rail → Rail) : (s.modRail n g).phases = s.phases := rfl
@[simp] theorem State.modRail_sws (s : State) (n : Nat) (g : Rail → Rail) : (s.modRail n g).sws = s.sws := rfl
@[simp] theorem State.modRail_seq (s : State) (n : Nat) (g : Rail → Rail) : (s.modRail n g).seq = s.seq := rfl
@[simp] theorem State.modRail_path (s : State) (n : Nat) (g : Rail → Rail) : (s.modRail n g).path = s.path := rfl
@[simp] theorem State.modRail_gauge (s : State) (n : Nat) (g : Rail → Rail) : (s.modRail n g).gauge = s.gauge := rfl
@[simp] theorem State.modRail_tdm (s : State) (n : Nat) (g : Rail → Rail) : (s.modRail n g).tdm = s.tdm := rfl
@[simp] theorem State.modRail_hif (s : State) (n : Nat) (g : Rail → Rail) : (s.modRail n g).hif = s.hif := rfl
@[simp] theorem State.modRail_way (s : State) (n : Nat) (g : Rail → Rail) : (s.modRail n g).way = s.way := rfl
@[simp] theorem State.modRail_dray (s : State) (n : Nat) (g : Rail → Rail) : (s.modRail n g).dray = s.dray := rfl
@[simp] theorem State.modRail_rcd (s : State) (n : Nat) (g : Rail → Rail) : (s.modRail n g).rcd = s.rcd := rfl
@[simp] theorem State.modRail_brake (s : State) (n : Nat) (g : Rail → Rail) : (s.modRail n g).brake = s.brake := rfl
@[simp] theorem State.modRail_cap (s : State) (n : Nat) (g : Rail → Rail) : (s.modRail n g).cap = s.cap := rfl
@[simp] theorem State.modRail_maint (s : State) (n : Nat) (g : Rail → Rail) : (s.modRail n g).maint = s.maint := rfl
@[simp] theorem State.modRail_smp (s : State) (n : Nat) (g : Rail → Rail) : (s.modRail n g).smp = s.smp := rfl
@[simp] theorem State.modRail_freeCtr (s : State) (n : Nat) (g : Rail → Rail) : (s.modRail n g).freeCtr = s.freeCtr := rfl
@[simp] theorem State.modRail_pending (s : State) (n : Nat) (g : Rail → Rail) : (s.modRail n g).pending = s.pending := rfl
@[simp] theorem State.modPhase_sys (s : State) (n : Nat) (g : Phase → Phase) : (s.modPhase n g).sys = s.sys := rfl
@[simp] theorem State.modPhase_clk (s : State) (n : Nat) (g : Phase → Phase) : (s.modPhase n g).clk = s.clk := rfl
@[simp] theorem State.modPhase_cfg (s : State) (n : Nat) (g : Phase → Phase) : (s.modPhase n g).cfg = s.cfg := rfl
@[simp] theorem State.modPhase_regs (s : State) (n : Nat) (g : Phase → Phase) : (s.modPhase n g).regs = s.regs := rfl
@[simp] theorem State.modPhase_live (s : State) (n : Nat) (g : Phase → Phase) : (s.modPhase n g).live = s.live := rfl
@[simp] theorem State.modPhase_rails (s : State) (n : Nat) (g : Phase → Phase) : (s.modPhase n g).rails = s.rails := rfl
@[simp] theorem State.modPhase_sws (s : State) (n : Nat) (g : Phase → Phase) : (s.modPhase n g).sws = s.sws := rfl
@[simp] theorem State.modPhase_seq (s : State) (n : Nat) (g : Phase → Phase) : (s.modPhase n g).seq = s.seq := rfl
@[simp] theorem State.modPhase_path (s : State) (n : Nat) (g : Phase → Phase) : (s.modPhase n g).path = s.path := rfl
@[simp] theorem State.modPhase_gauge (s : State) (n : Nat) (g : Phase → Phase) : (s.modPhase n g).gauge = s.gauge := rfl
@[simp] theorem State.modPhase_tdm (s : State) (n : Nat) (g : Phase → Phase) : (s.modPhase n g).tdm = s.tdm := rfl
@[simp] theorem State.modPhase_hif (s : State) (n : Nat) (g : Phase → Phase) : (s.modPhase n g).hif = s.hif := rfl
@[simp] theorem State.modPhase_way (s : State) (n : Nat) (g : Phase → Phase) : (s.modPhase n g).way = s.way := rfl
@[simp] theorem State.modPhase_dray (s : State) (n : Nat) (g : Phase → Phase) : (s.modPhase n g).dray = s.dray := rfl
@[simp] theorem State.modPhase_rcd (s : State) (n : Nat) (g : Phase → Phase) : (s.modPhase n g).rcd = s.rcd := rfl
@[simp] theorem State.modPhase_brake (s : State) (n : Nat) (g : Phase → Phase) : (s.modPhase n g).brake = s.brake := rfl
@[simp] theorem State.modPhase_cap (s : State) (n : Nat) (g : Phase → Phase) : (s.modPhase n g).cap = s.cap := rfl
@[simp] theorem State.modPhase_maint (s : State) (n : Nat) (g : Phase → Phase) : (s.modPhase n g).maint = s.maint := rfl
@[simp] theorem State.modPhase_smp (s : State) (n : Nat) (g : Phase → Phase) : (s.modPhase n g).smp = s.smp := rfl
@[simp] theorem State.modPhase_freeCtr (s : State) (n : Nat) (g : Phase → Phase) : (s.modPhase n g).freeCtr = s.freeCtr := rfl
@[simp] theorem State.modPhase_pending (s : State) (n : Nat) (g : Phase → Phase) : (s.modPhase n g).pending = s.pending := rfl
@[simp] theorem State.modSw_sys (s : State) (n : Nat) (g : Switch → Switch) : (s.modSw n g).sys = s.sys := rfl
@[simp] theorem State.modSw_clk (s : State) (n : Nat) (g : Switch → Switch) : (s.modSw n g).clk = s.clk := rfl
@[simp] theorem State.modSw_cfg (s : State) (n : Nat) (g : Switch → Switch) : (s.modSw n g).cfg = s.cfg := rfl
@[simp] theorem State.modSw_regs (s : State) (n : Nat) (g : Switch → Switch) : (s.modSw n g).regs = s.regs := rfl
@[simp] theorem State.modSw_live (s : State) (n : Nat) (g : Switch → Switch) : (s.modSw n g).live = s.live := rfl
@[simp] theorem State.modSw_rails (s : State) (n : Nat) (g : Switch → Switch) : (s.modSw n g).rails = s.rails := rfl
@[simp] theorem State.modSw_phases (s : State) (n : Nat) (g : Switch → Switch) : (s.modSw n g).phases = s.phases := rfl
@[simp] theorem State.modSw_seq (s : State) (n : Nat) (g : Switch → Switch) : (s.modSw n g).seq = s.seq := rfl
@[simp] theorem State.modSw_path (s : State) (n : Nat) (g : Switch → Switch) : (s.modSw n g).path = s.path := rfl
@[simp] theorem State.modSw_gauge (s : State) (n : Nat) (g : Switch → Switch) : (s.modSw n g).gauge = s.gauge := rfl
@[simp] theorem State.modSw_tdm (s : State) (n : Nat) (g : Switch → Switch) : (s.modSw n g).tdm = s.tdm := rfl
@[simp] theorem State.modSw_hif (s : State) (n : Nat) (g : Switch → Switch) : (s.modSw n g).hif = s.hif := rfl
@[simp] theorem State.modSw_way (s : State) (n : Nat) (g : Switch → Switch) : (s.modSw n g).way = s.way := rfl
@[simp] theorem State.modSw_dray (s : State) (n : Nat) (g : Switch → Switch) : (s.modSw n g).dray = s.dray := rfl
@[simp] theorem State.modSw_rcd (s : State) (n : Nat) (g : Switch → Switch) : (s.modSw n g).rcd = s.rcd := rfl
@[simp] theorem State.modSw_brake (s : State) (n : Nat) (g : Switch → Switch) : (s.modSw n g).brake = s.brake := rfl
@[simp] theorem State.modSw_cap (s : State) (n : Nat) (g : Switch → Switch) : (s.modSw n g).cap = s.cap := rfl
@[simp] theorem State.modSw_maint (s : State) (n : Nat) (g : Switch → Switch) : (s.modSw n g).maint = s.maint := rfl
@[simp] theorem State.modSw_smp (s : State) (n : Nat) (g : Switch → Switch) : (s.modSw n g).smp = s.smp := rfl
@[simp] theorem State.modSw_freeCtr (s : State) (n : Nat) (g : Switch → Switch) : (s.modSw n g).freeCtr = s.freeCtr := rfl
@[simp] theorem State.modSw_pending (s : State) (n : Nat) (g : Switch → Switch) : (s.modSw n g).pending = s.pending := rfl
@[simp] theorem State.modRing_sys (s : State) (n : Nat) (g : Ring → Ring) : (s.modRing n g).sys = s.sys := rfl
@[simp] theorem State.modRing_clk (s : State) (n : Nat) (g : Ring → Ring) : (s.modRing n g).clk = s.clk := rfl
@[simp] theorem State.modRing_cfg (s : State) (n : Nat) (g : Ring → Ring) : (s.modRing n g).cfg = s.cfg := rfl
@[simp] theorem State.modRing_regs (s : State) (n : Nat) (g : Ring → Ring) : (s.modRing n g).regs = s.regs := rfl
@[simp] theorem State.modRing_live (s : State) (n : Nat) (g : Ring → Ring) : (s.modRing n g).live = s.live := rfl
@[simp] theorem State.modRing_rails (s : State) (n : Nat) (g : Ring → Ring) : (s.modRing n g).rails = s.rails := rfl
@[simp] theorem State.modRing_phases (s : State) (n : Nat) (g : Ring → Ring) : (s.modRing n g).phases = s.phases := rfl
@[simp] theorem State.modRing_sws (s : State) (n : Nat) (g : Ring → Ring) : (s.modRing n g).sws = s.sws := rfl
@[simp] theorem State.modRing_seq (s : State) (n : Nat) (g : Ring → Ring) : (s.modRing n g).seq = s.seq := rfl
@[simp] theorem State.modRing_path (s : State) (n : Nat) (g : Ring → Ring) : (s.modRing n g).path = s.path := rfl
@[simp] theorem State.modRing_gauge (s : State) (n : Nat) (g : Ring → Ring) : (s.modRing n g).gauge = s.gauge := rfl
@[simp] theorem State.modRing_tdm (s : State) (n : Nat) (g : Ring → Ring) : (s.modRing n g).tdm = s.tdm := rfl
@[simp] theorem State.modRing_way (s : State) (n : Nat) (g : Ring → Ring) : (s.modRing n g).way = s.way := rfl
@[simp] theorem State.modRing_dray (s : State) (n : Nat) (g : Ring → Ring) : (s.modRing n g).dray = s.dray := rfl
@[simp] theorem State.modRing_rcd (s : State) (n : Nat) (g : Ring → Ring) : (s.modRing n g).rcd = s.rcd := rfl
@[simp] theorem State.modRing_brake (s : State) (n : Nat) (g : Ring → Ring) : (s.modRing n g).brake = s.brake := rfl
@[simp] theorem State.modRing_cap (s : State) (n : Nat) (g : Ring → Ring) : (s.modRing n g).cap = s.cap := rfl
@[simp] theorem State.modRing_maint (s : State) (n : Nat) (g : Ring → Ring) : (s.modRing n g).maint = s.maint := rfl
@[simp] theorem State.modRing_smp (s : State) (n : Nat) (g : Ring → Ring) : (s.modRing n g).smp = s.smp := rfl
@[simp] theorem State.modRing_freeCtr (s : State) (n : Nat) (g : Ring → Ring) : (s.modRing n g).freeCtr = s.freeCtr := rfl
@[simp] theorem State.modRing_pending (s : State) (n : Nat) (g : Ring → Ring) : (s.modRing n g).pending = s.pending := rfl
@[simp] theorem State.modTag_sys (s : State) (n : Nat) (g : Tag → Tag) : (s.modTag n g).sys = s.sys := rfl
@[simp] theorem State.modTag_clk (s : State) (n : Nat) (g : Tag → Tag) : (s.modTag n g).clk = s.clk := rfl
@[simp] theorem State.modTag_cfg (s : State) (n : Nat) (g : Tag → Tag) : (s.modTag n g).cfg = s.cfg := rfl
@[simp] theorem State.modTag_regs (s : State) (n : Nat) (g : Tag → Tag) : (s.modTag n g).regs = s.regs := rfl
@[simp] theorem State.modTag_live (s : State) (n : Nat) (g : Tag → Tag) : (s.modTag n g).live = s.live := rfl
@[simp] theorem State.modTag_rails (s : State) (n : Nat) (g : Tag → Tag) : (s.modTag n g).rails = s.rails := rfl
@[simp] theorem State.modTag_phases (s : State) (n : Nat) (g : Tag → Tag) : (s.modTag n g).phases = s.phases := rfl
@[simp] theorem State.modTag_sws (s : State) (n : Nat) (g : Tag → Tag) : (s.modTag n g).sws = s.sws := rfl
@[simp] theorem State.modTag_seq (s : State) (n : Nat) (g : Tag → Tag) : (s.modTag n g).seq = s.seq := rfl
@[simp] theorem State.modTag_path (s : State) (n : Nat) (g : Tag → Tag) : (s.modTag n g).path = s.path := rfl
@[simp] theorem State.modTag_gauge (s : State) (n : Nat) (g : Tag → Tag) : (s.modTag n g).gauge = s.gauge := rfl
@[simp] theorem State.modTag_tdm (s : State) (n : Nat) (g : Tag → Tag) : (s.modTag n g).tdm = s.tdm := rfl
@[simp] theorem State.modTag_way (s : State) (n : Nat) (g : Tag → Tag) : (s.modTag n g).way = s.way := rfl
@[simp] theorem State.modTag_dray (s : State) (n : Nat) (g : Tag → Tag) : (s.modTag n g).dray = s.dray := rfl
@[simp] theorem State.modTag_rcd (s : State) (n : Nat) (g : Tag → Tag) : (s.modTag n g).rcd = s.rcd := rfl
@[simp] theorem State.modTag_brake (s : State) (n : Nat) (g : Tag → Tag) : (s.modTag n g).brake = s.brake := rfl
@[simp] theorem State.modTag_cap (s : State) (n : Nat) (g : Tag → Tag) : (s.modTag n g).cap = s.cap := rfl
@[simp] theorem State.modTag_maint (s : State) (n : Nat) (g : Tag → Tag) : (s.modTag n g).maint = s.maint := rfl
@[simp] theorem State.modTag_smp (s : State) (n : Nat) (g : Tag → Tag) : (s.modTag n g).smp = s.smp := rfl
@[simp] theorem State.modTag_freeCtr (s : State) (n : Nat) (g : Tag → Tag) : (s.modTag n g).freeCtr = s.freeCtr := rfl
@[simp] theorem State.modTag_pending (s : State) (n : Nat) (g : Tag → Tag) : (s.modTag n g).pending = s.pending := rfl
@[simp] theorem State.freeStep_sys (s : State)  : (s.freeStep).sys = s.sys := rfl
@[simp] theorem State.freeStep_clk (s : State)  : (s.freeStep).clk = s.clk := rfl
@[simp] theorem State.freeStep_cfg (s : State)  : (s.freeStep).cfg = s.cfg := rfl
@[simp] theorem State.freeStep_regs (s : State)  : (s.freeStep).regs = s.regs := rfl
@[simp] theorem State.freeStep_live (s : State)  : (s.freeStep).live = s.live := rfl
@[simp] theorem State.freeStep_rails (s : State)  : (s.freeStep).rails = s.rails := rfl
@[simp] theorem State.freeStep_phases (s : State)  : (s.freeStep).phases = s.phases := rfl
@[simp] theorem State.freeStep_sws (s : State)  : (s.freeStep).sws = s.sws := rfl
@[simp] theorem State.freeStep_seq (s : State)  : (s.freeStep).seq = s.seq := rfl
@[simp] theorem State.freeStep_path (s : State)  : (s.freeStep).path = s.path := rfl
@[simp] theorem State.freeStep_gauge (s : State)  : (s.freeStep).gauge = s.gauge := rfl
@[simp] theorem State.freeStep_tdm (s : State)  : (s.freeStep).tdm = s.tdm := rfl
@[simp] theorem State.freeStep_hif (s : State)  : (s.freeStep).hif = s.hif := rfl
@[simp] theorem State.freeStep_way (s : State)  : (s.freeStep).way = s.way := rfl
@[simp] theorem State.freeStep_dray (s : State)  : (s.freeStep).dray = s.dray := rfl
@[simp] theorem State.freeStep_rcd (s : State)  : (s.freeStep).rcd = s.rcd := rfl
@[simp] theorem State.freeStep_brake (s : State)  : (s.freeStep).brake = s.brake := rfl
@[simp] theorem State.freeStep_cap (s : State)  : (s.freeStep).cap = s.cap := rfl
@[simp] theorem State.freeStep_maint (s : State)  : (s.freeStep).maint = s.maint := rfl
@[simp] theorem State.freeStep_smp (s : State)  : (s.freeStep).smp = s.smp := rfl
@[simp] theorem State.freeStep_pending (s : State)  : (s.freeStep).pending = s.pending := rfl
@[simp] theorem State.modRing_hif_bme (s : State) (n : Nat) (g : Ring → Ring) : (s.modRing n g).hif.bme = s.hif.bme := rfl
@[simp] theorem State.modRing_hif_d3 (s : State) (n : Nat) (g : Ring → Ring) : (s.modRing n g).hif.d3 = s.hif.d3 := rfl
@[simp] theorem State.modRing_hif_msixEn (s : State) (n : Nat) (g : Ring → Ring) : (s.modRing n g).hif.msixEn = s.hif.msixEn := rfl
@[simp] theorem State.modRing_hif_fmask (s : State) (n : Nat) (g : Ring → Ring) : (s.modRing n g).hif.fmask = s.hif.fmask := rfl
@[simp] theorem State.modRing_hif_vecMask (s : State) (n : Nat) (g : Ring → Ring) : (s.modRing n g).hif.vecMask = s.hif.vecMask := rfl
@[simp] theorem State.modRing_hif_vecPend (s : State) (n : Nat) (g : Ring → Ring) : (s.modRing n g).hif.vecPend = s.hif.vecPend := rfl
@[simp] theorem State.modRing_hif_msixTab (s : State) (n : Nat) (g : Ring → Ring) : (s.modRing n g).hif.msixTab = s.hif.msixTab := rfl
@[simp] theorem State.modRing_hif_wins (s : State) (n : Nat) (g : Ring → Ring) : (s.modRing n g).hif.wins = s.hif.wins := rfl
@[simp] theorem State.modRing_hif_tags (s : State) (n : Nat) (g : Ring → Ring) : (s.modRing n g).hif.tags = s.hif.tags := rfl
@[simp] theorem State.modRing_hif_order (s : State) (n : Nat) (g : Ring → Ring) : (s.modRing n g).hif.order = s.hif.order := rfl
@[simp] theorem State.modRing_hif_decided (s : State) (n : Nat) (g : Ring → Ring) : (s.modRing n g).hif.decided = s.hif.decided := rfl
@[simp] theorem State.modRing_hif_posted (s : State) (n : Nat) (g : Ring → Ring) : (s.modRing n g).hif.posted = s.hif.posted := rfl
@[simp] theorem State.modRing_hif_event (s : State) (n : Nat) (g : Ring → Ring) : (s.modRing n g).hif.event = s.hif.event := rfl
@[simp] theorem State.modRing_hif_takenNow (s : State) (n : Nat) (g : Ring → Ring) : (s.modRing n g).hif.takenNow = s.hif.takenNow := rfl
@[simp] theorem State.modRing_hif_takenEpoch (s : State) (n : Nat) (g : Ring → Ring) : (s.modRing n g).hif.takenEpoch = s.hif.takenEpoch := rfl
@[simp] theorem State.modRing_hif_writtenEpoch (s : State) (n : Nat) (g : Ring → Ring) : (s.modRing n g).hif.writtenEpoch = s.hif.writtenEpoch := rfl
@[simp] theorem State.modRing_hif_decLog (s : State) (n : Nat) (g : Ring → Ring) : (s.modRing n g).hif.decLog = s.hif.decLog := rfl
@[simp] theorem State.modRing_hif_rrStart (s : State) (n : Nat) (g : Ring → Ring) : (s.modRing n g).hif.rrStart = s.hif.rrStart := rfl
@[simp] theorem State.modRing_hif_rrSeen (s : State) (n : Nat) (g : Ring → Ring) : (s.modRing n g).hif.rrSeen = s.hif.rrSeen := rfl
@[simp] theorem State.modRing_hif_visit (s : State) (n : Nat) (g : Ring → Ring) : (s.modRing n g).hif.visit = s.hif.visit := rfl
@[simp] theorem State.modRing_hif_discarded (s : State) (n : Nat) (g : Ring → Ring) : (s.modRing n g).hif.discarded = s.hif.discarded := rfl
@[simp] theorem State.modRing_hif_latchHi (s : State) (n : Nat) (g : Ring → Ring) : (s.modRing n g).hif.latchHi = s.hif.latchHi := rfl
@[simp] theorem State.modRing_hif_readData (s : State) (n : Nat) (g : Ring → Ring) : (s.modRing n g).hif.readData = s.hif.readData := rfl
@[simp] theorem State.modRing_hif_scratch (s : State) (n : Nat) (g : Ring → Ring) : (s.modRing n g).hif.scratch = s.hif.scratch := rfl
@[simp] theorem State.modRing_hif_repeats (s : State) (n : Nat) (g : Ring → Ring) : (s.modRing n g).hif.repeats = s.hif.repeats := rfl
@[simp] theorem State.modRing_hif_runIds (s : State) (n : Nat) (g : Ring → Ring) : (s.modRing n g).hif.runIds = s.hif.runIds := rfl
@[simp] theorem State.modRing_hif_intakeNow (s : State) (n : Nat) (g : Ring → Ring) : (s.modRing n g).hif.intakeNow = s.hif.intakeNow := rfl
@[simp] theorem State.modRing_hif_intakeCur (s : State) (n : Nat) (g : Ring → Ring) : (s.modRing n g).hif.intakeCur = s.hif.intakeCur := rfl
@[simp] theorem State.modRing_hif_silence (s : State) (n : Nat) (g : Ring → Ring) : (s.modRing n g).hif.silence = s.hif.silence := rfl
@[simp] theorem State.modRing_hif_linkDown (s : State) (n : Nat) (g : Ring → Ring) : (s.modRing n g).hif.linkDown = s.hif.linkDown := rfl
@[simp] theorem State.modTag_hif_bme (s : State) (n : Nat) (g : Tag → Tag) : (s.modTag n g).hif.bme = s.hif.bme := rfl
@[simp] theorem State.modTag_hif_d3 (s : State) (n : Nat) (g : Tag → Tag) : (s.modTag n g).hif.d3 = s.hif.d3 := rfl
@[simp] theorem State.modTag_hif_msixEn (s : State) (n : Nat) (g : Tag → Tag) : (s.modTag n g).hif.msixEn = s.hif.msixEn := rfl
@[simp] theorem State.modTag_hif_fmask (s : State) (n : Nat) (g : Tag → Tag) : (s.modTag n g).hif.fmask = s.hif.fmask := rfl
@[simp] theorem State.modTag_hif_vecMask (s : State) (n : Nat) (g : Tag → Tag) : (s.modTag n g).hif.vecMask = s.hif.vecMask := rfl
@[simp] theorem State.modTag_hif_vecPend (s : State) (n : Nat) (g : Tag → Tag) : (s.modTag n g).hif.vecPend = s.hif.vecPend := rfl
@[simp] theorem State.modTag_hif_msixTab (s : State) (n : Nat) (g : Tag → Tag) : (s.modTag n g).hif.msixTab = s.hif.msixTab := rfl
@[simp] theorem State.modTag_hif_wins (s : State) (n : Nat) (g : Tag → Tag) : (s.modTag n g).hif.wins = s.hif.wins := rfl
@[simp] theorem State.modTag_hif_rings (s : State) (n : Nat) (g : Tag → Tag) : (s.modTag n g).hif.rings = s.hif.rings := rfl
@[simp] theorem State.modTag_hif_order (s : State) (n : Nat) (g : Tag → Tag) : (s.modTag n g).hif.order = s.hif.order := rfl
@[simp] theorem State.modTag_hif_decided (s : State) (n : Nat) (g : Tag → Tag) : (s.modTag n g).hif.decided = s.hif.decided := rfl
@[simp] theorem State.modTag_hif_posted (s : State) (n : Nat) (g : Tag → Tag) : (s.modTag n g).hif.posted = s.hif.posted := rfl
@[simp] theorem State.modTag_hif_event (s : State) (n : Nat) (g : Tag → Tag) : (s.modTag n g).hif.event = s.hif.event := rfl
@[simp] theorem State.modTag_hif_takenNow (s : State) (n : Nat) (g : Tag → Tag) : (s.modTag n g).hif.takenNow = s.hif.takenNow := rfl
@[simp] theorem State.modTag_hif_takenEpoch (s : State) (n : Nat) (g : Tag → Tag) : (s.modTag n g).hif.takenEpoch = s.hif.takenEpoch := rfl
@[simp] theorem State.modTag_hif_writtenEpoch (s : State) (n : Nat) (g : Tag → Tag) : (s.modTag n g).hif.writtenEpoch = s.hif.writtenEpoch := rfl
@[simp] theorem State.modTag_hif_decLog (s : State) (n : Nat) (g : Tag → Tag) : (s.modTag n g).hif.decLog = s.hif.decLog := rfl
@[simp] theorem State.modTag_hif_rrStart (s : State) (n : Nat) (g : Tag → Tag) : (s.modTag n g).hif.rrStart = s.hif.rrStart := rfl
@[simp] theorem State.modTag_hif_rrSeen (s : State) (n : Nat) (g : Tag → Tag) : (s.modTag n g).hif.rrSeen = s.hif.rrSeen := rfl
@[simp] theorem State.modTag_hif_visit (s : State) (n : Nat) (g : Tag → Tag) : (s.modTag n g).hif.visit = s.hif.visit := rfl
@[simp] theorem State.modTag_hif_discarded (s : State) (n : Nat) (g : Tag → Tag) : (s.modTag n g).hif.discarded = s.hif.discarded := rfl
@[simp] theorem State.modTag_hif_latchHi (s : State) (n : Nat) (g : Tag → Tag) : (s.modTag n g).hif.latchHi = s.hif.latchHi := rfl
@[simp] theorem State.modTag_hif_readData (s : State) (n : Nat) (g : Tag → Tag) : (s.modTag n g).hif.readData = s.hif.readData := rfl
@[simp] theorem State.modTag_hif_scratch (s : State) (n : Nat) (g : Tag → Tag) : (s.modTag n g).hif.scratch = s.hif.scratch := rfl
@[simp] theorem State.modTag_hif_repeats (s : State) (n : Nat) (g : Tag → Tag) : (s.modTag n g).hif.repeats = s.hif.repeats := rfl
@[simp] theorem State.modTag_hif_runIds (s : State) (n : Nat) (g : Tag → Tag) : (s.modTag n g).hif.runIds = s.hif.runIds := rfl
@[simp] theorem State.modTag_hif_intakeNow (s : State) (n : Nat) (g : Tag → Tag) : (s.modTag n g).hif.intakeNow = s.hif.intakeNow := rfl
@[simp] theorem State.modTag_hif_intakeCur (s : State) (n : Nat) (g : Tag → Tag) : (s.modTag n g).hif.intakeCur = s.hif.intakeCur := rfl
@[simp] theorem State.modTag_hif_silence (s : State) (n : Nat) (g : Tag → Tag) : (s.modTag n g).hif.silence = s.hif.silence := rfl
@[simp] theorem State.modTag_hif_linkDown (s : State) (n : Nat) (g : Tag → Tag) : (s.modTag n g).hif.linkDown = s.hif.linkDown := rfl

/-! ### The unit itself, and the others -/

theorem getD_modify_self {α : Type} (l : List α) (n : Nat) (f : α → α) (d : α) (h : n < l.length) :
    (l.modify n f).getD n d = f (l.getD n d) := by
  simp [List.getD, h]
theorem getD_modify_ne {α : Type} (l : List α) (n j : Nat) (f : α → α) (d : α) (h : j ≠ n) :
    (l.modify n f).getD j d = l.getD j d := by
  simp [List.getD, List.getElem?_modify, Ne.symm h]
@[simp] theorem rail_modRail_self (s : State) (n : Nat) (f : Rail → Rail) (h : n < s.rails.length) :
    (s.modRail n f).rail n = f (s.rail n) := getD_modify_self _ _ _ _ h
@[simp] theorem rail_modRail_ne (s : State) (n j : Nat) (f : Rail → Rail) (h : j ≠ n) :
    (s.modRail n f).rail j = s.rail j := getD_modify_ne _ _ _ _ _ h
@[simp] theorem length_modRail (s : State) (n : Nat) (f : Rail → Rail) : (s.modRail n f).rails.length = s.rails.length :=
  List.length_modify ..
@[simp] theorem phase_modPhase_self (s : State) (n : Nat) (f : Phase → Phase) (h : n < s.phases.length) :
    (s.modPhase n f).phase n = f (s.phase n) := getD_modify_self _ _ _ _ h
@[simp] theorem phase_modPhase_ne (s : State) (n j : Nat) (f : Phase → Phase) (h : j ≠ n) :
    (s.modPhase n f).phase j = s.phase j := getD_modify_ne _ _ _ _ _ h
@[simp] theorem length_modPhase (s : State) (n : Nat) (f : Phase → Phase) : (s.modPhase n f).phases.length = s.phases.length :=
  List.length_modify ..
@[simp] theorem sw_modSw_self (s : State) (n : Nat) (f : Switch → Switch) (h : n < s.sws.length) :
    (s.modSw n f).sw n = f (s.sw n) := getD_modify_self _ _ _ _ h
@[simp] theorem sw_modSw_ne (s : State) (n j : Nat) (f : Switch → Switch) (h : j ≠ n) :
    (s.modSw n f).sw j = s.sw j := getD_modify_ne _ _ _ _ _ h
@[simp] theorem length_modSw (s : State) (n : Nat) (f : Switch → Switch) : (s.modSw n f).sws.length = s.sws.length :=
  List.length_modify ..
@[simp] theorem ring_modRing_self (s : State) (n : Nat) (f : Ring → Ring) (h : n < s.hif.rings.length) :
    (s.modRing n f).ring n = f (s.ring n) := getD_modify_self _ _ _ _ h
@[simp] theorem ring_modRing_ne (s : State) (n j : Nat) (f : Ring → Ring) (h : j ≠ n) :
    (s.modRing n f).ring j = s.ring j := getD_modify_ne _ _ _ _ _ h
@[simp] theorem length_modRing (s : State) (n : Nat) (f : Ring → Ring) : (s.modRing n f).hif.rings.length = s.hif.rings.length :=
  List.length_modify ..
@[simp] theorem tag_modTag_self (s : State) (n : Nat) (f : Tag → Tag) (h : n < s.hif.tags.length) :
    (s.modTag n f).tag n = f (s.tag n) := getD_modify_self _ _ _ _ h
@[simp] theorem tag_modTag_ne (s : State) (n j : Nat) (f : Tag → Tag) (h : j ≠ n) :
    (s.modTag n f).tag j = s.tag j := getD_modify_ne _ _ _ _ _ h
@[simp] theorem length_modTag (s : State) (n : Nat) (f : Tag → Tag) : (s.modTag n f).hif.tags.length = s.hif.tags.length :=
  List.length_modify ..
theorem rail_of {s t : State} (h : t.rails = s.rails) (j : Nat) : t.rail j = s.rail j := by simp [State.rail, h]
theorem phase_of {s t : State} (h : t.phases = s.phases) (j : Nat) : t.phase j = s.phase j := by simp [State.phase, h]
theorem sw_of {s t : State} (h : t.sws = s.sws) (j : Nat) : t.sw j = s.sw j := by simp [State.sw, h]
theorem tag_of {s t : State} (h : t.hif = s.hif) (j : Nat) : t.tag j = s.tag j := by simp [State.tag, h]
theorem ring_of {s t : State} (h : t.hif = s.hif) (j : Nat) : t.ring j = s.ring j := by simp [State.ring, h]

end Sys2Proof.Machine
end

