-- ==== Sys2Proof/Laws/Ops.lean ====
section
/-! SUPPORT. What each shared operation of Machine/Ops.lean leaves unchanged, said once. -/

namespace Sys2Proof.Machine
@[simp] theorem State.modRail_frame (s : State) (n : Nat) (f : Rail → Rail) :
    (State.modRail s n f).sys = s.sys ∧
    (State.modRail s n f).clk = s.clk ∧
    (State.modRail s n f).cfg = s.cfg ∧
    (State.modRail s n f).regs = s.regs ∧
    (State.modRail s n f).live = s.live ∧
    (State.modRail s n f).rails.length = s.rails.length ∧
    (State.modRail s n f).phases = s.phases ∧
    (State.modRail s n f).sws = s.sws ∧
    (State.modRail s n f).seq = s.seq ∧
    (State.modRail s n f).path = s.path ∧
    (State.modRail s n f).gauge = s.gauge ∧
    (State.modRail s n f).tdm = s.tdm ∧
    (State.modRail s n f).hif = s.hif ∧
    (State.modRail s n f).way = s.way ∧
    (State.modRail s n f).dray = s.dray ∧
    (State.modRail s n f).rcd = s.rcd ∧
    (State.modRail s n f).brake = s.brake ∧
    (State.modRail s n f).cap = s.cap ∧
    (State.modRail s n f).maint = s.maint ∧
    (State.modRail s n f).smp = s.smp ∧
    (State.modRail s n f).freeCtr = s.freeCtr ∧
    (State.modRail s n f).pending = s.pending := by
  first
  | (unfold State.modRail; simp; done)
  | (unfold State.modRail; (repeat' split) <;> simp <;> done)
  | (unfold State.modRail; dsimp only; (repeat' split) <;> simp <;> done)
  | (unfold State.modRail; simp; (repeat' split) <;> simp_all <;> done)

@[simp] theorem State.modPhase_frame (s : State) (m : Nat) (f : Phase → Phase) :
    (State.modPhase s m f).sys = s.sys ∧
    (State.modPhase s m f).clk = s.clk ∧
    (State.modPhase s m f).cfg = s.cfg ∧
    (State.modPhase s m f).regs = s.regs ∧
    (State.modPhase s m f).live = s.live ∧
    (State.modPhase s m f).rails = s.rails ∧
    (State.modPhase s m f).phases.length = s.phases.length ∧
    (State.modPhase s m f).sws = s.sws ∧
    (State.modPhase s m f).seq = s.seq ∧
    (State.modPhase s m f).path = s.path ∧
    (State.modPhase s m f).gauge = s.gauge ∧
    (State.modPhase s m f).tdm = s.tdm ∧
    (State.modPhase s m f).hif = s.hif ∧
    (State.modPhase s m f).way = s.way ∧
    (State.modPhase s m f).dray = s.dray ∧
    (State.modPhase s m f).rcd = s.rcd ∧
    (State.modPhase s m f).brake = s.brake ∧
    (State.modPhase s m f).cap = s.cap ∧
    (State.modPhase s m f).maint = s.maint ∧
    (State.modPhase s m f).smp = s.smp ∧
    (State.modPhase s m f).freeCtr = s.freeCtr ∧
    (State.modPhase s m f).pending = s.pending := by
  first
  | (unfold State.modPhase; simp; done)
  | (unfold State.modPhase; (repeat' split) <;> simp <;> done)
  | (unfold State.modPhase; dsimp only; (repeat' split) <;> simp <;> done)
  | (unfold State.modPhase; simp; (repeat' split) <;> simp_all <;> done)

@[simp] theorem State.modSw_frame (s : State) (n : Nat) (f : Switch → Switch) :
    (State.modSw s n f).sys = s.sys ∧
    (State.modSw s n f).clk = s.clk ∧
    (State.modSw s n f).cfg = s.cfg ∧
    (State.modSw s n f).regs = s.regs ∧
    (State.modSw s n f).live = s.live ∧
    (State.modSw s n f).rails = s.rails ∧
    (State.modSw s n f).phases = s.phases ∧
    (State.modSw s n f).sws.length = s.sws.length ∧
    (State.modSw s n f).seq = s.seq ∧
    (State.modSw s n f).path = s.path ∧
    (State.modSw s n f).gauge = s.gauge ∧
    (State.modSw s n f).tdm = s.tdm ∧
    (State.modSw s n f).hif = s.hif ∧
    (State.modSw s n f).way = s.way ∧
    (State.modSw s n f).dray = s.dray ∧
    (State.modSw s n f).rcd = s.rcd ∧
    (State.modSw s n f).brake = s.brake ∧
    (State.modSw s n f).cap = s.cap ∧
    (State.modSw s n f).maint = s.maint ∧
    (State.modSw s n f).smp = s.smp ∧
    (State.modSw s n f).freeCtr = s.freeCtr ∧
    (State.modSw s n f).pending = s.pending := by
  first
  | (unfold State.modSw; simp; done)
  | (unfold State.modSw; (repeat' split) <;> simp <;> done)
  | (unfold State.modSw; dsimp only; (repeat' split) <;> simp <;> done)
  | (unfold State.modSw; simp; (repeat' split) <;> simp_all <;> done)

@[simp] theorem State.modRing_frame (s : State) (r : Nat) (f : Ring → Ring) :
    (State.modRing s r f).sys = s.sys ∧
    (State.modRing s r f).clk = s.clk ∧
    (State.modRing s r f).cfg = s.cfg ∧
    (State.modRing s r f).regs = s.regs ∧
    (State.modRing s r f).live = s.live ∧
    (State.modRing s r f).rails = s.rails ∧
    (State.modRing s r f).phases = s.phases ∧
    (State.modRing s r f).sws = s.sws ∧
    (State.modRing s r f).seq = s.seq ∧
    (State.modRing s r f).path = s.path ∧
    (State.modRing s r f).gauge = s.gauge ∧
    (State.modRing s r f).tdm = s.tdm ∧
    (State.modRing s r f).hif.rings.length = s.hif.rings.length ∧
    (State.modRing s r f).hif.tags.length = s.hif.tags.length ∧
    (State.modRing s r f).way = s.way ∧
    (State.modRing s r f).dray = s.dray ∧
    (State.modRing s r f).rcd = s.rcd ∧
    (State.modRing s r f).brake = s.brake ∧
    (State.modRing s r f).cap = s.cap ∧
    (State.modRing s r f).maint = s.maint ∧
    (State.modRing s r f).smp = s.smp ∧
    (State.modRing s r f).freeCtr = s.freeCtr ∧
    (State.modRing s r f).pending = s.pending := by
  first
  | (unfold State.modRing; simp; done)
  | (unfold State.modRing; (repeat' split) <;> simp <;> done)
  | (unfold State.modRing; dsimp only; (repeat' split) <;> simp <;> done)
  | (unfold State.modRing; simp; (repeat' split) <;> simp_all <;> done)

@[simp] theorem State.modTag_frame (s : State) (k : Nat) (f : Tag → Tag) :
    (State.modTag s k f).sys = s.sys ∧
    (State.modTag s k f).clk = s.clk ∧
    (State.modTag s k f).cfg = s.cfg ∧
    (State.modTag s k f).regs = s.regs ∧
    (State.modTag s k f).live = s.live ∧
    (State.modTag s k f).rails = s.rails ∧
    (State.modTag s k f).phases = s.phases ∧
    (State.modTag s k f).sws = s.sws ∧
    (State.modTag s k f).seq = s.seq ∧
    (State.modTag s k f).path = s.path ∧
    (State.modTag s k f).gauge = s.gauge ∧
    (State.modTag s k f).tdm = s.tdm ∧
    (State.modTag s k f).hif.rings.length = s.hif.rings.length ∧
    (State.modTag s k f).hif.tags.length = s.hif.tags.length ∧
    (State.modTag s k f).way = s.way ∧
    (State.modTag s k f).dray = s.dray ∧
    (State.modTag s k f).rcd = s.rcd ∧
    (State.modTag s k f).brake = s.brake ∧
    (State.modTag s k f).cap = s.cap ∧
    (State.modTag s k f).maint = s.maint ∧
    (State.modTag s k f).smp = s.smp ∧
    (State.modTag s k f).freeCtr = s.freeCtr ∧
    (State.modTag s k f).pending = s.pending := by
  first
  | (unfold State.modTag; simp; done)
  | (unfold State.modTag; (repeat' split) <;> simp <;> done)
  | (unfold State.modTag; dsimp only; (repeat' split) <;> simp <;> done)
  | (unfold State.modTag; simp; (repeat' split) <;> simp_all <;> done)

@[simp] theorem State.freeStep_frame (s : State) :
    (State.freeStep s).sys = s.sys ∧
    (State.freeStep s).clk = s.clk ∧
    (State.freeStep s).cfg = s.cfg ∧
    (State.freeStep s).regs = s.regs ∧
    (State.freeStep s).live = s.live ∧
    (State.freeStep s).rails = s.rails ∧
    (State.freeStep s).phases = s.phases ∧
    (State.freeStep s).sws = s.sws ∧
    (State.freeStep s).seq = s.seq ∧
    (State.freeStep s).path = s.path ∧
    (State.freeStep s).gauge = s.gauge ∧
    (State.freeStep s).tdm = s.tdm ∧
    (State.freeStep s).hif = s.hif ∧
    (State.freeStep s).way = s.way ∧
    (State.freeStep s).dray = s.dray ∧
    (State.freeStep s).rcd = s.rcd ∧
    (State.freeStep s).brake = s.brake ∧
    (State.freeStep s).cap = s.cap ∧
    (State.freeStep s).maint = s.maint ∧
    (State.freeStep s).smp = s.smp ∧
    (State.freeStep s).pending = s.pending := by
  first
  | (unfold State.freeStep; simp; done)
  | (unfold State.freeStep; (repeat' split) <;> simp <;> done)
  | (unfold State.freeStep; dsimp only; (repeat' split) <;> simp <;> done)
  | (unfold State.freeStep; simp; (repeat' split) <;> simp_all <;> done)

@[simp] theorem State.setBucket_frame (s : State) (b : Bucket) :
    (State.setBucket s b).sys = s.sys ∧
    (State.setBucket s b).clk = s.clk ∧
    (State.setBucket s b).cfg = s.cfg ∧
    (State.setBucket s b).regs = s.regs ∧
    (State.setBucket s b).live = s.live ∧
    (State.setBucket s b).rails = s.rails ∧
    (State.setBucket s b).phases = s.phases ∧
    (State.setBucket s b).sws = s.sws ∧
    (State.setBucket s b).seq = s.seq ∧
    (State.setBucket s b).path = s.path ∧
    (State.setBucket s b).gauge = s.gauge ∧
    (State.setBucket s b).tdm = s.tdm ∧
    (State.setBucket s b).hif = s.hif ∧
    (State.setBucket s b).way = s.way ∧
    (State.setBucket s b).dray = s.dray ∧
    (State.setBucket s b).brake = s.brake ∧
    (State.setBucket s b).cap = s.cap ∧
    (State.setBucket s b).maint = s.maint ∧
    (State.setBucket s b).smp = s.smp ∧
    (State.setBucket s b).freeCtr = s.freeCtr ∧
    (State.setBucket s b).pending = s.pending := by
  first
  | (unfold State.setBucket; simp; done)
  | (unfold State.setBucket; (repeat' split) <;> simp <;> done)
  | (unfold State.setBucket; dsimp only; (repeat' split) <;> simp <;> done)
  | (unfold State.setBucket; simp; (repeat' split) <;> simp_all <;> done)

@[simp] theorem State.admit_frame (s : State) (r : Record) :
    (State.admitRec s r).sys = s.sys ∧
    (State.admitRec s r).clk = s.clk ∧
    (State.admitRec s r).cfg = s.cfg ∧
    (State.admitRec s r).regs = s.regs ∧
    (State.admitRec s r).live = s.live ∧
    (State.admitRec s r).rails = s.rails ∧
    (State.admitRec s r).phases = s.phases ∧
    (State.admitRec s r).sws = s.sws ∧
    (State.admitRec s r).seq = s.seq ∧
    (State.admitRec s r).path = s.path ∧
    (State.admitRec s r).gauge = s.gauge ∧
    (State.admitRec s r).tdm = s.tdm ∧
    (State.admitRec s r).hif = s.hif ∧
    (State.admitRec s r).way = s.way ∧
    (State.admitRec s r).dray = s.dray ∧
    (State.admitRec s r).brake = s.brake ∧
    (State.admitRec s r).cap = s.cap ∧
    (State.admitRec s r).maint = s.maint ∧
    (State.admitRec s r).smp = s.smp ∧
    (State.admitRec s r).freeCtr = s.freeCtr ∧
    (State.admitRec s r).pending = s.pending := by
  first
  | (unfold State.admitRec; simp; done)
  | (unfold State.admitRec; (repeat' split) <;> simp <;> done)
  | (unfold State.admitRec; dsimp only; (repeat' split) <;> simp <;> done)
  | (unfold State.admitRec; simp; (repeat' split) <;> simp_all <;> done)

@[simp] theorem State.suppress_frame (s : State) (code : Nat) (time : Nat) :
    (State.suppress s code time).sys = s.sys ∧
    (State.suppress s code time).clk = s.clk ∧
    (State.suppress s code time).cfg = s.cfg ∧
    (State.suppress s code time).regs = s.regs ∧
    (State.suppress s code time).live = s.live ∧
    (State.suppress s code time).rails = s.rails ∧
    (State.suppress s code time).phases = s.phases ∧
    (State.suppress s code time).sws = s.sws ∧
    (State.suppress s code time).seq = s.seq ∧
    (State.suppress s code time).path = s.path ∧
    (State.suppress s code time).gauge = s.gauge ∧
    (State.suppress s code time).tdm = s.tdm ∧
    (State.suppress s code time).hif = s.hif ∧
    (State.suppress s code time).way = s.way ∧
    (State.suppress s code time).dray = s.dray ∧
    (State.suppress s code time).brake = s.brake ∧
    (State.suppress s code time).cap = s.cap ∧
    (State.suppress s code time).maint = s.maint ∧
    (State.suppress s code time).smp = s.smp ∧
    (State.suppress s code time).freeCtr = s.freeCtr ∧
    (State.suppress s code time).pending = s.pending := by
  first
  | (unfold State.suppress; simp; done)
  | (unfold State.suppress; (repeat' split) <;> simp <;> done)
  | (unfold State.suppress; dsimp only; (repeat' split) <;> simp <;> done)
  | (unfold State.suppress; simp; (repeat' split) <;> simp_all <;> done)

@[simp] theorem State.passGlobal_frame (s : State) (r : Record) :
    (State.passGlobal s r).sys = s.sys ∧
    (State.passGlobal s r).clk = s.clk ∧
    (State.passGlobal s r).cfg = s.cfg ∧
    (State.passGlobal s r).regs = s.regs ∧
    (State.passGlobal s r).live = s.live ∧
    (State.passGlobal s r).rails = s.rails ∧
    (State.passGlobal s r).phases = s.phases ∧
    (State.passGlobal s r).sws = s.sws ∧
    (State.passGlobal s r).seq = s.seq ∧
    (State.passGlobal s r).path = s.path ∧
    (State.passGlobal s r).gauge = s.gauge ∧
    (State.passGlobal s r).tdm = s.tdm ∧
    (State.passGlobal s r).hif = s.hif ∧
    (State.passGlobal s r).way = s.way ∧
    (State.passGlobal s r).dray = s.dray ∧
    (State.passGlobal s r).brake = s.brake ∧
    (State.passGlobal s r).cap = s.cap ∧
    (State.passGlobal s r).maint = s.maint ∧
    (State.passGlobal s r).smp = s.smp ∧
    (State.passGlobal s r).freeCtr = s.freeCtr ∧
    (State.passGlobal s r).pending = s.pending := by
  first
  | (unfold State.passGlobal; simp; done)
  | (unfold State.passGlobal; (repeat' split) <;> simp <;> done)
  | (unfold State.passGlobal; dsimp only; (repeat' split) <;> simp <;> done)
  | (unfold State.passGlobal; simp; (repeat' split) <;> simp_all <;> done)

@[simp] theorem State.passBuckets_frame (s : State) (r : Record) :
    (State.passBuckets s r).sys = s.sys ∧
    (State.passBuckets s r).clk = s.clk ∧
    (State.passBuckets s r).cfg = s.cfg ∧
    (State.passBuckets s r).regs = s.regs ∧
    (State.passBuckets s r).live = s.live ∧
    (State.passBuckets s r).rails = s.rails ∧
    (State.passBuckets s r).phases = s.phases ∧
    (State.passBuckets s r).sws = s.sws ∧
    (State.passBuckets s r).seq = s.seq ∧
    (State.passBuckets s r).path = s.path ∧
    (State.passBuckets s r).gauge = s.gauge ∧
    (State.passBuckets s r).tdm = s.tdm ∧
    (State.passBuckets s r).hif = s.hif ∧
    (State.passBuckets s r).way = s.way ∧
    (State.passBuckets s r).dray = s.dray ∧
    (State.passBuckets s r).brake = s.brake ∧
    (State.passBuckets s r).cap = s.cap ∧
    (State.passBuckets s r).maint = s.maint ∧
    (State.passBuckets s r).smp = s.smp ∧
    (State.passBuckets s r).freeCtr = s.freeCtr ∧
    (State.passBuckets s r).pending = s.pending := by
  first
  | (unfold State.passBuckets; simp; done)
  | (unfold State.passBuckets; (repeat' split) <;> simp <;> done)
  | (unfold State.passBuckets; dsimp only; (repeat' split) <;> simp <;> done)
  | (unfold State.passBuckets; simp; (repeat' split) <;> simp_all <;> done)

@[simp] theorem State.produce_frame (s : State) (r : Record) :
    (State.produce s r).sys = s.sys ∧
    (State.produce s r).clk = s.clk ∧
    (State.produce s r).cfg = s.cfg ∧
    (State.produce s r).regs = s.regs ∧
    (State.produce s r).live = s.live ∧
    (State.produce s r).rails = s.rails ∧
    (State.produce s r).phases = s.phases ∧
    (State.produce s r).sws = s.sws ∧
    (State.produce s r).seq = s.seq ∧
    (State.produce s r).path = s.path ∧
    (State.produce s r).gauge = s.gauge ∧
    (State.produce s r).tdm = s.tdm ∧
    (State.produce s r).hif = s.hif ∧
    (State.produce s r).way = s.way ∧
    (State.produce s r).dray = s.dray ∧
    (State.produce s r).brake = s.brake ∧
    (State.produce s r).cap = s.cap ∧
    (State.produce s r).maint = s.maint ∧
    (State.produce s r).smp = s.smp ∧
    (State.produce s r).freeCtr = s.freeCtr ∧
    (State.produce s r).pending = s.pending := by
  first
  | (unfold State.produce; simp; done)
  | (unfold State.produce; (repeat' split) <;> simp <;> done)
  | (unfold State.produce; dsimp only; (repeat' split) <;> simp <;> done)
  | (unfold State.produce; simp; (repeat' split) <;> simp_all <;> done)

@[simp] theorem State.traceTrigger_frame (s : State) (kind : Nat) (code : Nat) (slots : List Nat) :
    (State.traceTrigger s kind code slots).sys = s.sys ∧
    (State.traceTrigger s kind code slots).clk = s.clk ∧
    (State.traceTrigger s kind code slots).cfg = s.cfg ∧
    (State.traceTrigger s kind code slots).regs = s.regs ∧
    (State.traceTrigger s kind code slots).live = s.live ∧
    (State.traceTrigger s kind code slots).rails = s.rails ∧
    (State.traceTrigger s kind code slots).phases = s.phases ∧
    (State.traceTrigger s kind code slots).sws = s.sws ∧
    (State.traceTrigger s kind code slots).seq = s.seq ∧
    (State.traceTrigger s kind code slots).path = s.path ∧
    (State.traceTrigger s kind code slots).gauge = s.gauge ∧
    (State.traceTrigger s kind code slots).tdm = s.tdm ∧
    (State.traceTrigger s kind code slots).hif = s.hif ∧
    (State.traceTrigger s kind code slots).way = s.way ∧
    (State.traceTrigger s kind code slots).dray = s.dray ∧
    (State.traceTrigger s kind code slots).brake = s.brake ∧
    (State.traceTrigger s kind code slots).cap = s.cap ∧
    (State.traceTrigger s kind code slots).maint = s.maint ∧
    (State.traceTrigger s kind code slots).smp = s.smp ∧
    (State.traceTrigger s kind code slots).freeCtr = s.freeCtr ∧
    (State.traceTrigger s kind code slots).pending = s.pending := by
  first
  | (unfold State.traceTrigger; simp; done)
  | (unfold State.traceTrigger; (repeat' split) <;> simp <;> done)
  | (unfold State.traceTrigger; dsimp only; (repeat' split) <;> simp <;> done)
  | (unfold State.traceTrigger; simp; (repeat' split) <;> simp_all <;> done)

@[simp] theorem State.occur_frame (s : State) (r : Record) :
    (State.occur s r).sys = s.sys ∧
    (State.occur s r).clk = s.clk ∧
    (State.occur s r).cfg = s.cfg ∧
    (State.occur s r).regs = s.regs ∧
    (State.occur s r).live = s.live ∧
    (State.occur s r).rails = s.rails ∧
    (State.occur s r).phases = s.phases ∧
    (State.occur s r).sws = s.sws ∧
    (State.occur s r).seq = s.seq ∧
    (State.occur s r).path = s.path ∧
    (State.occur s r).gauge = s.gauge ∧
    (State.occur s r).tdm = s.tdm ∧
    (State.occur s r).hif = s.hif ∧
    (State.occur s r).way = s.way ∧
    (State.occur s r).dray = s.dray ∧
    (State.occur s r).brake = s.brake ∧
    (State.occur s r).cap = s.cap ∧
    (State.occur s r).maint = s.maint ∧
    (State.occur s r).smp = s.smp ∧
    (State.occur s r).freeCtr = s.freeCtr ∧
    (State.occur s r).pending = s.pending := by
  first
  | (unfold State.occur; simp; done)
  | (unfold State.occur; (repeat' split) <;> simp <;> done)
  | (unfold State.occur; dsimp only; (repeat' split) <;> simp <;> done)
  | (unfold State.occur; simp; (repeat' split) <;> simp_all <;> done)

@[simp] theorem State.emit_frame (s : State) (code : Nat) (src : Nat) (ps : List Nat) :
    (State.emit s code src ps).sys = s.sys ∧
    (State.emit s code src ps).clk = s.clk ∧
    (State.emit s code src ps).cfg = s.cfg ∧
    (State.emit s code src ps).regs = s.regs ∧
    (State.emit s code src ps).live = s.live ∧
    (State.emit s code src ps).rails = s.rails ∧
    (State.emit s code src ps).phases = s.phases ∧
    (State.emit s code src ps).sws = s.sws ∧
    (State.emit s code src ps).seq = s.seq ∧
    (State.emit s code src ps).path = s.path ∧
    (State.emit s code src ps).gauge = s.gauge ∧
    (State.emit s code src ps).tdm = s.tdm ∧
    (State.emit s code src ps).hif = s.hif ∧
    (State.emit s code src ps).way = s.way ∧
    (State.emit s code src ps).dray = s.dray ∧
    (State.emit s code src ps).brake = s.brake ∧
    (State.emit s code src ps).cap = s.cap ∧
    (State.emit s code src ps).maint = s.maint ∧
    (State.emit s code src ps).smp = s.smp ∧
    (State.emit s code src ps).freeCtr = s.freeCtr ∧
    (State.emit s code src ps).pending = s.pending := by
  first
  | (unfold State.emit; simp; done)
  | (unfold State.emit; (repeat' split) <;> simp <;> done)
  | (unfold State.emit; dsimp only; (repeat' split) <;> simp <;> done)
  | (unfold State.emit; simp; (repeat' split) <;> simp_all <;> done)

@[simp] theorem State.emitHw_frame (s : State) (t : Nat) (code : Nat) (src : Nat) (ps : List Nat) :
    (State.emitHw s t code src ps).sys = s.sys ∧
    (State.emitHw s t code src ps).clk = s.clk ∧
    (State.emitHw s t code src ps).cfg = s.cfg ∧
    (State.emitHw s t code src ps).regs = s.regs ∧
    (State.emitHw s t code src ps).live = s.live ∧
    (State.emitHw s t code src ps).rails = s.rails ∧
    (State.emitHw s t code src ps).phases = s.phases ∧
    (State.emitHw s t code src ps).sws = s.sws ∧
    (State.emitHw s t code src ps).seq = s.seq ∧
    (State.emitHw s t code src ps).path = s.path ∧
    (State.emitHw s t code src ps).gauge = s.gauge ∧
    (State.emitHw s t code src ps).tdm = s.tdm ∧
    (State.emitHw s t code src ps).hif = s.hif ∧
    (State.emitHw s t code src ps).way = s.way ∧
    (State.emitHw s t code src ps).dray = s.dray ∧
    (State.emitHw s t code src ps).brake = s.brake ∧
    (State.emitHw s t code src ps).cap = s.cap ∧
    (State.emitHw s t code src ps).maint = s.maint ∧
    (State.emitHw s t code src ps).smp = s.smp ∧
    (State.emitHw s t code src ps).freeCtr = s.freeCtr ∧
    (State.emitHw s t code src ps).pending = s.pending := by
  first
  | (unfold State.emitHw; simp; done)
  | (unfold State.emitHw; (repeat' split) <;> simp <;> done)
  | (unfold State.emitHw; dsimp only; (repeat' split) <;> simp <;> done)
  | (unfold State.emitHw; simp; (repeat' split) <;> simp_all <;> done)

@[simp] theorem State.emitSum_frame (s : State) (t : Nat) (code : Nat) (src : Nat) (ps : List Nat) :
    (State.emitSum s t code src ps).sys = s.sys ∧
    (State.emitSum s t code src ps).clk = s.clk ∧
    (State.emitSum s t code src ps).cfg = s.cfg ∧
    (State.emitSum s t code src ps).regs = s.regs ∧
    (State.emitSum s t code src ps).live = s.live ∧
    (State.emitSum s t code src ps).rails = s.rails ∧
    (State.emitSum s t code src ps).phases = s.phases ∧
    (State.emitSum s t code src ps).sws = s.sws ∧
    (State.emitSum s t code src ps).seq = s.seq ∧
    (State.emitSum s t code src ps).path = s.path ∧
    (State.emitSum s t code src ps).gauge = s.gauge ∧
    (State.emitSum s t code src ps).tdm = s.tdm ∧
    (State.emitSum s t code src ps).hif = s.hif ∧
    (State.emitSum s t code src ps).way = s.way ∧
    (State.emitSum s t code src ps).dray = s.dray ∧
    (State.emitSum s t code src ps).brake = s.brake ∧
    (State.emitSum s t code src ps).cap = s.cap ∧
    (State.emitSum s t code src ps).maint = s.maint ∧
    (State.emitSum s t code src ps).smp = s.smp ∧
    (State.emitSum s t code src ps).freeCtr = s.freeCtr ∧
    (State.emitSum s t code src ps).pending = s.pending := by
  first
  | (unfold State.emitSum; simp; done)
  | (unfold State.emitSum; (repeat' split) <;> simp <;> done)
  | (unfold State.emitSum; dsimp only; (repeat' split) <;> simp <;> done)
  | (unfold State.emitSum; simp; (repeat' split) <;> simp_all <;> done)

@[simp] theorem State.emitBoot_frame (s : State) (code : Nat) (ps : List Nat) :
    (State.emitBoot s code ps).sys = s.sys ∧
    (State.emitBoot s code ps).clk = s.clk ∧
    (State.emitBoot s code ps).cfg = s.cfg ∧
    (State.emitBoot s code ps).regs = s.regs ∧
    (State.emitBoot s code ps).live = s.live ∧
    (State.emitBoot s code ps).rails = s.rails ∧
    (State.emitBoot s code ps).phases = s.phases ∧
    (State.emitBoot s code ps).sws = s.sws ∧
    (State.emitBoot s code ps).seq = s.seq ∧
    (State.emitBoot s code ps).path = s.path ∧
    (State.emitBoot s code ps).gauge = s.gauge ∧
    (State.emitBoot s code ps).tdm = s.tdm ∧
    (State.emitBoot s code ps).hif = s.hif ∧
    (State.emitBoot s code ps).way = s.way ∧
    (State.emitBoot s code ps).dray = s.dray ∧
    (State.emitBoot s code ps).brake = s.brake ∧
    (State.emitBoot s code ps).cap = s.cap ∧
    (State.emitBoot s code ps).maint = s.maint ∧
    (State.emitBoot s code ps).smp = s.smp ∧
    (State.emitBoot s code ps).freeCtr = s.freeCtr ∧
    (State.emitBoot s code ps).pending = s.pending := by
  first
  | (unfold State.emitBoot; simp; done)
  | (unfold State.emitBoot; (repeat' split) <;> simp <;> done)
  | (unfold State.emitBoot; dsimp only; (repeat' split) <;> simp <;> done)
  | (unfold State.emitBoot; simp; (repeat' split) <;> simp_all <;> done)

@[simp] theorem State.signal_frame (s : State) (vec : Nat) :
    (State.signal s vec).sys = s.sys ∧
    (State.signal s vec).clk = s.clk ∧
    (State.signal s vec).cfg = s.cfg ∧
    (State.signal s vec).regs = s.regs ∧
    (State.signal s vec).live = s.live ∧
    (State.signal s vec).rails = s.rails ∧
    (State.signal s vec).phases = s.phases ∧
    (State.signal s vec).sws = s.sws ∧
    (State.signal s vec).seq = s.seq ∧
    (State.signal s vec).path = s.path ∧
    (State.signal s vec).gauge = s.gauge ∧
    (State.signal s vec).tdm = s.tdm ∧
    (State.signal s vec).hif.rings.length = s.hif.rings.length ∧
    (State.signal s vec).hif.tags.length = s.hif.tags.length ∧
    (State.signal s vec).way = s.way ∧
    (State.signal s vec).dray = s.dray ∧
    (State.signal s vec).rcd = s.rcd ∧
    (State.signal s vec).brake = s.brake ∧
    (State.signal s vec).cap = s.cap ∧
    (State.signal s vec).maint = s.maint ∧
    (State.signal s vec).smp = s.smp ∧
    (State.signal s vec).freeCtr = s.freeCtr ∧
    (State.signal s vec).pending = s.pending := by
  first
  | (unfold State.signal; simp; done)
  | (unfold State.signal; (repeat' split) <;> simp <;> done)
  | (unfold State.signal; dsimp only; (repeat' split) <;> simp <;> done)
  | (unfold State.signal; simp; (repeat' split) <;> simp_all <;> done)

@[simp] theorem State.hifEvent_frame (s : State) (b : Nat) :
    (State.hifEvent s b).sys = s.sys ∧
    (State.hifEvent s b).clk = s.clk ∧
    (State.hifEvent s b).cfg = s.cfg ∧
    (State.hifEvent s b).regs = s.regs ∧
    (State.hifEvent s b).live = s.live ∧
    (State.hifEvent s b).rails = s.rails ∧
    (State.hifEvent s b).phases = s.phases ∧
    (State.hifEvent s b).sws = s.sws ∧
    (State.hifEvent s b).seq = s.seq ∧
    (State.hifEvent s b).path = s.path ∧
    (State.hifEvent s b).gauge = s.gauge ∧
    (State.hifEvent s b).tdm = s.tdm ∧
    (State.hifEvent s b).hif.rings.length = s.hif.rings.length ∧
    (State.hifEvent s b).hif.tags.length = s.hif.tags.length ∧
    (State.hifEvent s b).way = s.way ∧
    (State.hifEvent s b).dray = s.dray ∧
    (State.hifEvent s b).rcd = s.rcd ∧
    (State.hifEvent s b).brake = s.brake ∧
    (State.hifEvent s b).cap = s.cap ∧
    (State.hifEvent s b).maint = s.maint ∧
    (State.hifEvent s b).smp = s.smp ∧
    (State.hifEvent s b).freeCtr = s.freeCtr ∧
    (State.hifEvent s b).pending = s.pending := by
  first
  | (unfold State.hifEvent; simp; done)
  | (unfold State.hifEvent; (repeat' split) <;> simp <;> done)
  | (unfold State.hifEvent; dsimp only; (repeat' split) <;> simp <;> done)
  | (unfold State.hifEvent; simp; (repeat' split) <;> simp_all <;> done)

@[simp] theorem State.postMem_frame (s : State) (addr : Nat) (bytes : List Byte) :
    (State.postMem s addr bytes).sys = s.sys ∧
    (State.postMem s addr bytes).clk = s.clk ∧
    (State.postMem s addr bytes).cfg = s.cfg ∧
    (State.postMem s addr bytes).regs = s.regs ∧
    (State.postMem s addr bytes).live = s.live ∧
    (State.postMem s addr bytes).rails = s.rails ∧
    (State.postMem s addr bytes).phases = s.phases ∧
    (State.postMem s addr bytes).sws = s.sws ∧
    (State.postMem s addr bytes).seq = s.seq ∧
    (State.postMem s addr bytes).path = s.path ∧
    (State.postMem s addr bytes).gauge = s.gauge ∧
    (State.postMem s addr bytes).tdm = s.tdm ∧
    (State.postMem s addr bytes).hif.rings.length = s.hif.rings.length ∧
    (State.postMem s addr bytes).hif.tags.length = s.hif.tags.length ∧
    (State.postMem s addr bytes).way = s.way ∧
    (State.postMem s addr bytes).dray = s.dray ∧
    (State.postMem s addr bytes).rcd = s.rcd ∧
    (State.postMem s addr bytes).brake = s.brake ∧
    (State.postMem s addr bytes).cap = s.cap ∧
    (State.postMem s addr bytes).maint = s.maint ∧
    (State.postMem s addr bytes).smp = s.smp ∧
    (State.postMem s addr bytes).freeCtr = s.freeCtr ∧
    (State.postMem s addr bytes).pending = s.pending := by
  first
  | (unfold State.postMem; simp; done)
  | (unfold State.postMem; (repeat' split) <;> simp <;> done)
  | (unfold State.postMem; dsimp only; (repeat' split) <;> simp <;> done)
  | (unfold State.postMem; simp; (repeat' split) <;> simp_all <;> done)

@[simp] theorem State.completeOne_frame (s : State) (k : Nat) (status : Nat) (result : Nat) :
    (State.completeOne s k status result).sys = s.sys ∧
    (State.completeOne s k status result).clk = s.clk ∧
    (State.completeOne s k status result).cfg = s.cfg ∧
    (State.completeOne s k status result).regs = s.regs ∧
    (State.completeOne s k status result).live = s.live ∧
    (State.completeOne s k status result).rails = s.rails ∧
    (State.completeOne s k status result).phases = s.phases ∧
    (State.completeOne s k status result).sws = s.sws ∧
    (State.completeOne s k status result).seq = s.seq ∧
    (State.completeOne s k status result).path = s.path ∧
    (State.completeOne s k status result).gauge = s.gauge ∧
    (State.completeOne s k status result).tdm = s.tdm ∧
    (State.completeOne s k status result).hif.rings.length = s.hif.rings.length ∧
    (State.completeOne s k status result).hif.tags.length = s.hif.tags.length ∧
    (State.completeOne s k status result).way = s.way ∧
    (State.completeOne s k status result).dray = s.dray ∧
    (State.completeOne s k status result).rcd = s.rcd ∧
    (State.completeOne s k status result).brake = s.brake ∧
    (State.completeOne s k status result).cap = s.cap ∧
    (State.completeOne s k status result).maint = s.maint ∧
    (State.completeOne s k status result).smp = s.smp ∧
    (State.completeOne s k status result).freeCtr = s.freeCtr ∧
    (State.completeOne s k status result).pending = s.pending := by
  first
  | (unfold State.completeOne; simp; done)
  | (unfold State.completeOne; (repeat' split) <;> simp <;> done)
  | (unfold State.completeOne; dsimp only; (repeat' split) <;> simp <;> done)
  | (unfold State.completeOne; simp; (repeat' split) <;> simp_all <;> done)

@[simp] theorem State.complete_frame (s : State) (k : Nat) (status : Nat) (result : Nat) :
    (State.complete s k status result).sys = s.sys ∧
    (State.complete s k status result).clk = s.clk ∧
    (State.complete s k status result).cfg = s.cfg ∧
    (State.complete s k status result).regs = s.regs ∧
    (State.complete s k status result).live = s.live ∧
    (State.complete s k status result).rails = s.rails ∧
    (State.complete s k status result).phases = s.phases ∧
    (State.complete s k status result).sws = s.sws ∧
    (State.complete s k status result).seq = s.seq ∧
    (State.complete s k status result).path = s.path ∧
    (State.complete s k status result).gauge = s.gauge ∧
    (State.complete s k status result).tdm = s.tdm ∧
    (State.complete s k status result).hif.rings.length = s.hif.rings.length ∧
    (State.complete s k status result).hif.tags.length = s.hif.tags.length ∧
    (State.complete s k status result).way = s.way ∧
    (State.complete s k status result).dray = s.dray ∧
    (State.complete s k status result).rcd = s.rcd ∧
    (State.complete s k status result).brake = s.brake ∧
    (State.complete s k status result).cap = s.cap ∧
    (State.complete s k status result).maint = s.maint ∧
    (State.complete s k status result).smp = s.smp ∧
    (State.complete s k status result).freeCtr = s.freeCtr ∧
    (State.complete s k status result).pending = s.pending := by
  first
  | (unfold State.complete; simp; done)
  | (unfold State.complete; (repeat' split) <;> simp <;> done)
  | (unfold State.complete; dsimp only; (repeat' split) <;> simp <;> done)
  | (unfold State.complete; simp; (repeat' split) <;> simp_all <;> done)

@[simp] theorem State.completeAll_frame (s : State) (ks : List Nat) (status : Nat) (result : Nat) :
    (State.completeAll s ks status result).sys = s.sys ∧
    (State.completeAll s ks status result).clk = s.clk ∧
    (State.completeAll s ks status result).cfg = s.cfg ∧
    (State.completeAll s ks status result).regs = s.regs ∧
    (State.completeAll s ks status result).live = s.live ∧
    (State.completeAll s ks status result).rails = s.rails ∧
    (State.completeAll s ks status result).phases = s.phases ∧
    (State.completeAll s ks status result).sws = s.sws ∧
    (State.completeAll s ks status result).seq = s.seq ∧
    (State.completeAll s ks status result).path = s.path ∧
    (State.completeAll s ks status result).gauge = s.gauge ∧
    (State.completeAll s ks status result).tdm = s.tdm ∧
    (State.completeAll s ks status result).hif.rings.length = s.hif.rings.length ∧
    (State.completeAll s ks status result).hif.tags.length = s.hif.tags.length ∧
    (State.completeAll s ks status result).way = s.way ∧
    (State.completeAll s ks status result).dray = s.dray ∧
    (State.completeAll s ks status result).rcd = s.rcd ∧
    (State.completeAll s ks status result).brake = s.brake ∧
    (State.completeAll s ks status result).cap = s.cap ∧
    (State.completeAll s ks status result).maint = s.maint ∧
    (State.completeAll s ks status result).smp = s.smp ∧
    (State.completeAll s ks status result).freeCtr = s.freeCtr ∧
    (State.completeAll s ks status result).pending = s.pending := by
  first
  | (unfold State.completeAll; simp; done)
  | (unfold State.completeAll; (repeat' split) <;> simp <;> done)
  | (unfold State.completeAll; dsimp only; (repeat' split) <;> simp <;> done)
  | (unfold State.completeAll; simp; (repeat' split) <;> simp_all <;> done)

@[simp] theorem State.reject_frame (s : State) (k : Nat) (status : Nat) (result : Nat) :
    (State.reject s k status result).sys = s.sys ∧
    (State.reject s k status result).clk = s.clk ∧
    (State.reject s k status result).cfg = s.cfg ∧
    (State.reject s k status result).regs = s.regs ∧
    (State.reject s k status result).live = s.live ∧
    (State.reject s k status result).rails = s.rails ∧
    (State.reject s k status result).phases = s.phases ∧
    (State.reject s k status result).sws = s.sws ∧
    (State.reject s k status result).seq = s.seq ∧
    (State.reject s k status result).path = s.path ∧
    (State.reject s k status result).gauge = s.gauge ∧
    (State.reject s k status result).tdm = s.tdm ∧
    (State.reject s k status result).hif.rings.length = s.hif.rings.length ∧
    (State.reject s k status result).hif.tags.length = s.hif.tags.length ∧
    (State.reject s k status result).way = s.way ∧
    (State.reject s k status result).dray = s.dray ∧
    (State.reject s k status result).brake = s.brake ∧
    (State.reject s k status result).cap = s.cap ∧
    (State.reject s k status result).maint = s.maint ∧
    (State.reject s k status result).smp = s.smp ∧
    (State.reject s k status result).freeCtr = s.freeCtr ∧
    (State.reject s k status result).pending = s.pending := by
  first
  | (unfold State.reject; simp; done)
  | (unfold State.reject; (repeat' split) <;> simp <;> done)
  | (unfold State.reject; dsimp only; (repeat' split) <;> simp <;> done)
  | (unfold State.reject; simp; (repeat' split) <;> simp_all <;> done)

@[simp] theorem State.hold_frame (s : State) (k : Nat) :
    (State.hold s k).sys = s.sys ∧
    (State.hold s k).clk = s.clk ∧
    (State.hold s k).cfg = s.cfg ∧
    (State.hold s k).regs = s.regs ∧
    (State.hold s k).live = s.live ∧
    (State.hold s k).rails = s.rails ∧
    (State.hold s k).phases = s.phases ∧
    (State.hold s k).sws = s.sws ∧
    (State.hold s k).seq = s.seq ∧
    (State.hold s k).path = s.path ∧
    (State.hold s k).gauge = s.gauge ∧
    (State.hold s k).tdm = s.tdm ∧
    (State.hold s k).hif.rings.length = s.hif.rings.length ∧
    (State.hold s k).hif.tags.length = s.hif.tags.length ∧
    (State.hold s k).way = s.way ∧
    (State.hold s k).dray = s.dray ∧
    (State.hold s k).rcd = s.rcd ∧
    (State.hold s k).brake = s.brake ∧
    (State.hold s k).cap = s.cap ∧
    (State.hold s k).maint = s.maint ∧
    (State.hold s k).smp = s.smp ∧
    (State.hold s k).freeCtr = s.freeCtr ∧
    (State.hold s k).pending = s.pending := by
  first
  | (unfold State.hold; simp; done)
  | (unfold State.hold; (repeat' split) <;> simp <;> done)
  | (unfold State.hold; dsimp only; (repeat' split) <;> simp <;> done)
  | (unfold State.hold; simp; (repeat' split) <;> simp_all <;> done)

@[simp] theorem State.completeRepeat_frame (s : State) (k : Nat) (r : RunId) :
    (State.completeRepeat s k r).sys = s.sys ∧
    (State.completeRepeat s k r).clk = s.clk ∧
    (State.completeRepeat s k r).cfg = s.cfg ∧
    (State.completeRepeat s k r).regs = s.regs ∧
    (State.completeRepeat s k r).live = s.live ∧
    (State.completeRepeat s k r).rails = s.rails ∧
    (State.completeRepeat s k r).phases = s.phases ∧
    (State.completeRepeat s k r).sws = s.sws ∧
    (State.completeRepeat s k r).seq = s.seq ∧
    (State.completeRepeat s k r).path = s.path ∧
    (State.completeRepeat s k r).gauge = s.gauge ∧
    (State.completeRepeat s k r).tdm = s.tdm ∧
    (State.completeRepeat s k r).hif.rings.length = s.hif.rings.length ∧
    (State.completeRepeat s k r).hif.tags.length = s.hif.tags.length ∧
    (State.completeRepeat s k r).way = s.way ∧
    (State.completeRepeat s k r).dray = s.dray ∧
    (State.completeRepeat s k r).rcd = s.rcd ∧
    (State.completeRepeat s k r).brake = s.brake ∧
    (State.completeRepeat s k r).cap = s.cap ∧
    (State.completeRepeat s k r).maint = s.maint ∧
    (State.completeRepeat s k r).smp = s.smp ∧
    (State.completeRepeat s k r).freeCtr = s.freeCtr ∧
    (State.completeRepeat s k r).pending = s.pending := by
  first
  | (unfold State.completeRepeat; simp; done)
  | (unfold State.completeRepeat; (repeat' split) <;> simp <;> done)
  | (unfold State.completeRepeat; dsimp only; (repeat' split) <;> simp <;> done)
  | (unfold State.completeRepeat; simp; (repeat' split) <;> simp_all <;> done)

@[simp] theorem State.keepRun_frame (s : State) (op : Nat) (rid : Nat) (target : Nat) (k : Nat) :
    (State.keepRun s op rid target k).sys = s.sys ∧
    (State.keepRun s op rid target k).clk = s.clk ∧
    (State.keepRun s op rid target k).cfg = s.cfg ∧
    (State.keepRun s op rid target k).regs = s.regs ∧
    (State.keepRun s op rid target k).live = s.live ∧
    (State.keepRun s op rid target k).rails = s.rails ∧
    (State.keepRun s op rid target k).phases = s.phases ∧
    (State.keepRun s op rid target k).sws = s.sws ∧
    (State.keepRun s op rid target k).seq = s.seq ∧
    (State.keepRun s op rid target k).path = s.path ∧
    (State.keepRun s op rid target k).gauge = s.gauge ∧
    (State.keepRun s op rid target k).tdm = s.tdm ∧
    (State.keepRun s op rid target k).hif.rings.length = s.hif.rings.length ∧
    (State.keepRun s op rid target k).hif.tags.length = s.hif.tags.length ∧
    (State.keepRun s op rid target k).way = s.way ∧
    (State.keepRun s op rid target k).dray = s.dray ∧
    (State.keepRun s op rid target k).rcd = s.rcd ∧
    (State.keepRun s op rid target k).brake = s.brake ∧
    (State.keepRun s op rid target k).cap = s.cap ∧
    (State.keepRun s op rid target k).maint = s.maint ∧
    (State.keepRun s op rid target k).smp = s.smp ∧
    (State.keepRun s op rid target k).freeCtr = s.freeCtr ∧
    (State.keepRun s op rid target k).pending = s.pending := by
  first
  | (unfold State.keepRun; simp; done)
  | (unfold State.keepRun; (repeat' split) <;> simp <;> done)
  | (unfold State.keepRun; dsimp only; (repeat' split) <;> simp <;> done)
  | (unfold State.keepRun; simp; (repeat' split) <;> simp_all <;> done)

@[simp] theorem applyRest_sys (op k : Nat) (f : RawDesc → State → State) (h : ∀ d s, (f d s).sys = s.sys) (s : State) :
    (s.applyRest op k f).sys = s.sys := by
  unfold State.applyRest; dsimp only; (repeat' split) <;> simp [h]
@[simp] theorem applyDesc_sys (op k : Nat) (fn : RawDesc → Option Nat) (f : RawDesc → State → State) (h : ∀ d s, (f d s).sys = s.sys) (s : State) :
    (s.applyDesc op k fn f).sys = s.sys := by
  unfold State.applyDesc; dsimp only; (repeat' split) <;> (try simp [h]) <;> (repeat' split) <;> simp [h]
@[simp] theorem applyRest_clk (op k : Nat) (f : RawDesc → State → State) (h : ∀ d s, (f d s).clk = s.clk) (s : State) :
    (s.applyRest op k f).clk = s.clk := by
  unfold State.applyRest; dsimp only; (repeat' split) <;> simp [h]
@[simp] theorem applyDesc_clk (op k : Nat) (fn : RawDesc → Option Nat) (f : RawDesc → State → State) (h : ∀ d s, (f d s).clk = s.clk) (s : State) :
    (s.applyDesc op k fn f).clk = s.clk := by
  unfold State.applyDesc; dsimp only; (repeat' split) <;> (try simp [h]) <;> (repeat' split) <;> simp [h]
@[simp] theorem applyRest_cfg (op k : Nat) (f : RawDesc → State → State) (h : ∀ d s, (f d s).cfg = s.cfg) (s : State) :
    (s.applyRest op k f).cfg = s.cfg := by
  unfold State.applyRest; dsimp only; (repeat' split) <;> simp [h]
@[simp] theorem applyDesc_cfg (op k : Nat) (fn : RawDesc → Option Nat) (f : RawDesc → State → State) (h : ∀ d s, (f d s).cfg = s.cfg) (s : State) :
    (s.applyDesc op k fn f).cfg = s.cfg := by
  unfold State.applyDesc; dsimp only; (repeat' split) <;> (try simp [h]) <;> (repeat' split) <;> simp [h]
@[simp] theorem applyRest_regs (op k : Nat) (f : RawDesc → State → State) (h : ∀ d s, (f d s).regs = s.regs) (s : State) :
    (s.applyRest op k f).regs = s.regs := by
  unfold State.applyRest; dsimp only; (repeat' split) <;> simp [h]
@[simp] theorem applyDesc_regs (op k : Nat) (fn : RawDesc → Option Nat) (f : RawDesc → State → State) (h : ∀ d s, (f d s).regs = s.regs) (s : State) :
    (s.applyDesc op k fn f).regs = s.regs := by
  unfold State.applyDesc; dsimp only; (repeat' split) <;> (try simp [h]) <;> (repeat' split) <;> simp [h]
@[simp] theorem applyRest_live (op k : Nat) (f : RawDesc → State → State) (h : ∀ d s, (f d s).live = s.live) (s : State) :
    (s.applyRest op k f).live = s.live := by
  unfold State.applyRest; dsimp only; (repeat' split) <;> simp [h]
@[simp] theorem applyDesc_live (op k : Nat) (fn : RawDesc → Option Nat) (f : RawDesc → State → State) (h : ∀ d s, (f d s).live = s.live) (s : State) :
    (s.applyDesc op k fn f).live = s.live := by
  unfold State.applyDesc; dsimp only; (repeat' split) <;> (try simp [h]) <;> (repeat' split) <;> simp [h]
@[simp] theorem applyRest_rails (op k : Nat) (f : RawDesc → State → State) (h : ∀ d s, (f d s).rails = s.rails) (s : State) :
    (s.applyRest op k f).rails = s.rails := by
  unfold State.applyRest; dsimp only; (repeat' split) <;> simp [h]
@[simp] theorem applyDesc_rails (op k : Nat) (fn : RawDesc → Option Nat) (f : RawDesc → State → State) (h : ∀ d s, (f d s).rails = s.rails) (s : State) :
    (s.applyDesc op k fn f).rails = s.rails := by
  unfold State.applyDesc; dsimp only; (repeat' split) <;> (try simp [h]) <;> (repeat' split) <;> simp [h]
@[simp] theorem applyRest_phases (op k : Nat) (f : RawDesc → State → State) (h : ∀ d s, (f d s).phases = s.phases) (s : State) :
    (s.applyRest op k f).phases = s.phases := by
  unfold State.applyRest; dsimp only; (repeat' split) <;> simp [h]
@[simp] theorem applyDesc_phases (op k : Nat) (fn : RawDesc → Option Nat) (f : RawDesc → State → State) (h : ∀ d s, (f d s).phases = s.phases) (s : State) :
    (s.applyDesc op k fn f).phases = s.phases := by
  unfold State.applyDesc; dsimp only; (repeat' split) <;> (try simp [h]) <;> (repeat' split) <;> simp [h]
@[simp] theorem applyRest_sws (op k : Nat) (f : RawDesc → State → State) (h : ∀ d s, (f d s).sws = s.sws) (s : State) :
    (s.applyRest op k f).sws = s.sws := by
  unfold State.applyRest; dsimp only; (repeat' split) <;> simp [h]
@[simp] theorem applyDesc_sws (op k : Nat) (fn : RawDesc → Option Nat) (f : RawDesc → State → State) (h : ∀ d s, (f d s).sws = s.sws) (s : State) :
    (s.applyDesc op k fn f).sws = s.sws := by
  unfold State.applyDesc; dsimp only; (repeat' split) <;> (try simp [h]) <;> (repeat' split) <;> simp [h]
@[simp] theorem applyRest_seq (op k : Nat) (f : RawDesc → State → State) (h : ∀ d s, (f d s).seq = s.seq) (s : State) :
    (s.applyRest op k f).seq = s.seq := by
  unfold State.applyRest; dsimp only; (repeat' split) <;> simp [h]
@[simp] theorem applyDesc_seq (op k : Nat) (fn : RawDesc → Option Nat) (f : RawDesc → State → State) (h : ∀ d s, (f d s).seq = s.seq) (s : State) :
    (s.applyDesc op k fn f).seq = s.seq := by
  unfold State.applyDesc; dsimp only; (repeat' split) <;> (try simp [h]) <;> (repeat' split) <;> simp [h]
@[simp] theorem applyRest_path (op k : Nat) (f : RawDesc → State → State) (h : ∀ d s, (f d s).path = s.path) (s : State) :
    (s.applyRest op k f).path = s.path := by
  unfold State.applyRest; dsimp only; (repeat' split) <;> simp [h]
@[simp] theorem applyDesc_path (op k : Nat) (fn : RawDesc → Option Nat) (f : RawDesc → State → State) (h : ∀ d s, (f d s).path = s.path) (s : State) :
    (s.applyDesc op k fn f).path = s.path := by
  unfold State.applyDesc; dsimp only; (repeat' split) <;> (try simp [h]) <;> (repeat' split) <;> simp [h]
@[simp] theorem applyRest_gauge (op k : Nat) (f : RawDesc → State → State) (h : ∀ d s, (f d s).gauge = s.gauge) (s : State) :
    (s.applyRest op k f).gauge = s.gauge := by
  unfold State.applyRest; dsimp only; (repeat' split) <;> simp [h]
@[simp] theorem applyDesc_gauge (op k : Nat) (fn : RawDesc → Option Nat) (f : RawDesc → State → State) (h : ∀ d s, (f d s).gauge = s.gauge) (s : State) :
    (s.applyDesc op k fn f).gauge = s.gauge := by
  unfold State.applyDesc; dsimp only; (repeat' split) <;> (try simp [h]) <;> (repeat' split) <;> simp [h]
@[simp] theorem applyRest_tdm (op k : Nat) (f : RawDesc → State → State) (h : ∀ d s, (f d s).tdm = s.tdm) (s : State) :
    (s.applyRest op k f).tdm = s.tdm := by
  unfold State.applyRest; dsimp only; (repeat' split) <;> simp [h]
@[simp] theorem applyDesc_tdm (op k : Nat) (fn : RawDesc → Option Nat) (f : RawDesc → State → State) (h : ∀ d s, (f d s).tdm = s.tdm) (s : State) :
    (s.applyDesc op k fn f).tdm = s.tdm := by
  unfold State.applyDesc; dsimp only; (repeat' split) <;> (try simp [h]) <;> (repeat' split) <;> simp [h]
@[simp] theorem applyRest_way (op k : Nat) (f : RawDesc → State → State) (h : ∀ d s, (f d s).way = s.way) (s : State) :
    (s.applyRest op k f).way = s.way := by
  unfold State.applyRest; dsimp only; (repeat' split) <;> simp [h]
@[simp] theorem applyDesc_way (op k : Nat) (fn : RawDesc → Option Nat) (f : RawDesc → State → State) (h : ∀ d s, (f d s).way = s.way) (s : State) :
    (s.applyDesc op k fn f).way = s.way := by
  unfold State.applyDesc; dsimp only; (repeat' split) <;> (try simp [h]) <;> (repeat' split) <;> simp [h]
@[simp] theorem applyRest_dray (op k : Nat) (f : RawDesc → State → State) (h : ∀ d s, (f d s).dray = s.dray) (s : State) :
    (s.applyRest op k f).dray = s.dray := by
  unfold State.applyRest; dsimp only; (repeat' split) <;> simp [h]
@[simp] theorem applyDesc_dray (op k : Nat) (fn : RawDesc → Option Nat) (f : RawDesc → State → State) (h : ∀ d s, (f d s).dray = s.dray) (s : State) :
    (s.applyDesc op k fn f).dray = s.dray := by
  unfold State.applyDesc; dsimp only; (repeat' split) <;> (try simp [h]) <;> (repeat' split) <;> simp [h]
@[simp] theorem applyRest_brake (op k : Nat) (f : RawDesc → State → State) (h : ∀ d s, (f d s).brake = s.brake) (s : State) :
    (s.applyRest op k f).brake = s.brake := by
  unfold State.applyRest; dsimp only; (repeat' split) <;> simp [h]
@[simp] theorem applyDesc_brake (op k : Nat) (fn : RawDesc → Option Nat) (f : RawDesc → State → State) (h : ∀ d s, (f d s).brake = s.brake) (s : State) :
    (s.applyDesc op k fn f).brake = s.brake := by
  unfold State.applyDesc; dsimp only; (repeat' split) <;> (try simp [h]) <;> (repeat' split) <;> simp [h]
@[simp] theorem applyRest_cap (op k : Nat) (f : RawDesc → State → State) (h : ∀ d s, (f d s).cap = s.cap) (s : State) :
    (s.applyRest op k f).cap = s.cap := by
  unfold State.applyRest; dsimp only; (repeat' split) <;> simp [h]
@[simp] theorem applyDesc_cap (op k : Nat) (fn : RawDesc → Option Nat) (f : RawDesc → State → State) (h : ∀ d s, (f d s).cap = s.cap) (s : State) :
    (s.applyDesc op k fn f).cap = s.cap := by
  unfold State.applyDesc; dsimp only; (repeat' split) <;> (try simp [h]) <;> (repeat' split) <;> simp [h]
@[simp] theorem applyRest_maint (op k : Nat) (f : RawDesc → State → State) (h : ∀ d s, (f d s).maint = s.maint) (s : State) :
    (s.applyRest op k f).maint = s.maint := by
  unfold State.applyRest; dsimp only; (repeat' split) <;> simp [h]
@[simp] theorem applyDesc_maint (op k : Nat) (fn : RawDesc → Option Nat) (f : RawDesc → State → State) (h : ∀ d s, (f d s).maint = s.maint) (s : State) :
    (s.applyDesc op k fn f).maint = s.maint := by
  unfold State.applyDesc; dsimp only; (repeat' split) <;> (try simp [h]) <;> (repeat' split) <;> simp [h]
@[simp] theorem applyRest_smp (op k : Nat) (f : RawDesc → State → State) (h : ∀ d s, (f d s).smp = s.smp) (s : State) :
    (s.applyRest op k f).smp = s.smp := by
  unfold State.applyRest; dsimp only; (repeat' split) <;> simp [h]
@[simp] theorem applyDesc_smp (op k : Nat) (fn : RawDesc → Option Nat) (f : RawDesc → State → State) (h : ∀ d s, (f d s).smp = s.smp) (s : State) :
    (s.applyDesc op k fn f).smp = s.smp := by
  unfold State.applyDesc; dsimp only; (repeat' split) <;> (try simp [h]) <;> (repeat' split) <;> simp [h]
@[simp] theorem applyRest_freeCtr (op k : Nat) (f : RawDesc → State → State) (h : ∀ d s, (f d s).freeCtr = s.freeCtr) (s : State) :
    (s.applyRest op k f).freeCtr = s.freeCtr := by
  unfold State.applyRest; dsimp only; (repeat' split) <;> simp [h]
@[simp] theorem applyDesc_freeCtr (op k : Nat) (fn : RawDesc → Option Nat) (f : RawDesc → State → State) (h : ∀ d s, (f d s).freeCtr = s.freeCtr) (s : State) :
    (s.applyDesc op k fn f).freeCtr = s.freeCtr := by
  unfold State.applyDesc; dsimp only; (repeat' split) <;> (try simp [h]) <;> (repeat' split) <;> simp [h]
@[simp] theorem applyRest_pending (op k : Nat) (f : RawDesc → State → State) (h : ∀ d s, (f d s).pending = s.pending) (s : State) :
    (s.applyRest op k f).pending = s.pending := by
  unfold State.applyRest; dsimp only; (repeat' split) <;> simp [h]
@[simp] theorem applyDesc_pending (op k : Nat) (fn : RawDesc → Option Nat) (f : RawDesc → State → State) (h : ∀ d s, (f d s).pending = s.pending) (s : State) :
    (s.applyDesc op k fn f).pending = s.pending := by
  unfold State.applyDesc; dsimp only; (repeat' split) <;> (try simp [h]) <;> (repeat' split) <;> simp [h]
@[simp] theorem applyRest_rails_length (op k : Nat) (f : RawDesc → State → State) (h : ∀ d s, (f d s).rails.length = s.rails.length) (s : State) :
    (s.applyRest op k f).rails.length = s.rails.length := by
  unfold State.applyRest; dsimp only; (repeat' split) <;> simp [h]
@[simp] theorem applyDesc_rails_length (op k : Nat) (fn : RawDesc → Option Nat) (f : RawDesc → State → State) (h : ∀ d s, (f d s).rails.length = s.rails.length) (s : State) :
    (s.applyDesc op k fn f).rails.length = s.rails.length := by
  unfold State.applyDesc; dsimp only; (repeat' split) <;> (try simp [h]) <;> (repeat' split) <;> simp [h]
@[simp] theorem applyRest_phases_length (op k : Nat) (f : RawDesc → State → State) (h : ∀ d s, (f d s).phases.length = s.phases.length) (s : State) :
    (s.applyRest op k f).phases.length = s.phases.length := by
  unfold State.applyRest; dsimp only; (repeat' split) <;> simp [h]
@[simp] theorem applyDesc_phases_length (op k : Nat) (fn : RawDesc → Option Nat) (f : RawDesc → State → State) (h : ∀ d s, (f d s).phases.length = s.phases.length) (s : State) :
    (s.applyDesc op k fn f).phases.length = s.phases.length := by
  unfold State.applyDesc; dsimp only; (repeat' split) <;> (try simp [h]) <;> (repeat' split) <;> simp [h]
@[simp] theorem applyRest_sws_length (op k : Nat) (f : RawDesc → State → State) (h : ∀ d s, (f d s).sws.length = s.sws.length) (s : State) :
    (s.applyRest op k f).sws.length = s.sws.length := by
  unfold State.applyRest; dsimp only; (repeat' split) <;> simp [h]
@[simp] theorem applyDesc_sws_length (op k : Nat) (fn : RawDesc → Option Nat) (f : RawDesc → State → State) (h : ∀ d s, (f d s).sws.length = s.sws.length) (s : State) :
    (s.applyDesc op k fn f).sws.length = s.sws.length := by
  unfold State.applyDesc; dsimp only; (repeat' split) <;> (try simp [h]) <;> (repeat' split) <;> simp [h]
@[simp] theorem applyRest_hif_rings_length (op k : Nat) (f : RawDesc → State → State) (h : ∀ d s, (f d s).hif.rings.length = s.hif.rings.length) (s : State) :
    (s.applyRest op k f).hif.rings.length = s.hif.rings.length := by
  unfold State.applyRest; dsimp only; (repeat' split) <;> simp [h]
@[simp] theorem applyDesc_hif_rings_length (op k : Nat) (fn : RawDesc → Option Nat) (f : RawDesc → State → State) (h : ∀ d s, (f d s).hif.rings.length = s.hif.rings.length) (s : State) :
    (s.applyDesc op k fn f).hif.rings.length = s.hif.rings.length := by
  unfold State.applyDesc; dsimp only; (repeat' split) <;> (try simp [h]) <;> (repeat' split) <;> simp [h]
@[simp] theorem applyRest_hif_tags_length (op k : Nat) (f : RawDesc → State → State) (h : ∀ d s, (f d s).hif.tags.length = s.hif.tags.length) (s : State) :
    (s.applyRest op k f).hif.tags.length = s.hif.tags.length := by
  unfold State.applyRest; dsimp only; (repeat' split) <;> simp [h]
@[simp] theorem applyDesc_hif_tags_length (op k : Nat) (fn : RawDesc → Option Nat) (f : RawDesc → State → State) (h : ∀ d s, (f d s).hif.tags.length = s.hif.tags.length) (s : State) :
    (s.applyDesc op k fn f).hif.tags.length = s.hif.tags.length := by
  unfold State.applyDesc; dsimp only; (repeat' split) <;> (try simp [h]) <;> (repeat' split) <;> simp [h]
@[simp] theorem applyRest_sys_variant (op k : Nat) (f : RawDesc → State → State) (h : ∀ d s, (f d s).sys.variant = s.sys.variant) (s : State) :
    (s.applyRest op k f).sys.variant = s.sys.variant := by
  unfold State.applyRest; dsimp only; (repeat' split) <;> simp [h]
@[simp] theorem applyDesc_sys_variant (op k : Nat) (fn : RawDesc → Option Nat) (f : RawDesc → State → State) (h : ∀ d s, (f d s).sys.variant = s.sys.variant) (s : State) :
    (s.applyDesc op k fn f).sys.variant = s.sys.variant := by
  unfold State.applyDesc; dsimp only; (repeat' split) <;> (try simp [h]) <;> (repeat' split) <;> simp [h]
end Sys2Proof.Machine
end

