-- ==== Sys2Proof/Laws/Served.lean ====
section
/-! SUPPORT. What a completion and a served descriptor do, said once: the lemmas behind the claims of the descriptors. -/

namespace Sys2Proof.Machine

open Sys2Proof.Claims

theorem each_phase_ne (f : State → Nat → State) (j : Nat) (h : ∀ s m, m ≠ j → (f s m).phase j = s.phase j) (l : List Nat)
    (hj : j ∉ l) (s : State) : (s.each l f).phase j = s.phase j := by
  unfold State.each
  induction l generalizing s with
  | nil => rfl
  | cons x xs ih => simp at hj; simp [ih hj.2, h s x (Ne.symm hj.1)]
theorem each_rail_ne (f : State → Nat → State) (j : Nat) (h : ∀ s m, m ≠ j → (f s m).rail j = s.rail j) (l : List Nat)
    (hj : j ∉ l) (s : State) : (s.each l f).rail j = s.rail j := by
  unfold State.each
  induction l generalizing s with
  | nil => rfl
  | cons x xs ih => simp at hj; simp [ih hj.2, h s x (Ne.symm hj.1)]
/-- an invariant of a fold -/
theorem each_inv (f : State → Nat → State) (P : State → Prop) (h : ∀ s m, P s → P (f s m)) (l : List Nat) (s : State)
    (hs : P s) : P (s.each l f) := by
  unfold State.each
  induction l generalizing s with
  | nil => exact hs
  | cons x xs ih => exact ih _ (h s x hs)
/-- what the visit of `a` establishes and no visit destroys holds at the end -/
theorem each_est (f : State → Nat → State) (P I : State → Prop) (a : Nat) (hI : ∀ s m, I s → I (f s m))
    (h : ∀ s, I s → P (f s a)) (hk : ∀ s m, P s → P (f s m)) (l : List Nat) (ha : a ∈ l) (s : State) (hs : I s) :
    P (s.each l f) := by
  unfold State.each
  induction l generalizing s with
  | nil => simp at ha
  | cons x xs ih =>
    simp only [List.foldl_cons]
    by_cases hx : a = x
    · subst hx; exact each_inv f P hk xs _ (h s hs)
    · exact ih (by simpa [hx] using ha) _ (hI s x hs)
theorem phase_modPhase (s : State) (n j : Nat) (f : Phase → Phase) :
    (s.modPhase n f).phase j = if j = n ∧ n < s.phases.length then f (s.phase n) else s.phase j := by
  by_cases h : j = n
  · subst h
    by_cases hl : j < s.phases.length
    · simp [hl]
    · simp only [hl, and_false, if_false]
      simp [State.phase, State.modPhase, List.getD, List.getElem?_modify, List.getElem?_eq_none (Nat.le_of_not_lt hl)]
  · simp [h]
theorem rail_modRail (s : State) (n j : Nat) (f : Rail → Rail) :
    (s.modRail n f).rail j = if j = n ∧ n < s.rails.length then f (s.rail n) else s.rail j := by
  by_cases h : j = n
  · subst h
    by_cases hl : j < s.rails.length
    · simp [hl]
    · simp only [hl, and_false, if_false]
      simp [State.rail, State.modRail, List.getD, List.getElem?_modify, List.getElem?_eq_none (Nat.le_of_not_lt hl)]
  · simp [h]
theorem sw_modSw (s : State) (n j : Nat) (f : Switch → Switch) :
    (s.modSw n f).sw j = if j = n ∧ n < s.sws.length then f (s.sw n) else s.sw j := by
  by_cases h : j = n
  · subst h
    by_cases hl : j < s.sws.length
    · simp [hl]
    · simp only [hl, and_false, if_false]
      simp [State.sw, State.modSw, List.getD, List.getElem?_modify, List.getElem?_eq_none (Nat.le_of_not_lt hl)]
  · simp [h]
theorem tag_modTag (s : State) (n j : Nat) (f : Tag → Tag) :
    (s.modTag n f).tag j = if j = n ∧ n < s.hif.tags.length then f (s.tag n) else s.tag j := by
  by_cases h : j = n
  · subst h
    by_cases hl : j < s.hif.tags.length
    · simp [hl]
    · simp only [hl, and_false, if_false]
      simp [State.tag, State.modTag, List.getD, List.getElem?_modify, List.getElem?_eq_none (Nat.le_of_not_lt hl)]
  · simp [h]

/-! completions -/
theorem insCpl_mem (c : Cpl) (l : List Cpl) : c ∈ insCpl c l ∧ ∀ d ∈ l, d ∈ insCpl c l := by
  induction l with
  | nil => simp [insCpl]
  | cons x xs ih =>
    simp only [insCpl]
    split <;> simp_all
theorem completeOne_only (s : State) (k st r : Nat) : OnlyEnds s (s.completeOne k st r) := by
  unfold State.completeOne OnlyEnds
  dsimp only
  split
  · split <;> rfl
  · rfl
end Sys2Proof.Machine

namespace Sys2Proof.Claims

open Sys2Proof.Machine

theorem OnlyEnds.refl (s : State) : OnlyEnds s s := rfl
theorem OnlyEnds.trans {a b c : State} (h : OnlyEnds a b) (k : OnlyEnds b c) : OnlyEnds a c := by
  unfold OnlyEnds at *
  rw [k, h]
theorem OnlyEnds.of_hif {a b : State} (h : b.hif = a.hif) : OnlyEnds a b := by
  unfold OnlyEnds; rw [h]
theorem OnlyEnds.mk {s t : State} (h : t.hif = { s.hif with
    tags := t.hif.tags, decided := t.hif.decided, decLog := t.hif.decLog, discarded := t.hif.discarded
    runIds := t.hif.runIds, repeats := t.hif.repeats }) : OnlyEnds s t := h
end Sys2Proof.Claims

namespace Sys2Proof.Machine

open Sys2Proof.Claims

theorem complete_only (s : State) (k st r : Nat) : OnlyEnds s (s.complete k st r) := by
  have hf : ∀ (l : List Nat) (u : State), OnlyEnds u (u.each l fun s r' => s.completeOne r' st r) := by
    intro l
    unfold State.each
    induction l with
    | nil => intro u; exact OnlyEnds.refl _
    | cons x xs ih => intro u; exact (completeOne_only u x st r).trans (ih _)
  unfold State.complete
  extract_lets s1 src s2 reps s3
  have h1 : OnlyEnds s s1 := completeOne_only s k st r
  have h2 : OnlyEnds s1 s2 := rfl
  have h3 : OnlyEnds s2 s3 := hf reps s2
  have h4 : OnlyEnds s3 { s3 with hif.repeats := s3.hif.repeats.filter (·.1 ≠ k) } := rfl
  exact h1.trans (h2.trans (h3.trans h4))
theorem completeAll_only (s : State) (l : List Nat) (st r : Nat) : OnlyEnds s (s.completeAll l st r) := by
  unfold State.completeAll State.each
  induction l generalizing s with
  | nil => exact OnlyEnds.refl _
  | cons x xs ih => exact (complete_only s x st r).trans (ih _)
theorem hold_only (s : State) (k : Nat) : OnlyEnds s (s.hold k) := rfl
/-- a held or applied slot ends -/
theorem completeOne_tag_mono (s : State) (k j st r : Nat) (h : (s.tag j).st = .decided) :
    ((s.completeOne k st r).tag j).st = .decided := by
  unfold State.completeOne; dsimp only
  split
  · rename_i hk
    have hne : j ≠ k := by rintro rfl; simp [h] at hk
    split <;> simp [hne, State.tag, State.modTag, List.getD, List.getElem?_modify, Ne.symm hne] <;> simpa [State.tag, List.getD] using h
  · exact h
theorem completeOne_decided_mono (s : State) (k st r : Nat) (c : Cpl) (h : c ∈ s.hif.decided) :
    c ∈ (s.completeOne k st r).hif.decided := by
  unfold State.completeOne; dsimp only
  split
  · split
    · exact h
    · exact (insCpl_mem _ _).2 c h
  · exact h
end Sys2Proof.Machine

namespace Sys2Proof.Claims

open Sys2Proof.Machine

theorem Ends.completeOne {s : State} {k a b : Nat} (h : Ends s k a b) (j st r : Nat) : Ends (s.completeOne j st r) k a b :=
  ⟨completeOne_tag_mono _ _ _ _ _ h.1, by
    obtain ⟨c, hc, h2⟩ := h.2; exact ⟨c, completeOne_decided_mono _ _ _ _ _ hc, h2⟩⟩
end Sys2Proof.Claims

namespace Sys2Proof.Machine

open Sys2Proof.Claims

theorem completeOne_ends (s : State) (k st r : Nat) (hk : k < s.hif.tags.length)
    (h : (s.tag k).st = .held ∨ (s.tag k).st = .applied) (hd : (s.tag k).discard = false) :
    Ends (s.completeOne k st r) k st r := by
  unfold State.completeOne; dsimp only
  rw [if_pos h, if_neg (by simp [hd])]
  refine ⟨?_, _, (insCpl_mem _ _).1, rfl, rfl, rfl⟩
  simp [State.tag, State.modTag, List.getD, hk]
end Sys2Proof.Machine

namespace Sys2Proof.Claims

open Sys2Proof.Machine

theorem Ends.congr {s t : State} {k a b : Nat} (h : Ends s k a b) (ht : t.hif.tags = s.hif.tags) (hd : t.hif.decided = s.hif.decided) :
    Ends t k a b := by
  simp only [Ends, State.tag, ht, hd] at *; exact h
end Sys2Proof.Claims

namespace Sys2Proof.Machine

open Sys2Proof.Claims

theorem complete_ends (s : State) (k st r : Nat) (hk : k < s.hif.tags.length)
    (h : (s.tag k).st = .held ∨ (s.tag k).st = .applied) (hd : (s.tag k).discard = false) :
    Ends (s.complete k st r) k st r := by
  unfold State.complete
  extract_lets s1 src s2 reps s3
  have h1 : Ends s1 k st r := completeOne_ends s k st r hk h hd
  have h2 : Ends s2 k st r := h1.congr rfl rfl
  have h3 : Ends s3 k st r := each_inv (fun s r' => s.completeOne r' st r) (fun t => Ends t k st r) (fun s m hs => hs.completeOne m st r) reps s2 h2
  exact h3.congr rfl rfl
end Sys2Proof.Machine

namespace Sys2Proof.Claims

open Sys2Proof.Machine

theorem Ends.complete {s : State} {k a b : Nat} (h : Ends s k a b) (j st r : Nat) : Ends (s.complete j st r) k a b := by
  unfold State.complete
  extract_lets s1 src s2 reps s3
  have h1 : Ends s1 k a b := h.completeOne j st r
  have h2 : Ends s2 k a b := h1.congr rfl rfl
  have h3 : Ends s3 k a b := each_inv (fun s r' => s.completeOne r' st r) (fun t => Ends t k a b) (fun s m hs => hs.completeOne m st r) reps s2 h2
  exact h3.congr rfl rfl
end Sys2Proof.Claims

namespace Sys2Proof.Machine

open Sys2Proof.Claims

/-- the served descriptor's operation runs -/
theorem applyDesc_served (s : State) (k op : Nat) (fn : RawDesc → Option Nat) (f : RawDesc → State → State)
    (h : Served s k op (fn (s.tag k).desc))
    (hs : ∀ a n w, hostSpan op (s.tag k).desc = some (a, n, w) → s.inWindow w a n = true) :
    s.applyDesc op k fn f = f (s.tag k).desc s := by
  obtain ⟨h1, h2, h3, h4, h5, h6, h7, h8, h9, h10, h11, h12⟩ := h
  have hr : s.applyRest op k f = f (s.tag k).desc s := by
    unfold State.applyRest
    have : ((s.brake.inFloor || s.brake.floorPend) && !floorExempt op) = false := by
      rcases h12 with h12 | h12
      · simp [h12]
      · simp [h12]
    simp only [this]
    cases hh : hostSpan op (s.tag k).desc with
    | none => simp
    | some p => obtain ⟨a, n, w⟩ := p; simp [hs a n w hh]
  unfold State.applyDesc
  rw [← h4] at *
  simp only [h2, h5, h6, h7, h8, h9, h10, and_self, if_true, true_and, Bool.false_eq_true, false_and, if_false, ne_eq, not_true_eq_false]
  cases hf : fn (s.tag k).desc with
  | none => simpa using hr
  | some b =>
    rw [hf] at h11
    simp only [Option.all_some] at h11
    simpa [h11] using hr
theorem Served.tag {s : State} {k op : Nat} {fn : Option Nat} (h : Served s k op fn) :
    k < s.hif.tags.length ∧ (s.tag k).st = .held ∧ (s.tag k).discard = false := ⟨h.1, h.2.1, h.2.2.1⟩
theorem served_ends {s : State} {k op : Nat} {fn : Option Nat} (h : Served s k op fn) (st r : Nat) :
    Ends (s.complete k st r) k st r := complete_ends s k st r h.1 (.inl h.2.1) h.2.2.1
theorem emit_hif (s : State) (a b : Nat) (l : List Nat) : (s.emit a b l).hif = s.hif := by simp
theorem Ends.emit {s : State} {k a b : Nat} (h : Ends s k a b) (c d : Nat) (l : List Nat) : Ends (s.emit c d l) k a b :=
  h.congr (by simp) (by simp)
theorem reject_ends {s : State} {k op : Nat} {fn : Option Nat} (h : Served s k op fn) (st r : Nat) :
    Ends (s.reject k st r) k st r := by
  unfold State.reject; exact Ends.emit (served_ends h st r) _ _ _
theorem reject_only (s : State) (k st r : Nat) : OnlyEnds s (s.reject k st r) := by
  unfold State.reject
  exact (complete_only s k st r).trans (OnlyEnds.of_hif (by simp))

theorem served_ends' {s t : State} {k op : Nat} {fn : Option Nat} (h : Served s k op fn) (e : t.hif = s.hif) (st r : Nat) :
    Ends (t.complete k st r) k st r :=
  complete_ends t k st r (by rw [e]; exact h.1) (by rw [tag_of e]; exact .inl h.2.1) (by rw [tag_of e]; exact h.2.2.1)
theorem complete_only' {s t : State} (e : t.hif = s.hif) (k st r : Nat) : OnlyEnds s (t.complete k st r) :=
  (OnlyEnds.of_hif e).trans (complete_only t k st r)
theorem completeAll_only' {s t : State} (e : t.hif = s.hif) (k : List Nat) (st r : Nat) : OnlyEnds s (t.completeAll k st r) :=
  (OnlyEnds.of_hif e).trans (completeAll_only t k st r)
theorem completeAll_one {s : State} {k st r : Nat} (hk : k < s.hif.tags.length)
    (h : (s.tag k).st = .held ∨ (s.tag k).st = .applied) (hd : (s.tag k).discard = false) : Ends (s.completeAll [k] st r) k st r := by
  show Ends (s.complete k st r) k st r
  exact complete_ends s k st r hk h hd
end Sys2Proof.Machine
end

