-- ==== Sys2Proof/WellFormed.lean ====
section
/-! DEFINITION. When a command is well-formed: its unit, slot and ring numbers lie in the ranges of R586 and R588, and the
values that come from outside fit the fields the spec gives them. The device itself takes any command: an operand beyond
its range names no unit and changes nothing. -/

namespace Sys2Proof

/-- A sample set names every unit of the full device (R24). -/
def Sample.wf (x : Sample) : Bool :=
  x.railMv.length == 16 && x.phaseMa.length == 32 && x.fswKhz.length == 16 && x.ripUv.length == 16 &&
  x.swMa.length == 24 && x.swSrcMv.length == 24 && x.swGsMv.length == 24 && x.engCycles.length == 16

/-- A received header's fields fit their widths (R656). -/
def DrayHdr.wf (h : DrayHdr) : Bool :=
  h.port < 2 && h.src < 256 && h.dst < 256 && h.seq < 2 ^ 16 && h.session < 2 ^ 16 && h.epoch < 2 ^ 32

/-- The command's operands lie in the ranges of the units they name. -/
def Instr.wf : Instr → Bool
  | .frameBoundary x => x.wf
  | .currentStreamWord (.phase k) _ _ _ => k < 32
  | .currentStreamWord (.sense r) _ _ _ => r < 16
  | .onTimeExpiry p _ | .phaseLatch p => p < 32
  | .fastErrorWord r _ _ | .ovCrowbar r _ _ => r < 16
  | .referenceUpdate r | .phaseShed r | .recallHoldEnd r | .pgmaskEnd r | .railFault r | .crowbarHoldEnd r | .ssShort r
  | .railRetry r | .retryCountReset r | .dischargeEnd r | .dischargeTimeout r => r < 16
  | .speculationStart r _ | .biasEnd r _ | .forecastRetire r _ => r < 16
  | .rampComplete c | .rampTimeout c | .switchShort c _ _ | .swFaultTimerExpiry c | .swPumpTrip c | .swRetry c
  | .swRetryCountReset c | .seatQualified c | .seatLoss c | .brakeI2tTrip c => c < 24
  | .feedLoss c _ _ => 1 ≤ c && c ≤ 3
  | .tdmLinkDown c l => 1 ≤ c && c ≤ 3 && l < 2
  | .sqDoorbell r _ | .cqDoorbell r _ | .descriptorIntake r _ | .coalTimeout r | .dmaReadFail r _ | .ringEnable r _
  | .ringCtrlReset r => r < 64
  | .msixUnmask v => v < 64
  | .nop k | .hibernate k | .wallSet k | .cfgWrite k _ | .ringCreate k | .ringDelete k | .resetRing k | .dmaWindowSet k
  | .railOn k | .railOff k | .railSetVoltage k | .railQuery k | .railClear k | .swOn k | .swOff k | .swClear k | .seqRun k
  | .seqAbort k | .seqResetPulse k | .seqFaultAck k | .chgStart k | .chgStop k | .pathClear k | .batIsolate k
  | .batReconnect k | .gaugeSetFull k | .gaugeSave k | .gaugeNewBattery k | .gaugeSpectro k | .forecastPost k
  | .forecastCancel k | .capSet k | .recRead k | .recTrigger k | .recTraceRead k | .maintStart k | .maintStop k
  | .tdmRetire k | .tdmRejoin k | .drayCap k | .drayForecast k | .drayStage k | .fwWrite k _ | .brakeTighten k
  | .exitFloor k | .deadlineMissed k | .resetPulseEnd k => k < 128
  | .functionReady f => f < 11
  | .funcFail f c => f < 11 && c < 256
  | .engineReload e _ | .backgroundOverrun e _ => e < 16
  | .frameOverrun e sl _ => e < 16 && 1 ≤ sl && sl ≤ 3
  | .drayTransmit p _ => p < 2
  | .drayCrcDiscard p => p < 2
  | .beacon h .. | .cap h .. | .report h .. | .forecast h .. | .stage h .. | .alarm h .. | .ack h .. => h.wf
  | .nodeLoss n | .idConflictClear n => n < 8
  | .coldReset c => c < 3
  | .epochBoundary | .sampleMissed | .outputMissed | .capReduce | .capRaise | .tsenseFailed | .tsenseRecover
  | .stepQualified | .stepTimeout | .syncRelease | .syncRefresh | .syncAdvance | .syncHome .. | .syncInvalid ..
  | .syncAbortBurst | .homePulseEnd | .pgoodRelease | .mrNAssert | .mrNEnd | .pbPress .. | .longPress ..
  | .converterBoost | .handoverEnd | .feedQualified | .handbackEnd | .reserveReached | .batCutoff | .batPresent
  | .batMissing | .prechargeEnd .. | .detectionPulseEnd | .periodicPulse | .chgForcedStop | .searchDwellEnd ..
  | .searchPeriod | .gaugeSample .. | .emptyConfirmed | .ocvCorrect | .spectroStart | .spectroResult ..
  | .nvWrite .. | .nvWritePeriodic | .currentWakeSample .. | .stateBlockReceived .. | .statusBlockReceived ..
  | .blockMissing .. | .tdmLinkUp .. | .soloHoldEnd | .takeover | .orphan | .mismatchUnresolved | .tdmJoin
  | .joinTimeout | .autoJoin | .drillHoldEnd | .tdmPromote .. | .completionWrite | .busMasterChange ..
  | .dmaWindowWrite .. | .barAccessVoid .. | .hibH1 | .hibHandoff | .wakePin .. | .cfgWriteComplete ..
  | .selftestChannel .. | .adcCalConverter .. | .logCompactSector | .safePoint | .swapWaitExpiry | .dryrunStep
  | .fwWriteComplete | .floorEnter | .floorExit | .hostLinkLoss | .singleBitError | .doubleBitError ..
  | .xtalFail .. | .xtalRestored | .domainStall .. | .loReadLatch .. | .fieldForward | .fieldBridgeFlushClear
  | .hifEventClear .. | .registerWrite .. | .setupLock | .warmResetRequest .. | .coldResetRequest .. | .autolock
  | .nohostLock | .rollbackAdvance .. | .recCursorWrite .. | .recSnap | .windowFetchDone | .testUnlock ..
  | .testLock .. | .benchLow | .vaonRise | .v33Good | .strapLatch .. | .v18Good | .bootStart ..
  | .coreStartRetry .. | .cfgImageLoad .. | .autoProgStart | .pcieConfigReady | .warmReset | .fieldMainReset
  | .pcieReset | .pcieLinkUp | .vaonLoss .. | .stagingFlushed | .waybillWrite | .alignLock | .holdover
  | .drayUplinkLoss | .tokenRefill .. | .flashPageWrite | .partialPageFlush | .traceFreeze | .traceWritten ..
  | .alwaysOnStart | .holdSegmentEnd .. | .scrubComplete .. | .eraseAheadComplete => true

end Sys2Proof
end

