-- ==== Sys2Proof/Tests/Slice0.lean ====
section
/-! SUPPORT. Tests: an ill-formed command for each check of WellFormed.lean, single steps with results taken from the spec,
and for every claim a concrete state and operands that meet its hypotheses. -/

namespace Sys2Proof.Tests

open Sys2Proof Sys2Proof.Machine Sys2Proof.Claims

/-! ### WellFormed refuses -/

def someSample : Sample :=
  { (default : Sample) with
    railMv := List.replicate 16 0, phaseMa := List.replicate 32 0, fswKhz := List.replicate 16 500
    ripUv := List.replicate 16 15000, swMa := List.replicate 24 0, swSrcMv := List.replicate 24 0
    swGsMv := List.replicate 24 0, engCycles := List.replicate 16 0 }

theorem test_wf_sample : (Instr.frameBoundary someSample).wf = true := by decide
theorem test_wf_no_rail_mv : (Instr.frameBoundary { someSample with railMv := [] }).wf = false := by decide
theorem test_wf_short_phase_ma : (Instr.frameBoundary { someSample with phaseMa := [1, 2] }).wf = false := by decide
theorem test_wf_no_fsw : (Instr.frameBoundary { someSample with fswKhz := [] }).wf = false := by decide
theorem test_wf_no_rip : (Instr.frameBoundary { someSample with ripUv := [] }).wf = false := by decide
theorem test_wf_no_sw_ma : (Instr.frameBoundary { someSample with swMa := [] }).wf = false := by decide
theorem test_wf_no_sw_src : (Instr.frameBoundary { someSample with swSrcMv := [] }).wf = false := by decide
theorem test_wf_no_sw_gs : (Instr.frameBoundary { someSample with swGsMv := [] }).wf = false := by decide
theorem test_wf_no_cycles : (Instr.frameBoundary { someSample with engCycles := [] }).wf = false := by decide
theorem test_wf_stream_phase : (Instr.currentStreamWord (.phase 32) true 0 0).wf = false := by decide
theorem test_wf_stream_sense : (Instr.currentStreamWord (.sense 16) true 0 0).wf = false := by decide
theorem test_wf_phase : (Instr.phaseLatch 32).wf = false := by decide
theorem test_wf_on_time : (Instr.onTimeExpiry 32 0).wf = false := by decide
theorem test_wf_fast_word : (Instr.fastErrorWord 16 0 0).wf = false := by decide
theorem test_wf_crowbar : (Instr.ovCrowbar 16 0 0).wf = false := by decide
theorem test_wf_rail : (Instr.railFault 16).wf = false := by decide
theorem test_wf_entry : (Instr.biasEnd 16 true).wf = false := by decide
theorem test_wf_switch : (Instr.swRetry 24).wf = false := by decide
theorem test_wf_switch_short : (Instr.switchShort 24 0 0).wf = false := by decide
theorem test_wf_loss_cause : (Instr.feedLoss 4 0 0).wf = false := by decide
theorem test_wf_link_cause : (Instr.tdmLinkDown 0 0).wf = false := by decide
theorem test_wf_link_lane : (Instr.tdmLinkDown 1 2).wf = false := by decide
theorem test_wf_ring : (Instr.sqDoorbell 64 0).wf = false := by decide
theorem test_wf_vector : (Instr.msixUnmask 64).wf = false := by decide
theorem test_wf_slot : (Instr.railOn 128).wf = false := by decide
theorem test_wf_slot_image : (Instr.cfgWrite 128 []).wf = false := by decide
theorem test_wf_function : (Instr.functionReady 11).wf = false := by decide
theorem test_wf_fail_function : (Instr.funcFail 11 0).wf = false := by decide
theorem test_wf_fail_cause : (Instr.funcFail 0 256).wf = false := by decide
theorem test_wf_engine : (Instr.engineReload 16 true).wf = false := by decide
theorem test_wf_overrun_engine : (Instr.frameOverrun 16 1 0).wf = false := by decide
theorem test_wf_overrun_slice : (Instr.frameOverrun 0 4 0).wf = false := by decide
theorem test_wf_port : (Instr.drayTransmit 2 0).wf = false := by decide
theorem test_wf_crc_port : (Instr.drayCrcDiscard 2).wf = false := by decide
theorem test_wf_hdr_port : (Instr.ack { (default : DrayHdr) with port := 2 } []).wf = false := by decide
theorem test_wf_hdr_src : (Instr.ack { (default : DrayHdr) with src := 256 } []).wf = false := by decide
theorem test_wf_hdr_dst : (Instr.ack { (default : DrayHdr) with dst := 256 } []).wf = false := by decide
theorem test_wf_hdr_seq : (Instr.ack { (default : DrayHdr) with seq := 65536 } []).wf = false := by decide
theorem test_wf_hdr_session : (Instr.ack { (default : DrayHdr) with session := 65536 } []).wf = false := by decide
theorem test_wf_hdr_epoch : (Instr.ack { (default : DrayHdr) with epoch := 4294967296 } []).wf = false := by decide
theorem test_wf_node : (Instr.nodeLoss 8).wf = false := by decide
theorem test_wf_reset_cause : (Instr.coldReset 3).wf = false := by decide

/-! ### Decode -/

/-- The table gives no row a bit (log 11). -/
theorem test_decode_none : Sys2Proof.decodeTableWord 16 0x1234 = none := by decide

end Sys2Proof.Tests
end

section
/-! Registers of the units a variant lacks (R6): they lie in BAR0, they have no writable field, and so a read answers 0
and a write leaves the state as it is. -/

namespace Sys2Proof.Machine

open Sys2Proof.Claims

/-- Every window `absentReg` names ends at or below BAR0's last offset, so no absent register is an MSI-X entry. -/
theorem absentReg_lt_bar0 {v : Variant} {off : Nat} (h : absentReg v off = true) : off < 0x10000 := by
  simp only [absentReg, Bool.or_eq_true, Bool.and_eq_true, decide_eq_true_eq] at h
  omega

theorem regFields_of_absentReg {v : Variant} {off : Nat} (h : absentReg v off = true) : regFields v off = [] := by
  rw [regFields, h, Bool.or_true, if_pos rfl]

theorem readReg_of_absentReg {s : State} {off : Nat} (h : absentReg s.sys.variant off = true) :
    s.readReg off = 0 := by
  unfold State.readReg
  exact if_pos h

/-- Below the MSI-X table a write without a writable field is dropped (R18). -/
theorem putAny_of_regFields_nil {s : State} {off : Nat} (hoff : off < 0x10000) (h : regFields s.sys.variant off = [])
    (w : Word) : s.putAny off w = s := by
  have hmsix : ¬(0x11000 ≤ off ∧ off < 0x11400 ∧ off % 4 = 0) := by omega
  rw [State.putAny, if_neg hmsix, h, List.isEmpty_nil, if_pos rfl]

/-- A register write that changes nothing with a link answers the same state with and without one. -/
theorem goes_registerWrite_self {s : State} {off : Nat} {w : Word} (h : s.putAny off w = s) :
    Goes (.registerWrite off w) s s := by
  show execRegisterWrite off w s = .next s
  rw [execRegisterWrite, h, ite_self]

/-- Settles O6: the read answers 0 before any register is looked up, and the write finds no writable field at an offset
that is no MSI-X entry. -/
theorem absentUnits : Obligations.AbsentUnits := by
  intro s off habsent
  refine ⟨readReg_of_absentReg habsent, fun w => goes_registerWrite_self ?_⟩
  exact putAny_of_regFields_nil (absentReg_lt_bar0 habsent) (regFields_of_absentReg habsent) w

/-- The hypothesis is met: a PZ-4816B has no power path, so PATH's first register is absent from it. -/
theorem absentUnits_path_of_b4816 (s : State) (hv : s.sys.variant = .b4816) :
    s.readReg 0x6000 = 0 ∧ ∀ w : Word, Goes (.registerWrite 0x6000 w) s s :=
  absentUnits s 0x6000 (by rw [hv]; decide)

end Sys2Proof.Machine
end

section
/-! What each operation of the model leaves of `sys`, said once and in the order of the model's files: most of them
leave all of it, and those that write a part of it (supplies, readiness, requested resets, hibernate, the field bridge,
the image's load, the standby's forgotten slots) leave SETUP_LOCK as it is. What clears SETUP_LOCK (`State.rebooted`,
`State.colded`) and what sets it (`State.lockUp`, `State.ctrlWrite`) has no place here. -/

namespace Sys2Proof.Machine

/-! ### Choices, served descriptors and loops over units -/

/-- A choice between two states that both have the `sys` of `t`. -/
theorem sys_ite {c : Prop} [Decidable c] {a b t : State} (ha : a.sys = t.sys) (hb : b.sys = t.sys) :
    (if c then a else b).sys = t.sys := by split <;> assumption

@[simp] theorem ite_lock (c : Prop) [Decidable c] (a b : Sys) :
    (if c then a else b).lock = if c then a.lock else b.lock := by split <;> rfl
@[simp] theorem applyRest_sys_lock (op k : Nat) (f : RawDesc → State → State)
    (h : ∀ d s, (f d s).sys.lock = s.sys.lock) (s : State) : (s.applyRest op k f).sys.lock = s.sys.lock := by
  unfold State.applyRest
  dsimp only
  repeat' split
  all_goals simp [h]
@[simp] theorem applyDesc_sys_lock (op k : Nat) (fn : RawDesc → Option Nat) (f : RawDesc → State → State)
    (h : ∀ d s, (f d s).sys.lock = s.sys.lock) (s : State) : (s.applyDesc op k fn f).sys.lock = s.sys.lock := by
  unfold State.applyDesc
  dsimp only
  repeat' split
  all_goals simp [h]

section
variable (s : State)

@[simp] theorem each_modRail_sys (l : List Nat) (g : State → Nat → Rail → Rail) :
    (s.each l fun s n => s.modRail n (g s n)).sys = s.sys := each_sys _ (fun _ _ => by simp) _ _
@[simp] theorem each_modPhase_sys (l : List Nat) (g : State → Nat → Phase → Phase) :
    (s.each l fun s m => s.modPhase m (g s m)).sys = s.sys := each_sys _ (fun _ _ => by simp) _ _
@[simp] theorem each_modSw_sys (l : List Nat) (g : State → Nat → Switch → Switch) :
    (s.each l fun s n => s.modSw n (g s n)).sys = s.sys := each_sys _ (fun _ _ => by simp) _ _

/-! ### Rails: shared operations -/

@[simp] theorem State.floorCause_sys (bit : Nat) : (s.floorCause bit).sys = s.sys := by simp [State.floorCause]
@[simp] theorem State.clearCause_sys (bit : Nat) : (s.clearCause bit).sys = s.sys := by simp [State.clearCause]
@[simp] theorem State.brakeClip_sys (unit item proposed committed eng : Nat) :
    (s.brakeClip unit item proposed committed eng).sys = s.sys := by simp [State.brakeClip]
@[simp] theorem State.applyCounts_sys (n : Nat) : (s.applyCounts n).sys = s.sys := by simp [State.applyCounts]
@[simp] theorem State.phasesMid_sys (n : Nat) : (s.phasesMid n).sys = s.sys := by simp [State.phasesMid]
@[simp] theorem State.clipCount_sys (n c : Nat) : (s.clipCount n c).1.sys = s.sys := by simp [State.clipCount]
@[simp] theorem State.setCount_sys (n c : Nat) : (s.setCount n c).sys = s.sys := by simp [State.setCount]
@[simp] theorem State.retireFc_sys (n : Nat) (lead : Bool) (status result : Nat) :
    (s.retireFc n lead status result).sys = s.sys := by
  unfold State.retireFc
  split
  · rfl
  · dsimp only; split <;> simp
@[simp] theorem State.clearWarns_sys (n : Nat) : (s.clearWarns n).sys = s.sys := by simp [State.clearWarns]
@[simp] theorem State.putTarget_sys (n target rate : Nat) : (s.putTarget n target rate).sys = s.sys := by
  unfold State.putTarget
  dsimp only
  split <;> simp
@[simp] theorem State.clipTarget_sys (n target rate : Nat) : (s.clipTarget n target rate).1.sys = s.sys := by
  simp [State.clipTarget]
@[simp] theorem State.loadRailCfg_sys (n : Nat) : (s.loadRailCfg n).sys = s.sys := by simp [State.loadRailCfg]
@[simp] theorem State.startUnit_sys (n target rate delay : Nat) : (s.startUnit n target rate delay).sys = s.sys := by
  unfold State.startUnit
  dsimp only
  split <;> simp
@[simp] theorem State.turnOn_sys (n target delay : Nat) : (s.turnOn n target delay).1.sys = s.sys := by simp [State.turnOn]
@[simp] theorem State.park_sys (n : Nat) : (s.park n).sys = s.sys := by simp [State.park]
@[simp] theorem State.endOn_sys (n code : Nat) : (s.endOn n code).sys = s.sys := by
  cases h : (s.rail n).onSlot <;> cases k : (s.rail n).setSlot <;> simp [State.endOn, h, k]
@[simp] theorem State.dischargePhases_sys (n : Nat) : (s.dischargePhases n).sys = s.sys := by
  unfold State.dischargePhases
  dsimp only
  split <;> simp
@[simp] theorem State.offUnit_sys (n code : Nat) : (s.offUnit n code).sys = s.sys := by simp [State.offUnit]
@[simp] theorem State.turnOff_sys (n code : Nat) : (s.turnOff n code).sys = s.sys := by simp [State.turnOff]
@[simp] theorem State.shortOff_sys (n code : Nat) : (s.shortOff n code).sys = s.sys := by simp [State.shortOff]

/-! ### Switch channels: shared operations -/

@[simp] theorem State.limitTarget_sys (n target rate : Nat) : (s.limitTarget n target rate).1.sys = s.sys := by
  simp [State.limitTarget]
@[simp] theorem State.applySetpoint_sys (n target rate : Nat) : (s.applySetpoint n target rate).1.sys = s.sys := by
  simp [State.applySetpoint]
@[simp] theorem State.cancelRetry_sys (n : Nat) : (s.cancelRetry n).sys = s.sys := by simp [State.cancelRetry]
@[simp] theorem State.swEnd_sys (n : Nat) (nst : SwState) (code : Nat) : (s.swEnd n nst code).sys = s.sys := by
  simp [State.swEnd]
@[simp] theorem State.swRamp_sys (n : Nat) : (s.swRamp n).sys = s.sys := by simp [State.swRamp]
@[simp] theorem State.swTurnOn_sys (n : Nat) (retry prearmed : Bool) : (s.swTurnOn n retry prearmed).sys = s.sys := by
  simp [State.swTurnOn]
@[simp] theorem State.swTurnOff_sys (n code : Nat) : (s.swTurnOff n code).sys = s.sys := by
  unfold State.swTurnOff; split <;> simp
@[simp] theorem State.swTrip_sys (n m ma : Nat) (t : Option Nat) : (s.swTrip n m ma t).sys = s.sys := by
  unfold State.swTrip; split <;> simp
@[simp] theorem State.swJudge_sys (n : Nat) : (s.swJudge n).sys = s.sys := by simp [State.swJudge]

/-! ### Sequencer: shared operations -/

@[simp] theorem State.setPgood_sys (b : Bool) : (s.setPgood b).sys = s.sys := by simp [State.setPgood]
@[simp] theorem State.faultN_sys : s.faultN.sys = s.sys := by simp [State.faultN]
@[simp] theorem State.resetOuts_sys : s.resetOuts.sys = s.sys := by simp [State.resetOuts]
@[simp] theorem State.supervise_sys : s.supervise.sys = s.sys := by simp [State.supervise]
@[simp] theorem State.seqOff_sys (u : Nat) : (s.seqOff u).sys = s.sys := by simp [State.seqOff]
@[simp] theorem State.offOwnOne_sys (l : List Nat) : (s.offOwnOne l).sys = s.sys := by
  induction l generalizing s with
  | nil => rfl
  | cons u us ih => rw [State.offOwnOne]; split <;> simp [ih]
@[simp] theorem State.retirePrearm_sys : s.retirePrearm.sys = s.sys := by simp [State.retirePrearm]
@[simp] theorem State.seqEnd_sys (outcome cause status : Nat) : (s.seqEnd outcome cause status).sys = s.sys := by
  simp [State.seqEnd]
@[simp] theorem State.dropStart_sys (outcome status : Nat) : (s.dropStart outcome status).sys = s.sys := by
  unfold State.dropStart
  split
  · dsimp only; split <;> simp
  · rfl
@[simp] theorem State.seqStop_sys : s.seqStop.sys = s.sys := by simp [State.seqStop]
@[simp] theorem State.seqRequest_sys (p src : Nat) (slot : Option Nat) : (s.seqRequest p src slot).sys = s.sys := by
  simp [State.seqRequest]
@[simp] theorem State.offSequence_sys (src : Nat) : (s.offSequence src).1.sys = s.sys := by simp [State.offSequence]
@[simp] theorem State.seqPolicy_sys (cause : Nat) : (s.seqPolicy cause).sys = s.sys := by
  unfold State.seqPolicy
  dsimp only
  split
  · rw [State.offOwnOne_sys, each_sys]
    · simp
    · intro s u; split <;> simp
  · simp
@[simp] theorem State.stepFail_sys (cause : Nat) : (s.stepFail cause).sys = s.sys := by simp [State.stepFail]
@[simp] theorem State.seqNotify_sys (u : Nat) (fault : Bool) : (s.seqNotify u fault).sys = s.sys := by
  simp [State.seqNotify]
@[simp] theorem State.prearmRecord_sys (u : Nat) (p : Option Nat) : (s.prearmRecord u p).sys = s.sys := by
  unfold State.prearmRecord; split <;> simp
@[simp] theorem State.stepAct_sys (st : Step) : (s.stepAct st).sys = s.sys := by unfold State.stepAct; split <;> simp
@[simp] theorem State.startStep_sys (i : Nat) : (s.startStep i).sys = s.sys := by
  unfold State.startStep
  dsimp only
  split <;> simp
@[simp] theorem State.seqAdvance_sys : s.seqAdvance.sys = s.sys := by simp [State.seqAdvance]
@[simp] theorem State.progStart_sys : s.progStart.sys = s.sys := by unfold State.progStart; split <;> simp
@[simp] theorem State.seqJudge_sys : s.seqJudge.sys = s.sys := by simp [State.seqJudge]
@[simp] theorem State.prearmStep_sys : s.prearmStep.sys = s.sys := by simp [State.prearmStep]

/-! ### Switch channels -/

@[simp] theorem State.swSample_sys (n : Nat) : (s.swSample n).sys = s.sys := by simp [State.swSample]
@[simp] theorem State.swSeat_sys (n : Nat) : (s.swSeat n).sys = s.sys := by simp [State.swSeat]
@[simp] theorem State.swModel_sys (n : Nat) : (s.swModel n).sys = s.sys := by simp [State.swModel]
@[simp] theorem State.swTherm_sys (n : Nat) : (s.swTherm n).sys = s.sys := by simp [State.swTherm]
@[simp] theorem State.swTimer_sys (n : Nat) : (s.swTimer n).sys = s.sys := by simp [State.swTimer]
@[simp] theorem State.swI2t_sys (n : Nat) : (s.swI2t n).sys = s.sys := by simp [State.swI2t]
@[simp] theorem State.swShadow_sys (n : Nat) : (s.swShadow n).sys = s.sys := by simp [State.swShadow]
@[simp] theorem State.swStep1_sys (n : Nat) : (s.swStep1 n).sys = s.sys := by simp [State.swStep1]
@[simp] theorem State.swStep3_sys (n : Nat) : (s.swStep3 n).sys = s.sys := by simp [State.swStep3]
@[simp] theorem State.tripRow_sys (ch m : Nat) (t : Option Nat) (ma : Int) : (s.tripRow ch m t ma).sys = s.sys := by
  simp [State.tripRow]
@[simp] theorem State.swOnOp_sys (k : Nat) (d : RawDesc) : (s.swOnOp k d).sys = s.sys := by
  cases h : s.swCheck (descIndex d) <;> simp [State.swOnOp, h]
@[simp] theorem State.swOffOp_sys (k : Nat) (d : RawDesc) : (s.swOffOp k d).sys = s.sys := by simp [State.swOffOp]
@[simp] theorem State.swClearOp_sys (k : Nat) (d : RawDesc) : (s.swClearOp k d).sys = s.sys := by simp [State.swClearOp]

/-! ### Caps, temperature, compensation -/

@[simp] theorem State.capStage_sys : s.capStage.sys = s.sys := by simp [State.capStage]
@[simp] theorem State.capFrame_sys : s.capFrame.sys = s.sys := by simp [State.capFrame]
@[simp] theorem State.capEpoch_sys : s.capEpoch.sys = s.sys := by simp [State.capEpoch]
@[simp] theorem State.setCapLim_sys (u : Nat) (l : Option Nat) : (s.setCapLim u l).sys = s.sys := by simp [State.setCapLim]
@[simp] theorem State.changeCap_sys (lead : Bool) (mw : Nat) : (s.changeCap lead mw).sys = s.sys := by
  simp [State.changeCap]
@[simp] theorem State.tsense_sys : s.tsense.sys = s.sys := by simp [State.tsense]
@[simp] theorem State.tdieAverage_sys : s.tdieAverage.sys = s.sys := by simp [State.tdieAverage]
@[simp] theorem State.derate_sys : s.derate.sys = s.sys := by simp [State.derate]
@[simp] theorem State.compensate_sys : s.compensate.sys = s.sys := by unfold State.compensate; split <;> simp

/-! ### Sequencer and its pins -/

@[simp] theorem State.syncClaim_sys : s.syncClaim.sys = s.sys := by simp [State.syncClaim]
@[simp] theorem State.seqRunOp_sys (k : Nat) (d : RawDesc) : (s.seqRunOp k d).sys = s.sys := by
  unfold State.seqRunOp
  dsimp only
  split <;> simp
@[simp] theorem State.seqPulseOp_sys (k : Nat) (d : RawDesc) : (s.seqPulseOp k d).sys = s.sys := by
  unfold State.seqPulseOp
  dsimp only
  split <;> simp
@[simp] theorem State.seqFrame_sys : s.seqFrame.sys = s.sys := by
  refine sys_ite rfl ((State.prearmStep_sys _).trans ?_)
  rw [ite_sys, State.offOwnOne_sys, ite_self, ite_sys, State.seqAdvance_sys, ite_self, State.progStart_sys]

/-! ### Gauge: shared operations -/

@[simp] theorem State.maintEnd_sys (c outcome detail : Nat) : (s.maintEnd c outcome detail).sys = s.sys := by
  simp [State.maintEnd]
@[simp] theorem State.nvStart_sys (trig : Nat) : (s.nvStart trig).sys = s.sys := by simp [State.nvStart]
@[simp] theorem State.nvTrigger_sys (trig : Nat) : (s.nvTrigger trig).sys = s.sys := by simp [State.nvTrigger]
@[simp] theorem State.nvShutdown_sys (flushed : Bool) : (s.nvShutdown flushed).sys = s.sys := 
  sys_ite rfl (sys_ite (by simp) rfl)
@[simp] theorem State.learnAbort_sys (cause : Nat) : (s.learnAbort cause).sys = s.sys := by simp [State.learnAbort]
@[simp] theorem State.holdUpdate_sys : s.holdUpdate.sys = s.sys := by simp [State.holdUpdate]
@[simp] theorem State.gaugeEpoch_sys : s.gaugeEpoch.sys = s.sys := by simp [State.gaugeEpoch]
@[simp] theorem State.gaugeFrame_sys : s.gaugeFrame.sys = s.sys := by simp [State.gaugeFrame]

/-! ### Power path: shared operations -/

@[simp] theorem State.pathFaults_sys : s.pathFaults.sys = s.sys := by simp [State.pathFaults]
@[simp] theorem State.convTo_sys (c : ConvSt) : (s.convTo c).sys = s.sys := by simp [State.convTo]
@[simp] theorem State.batTo_sys (b : BatSt) (cause : Nat) : (s.batTo b cause).sys = s.sys := by simp [State.batTo]
@[simp] theorem State.toNoFeed_sys : s.toNoFeed.sys = s.sys := by simp [State.toNoFeed]
@[simp] theorem State.batOut_sys (b : BatSt) (cause : Nat) : (s.batOut b cause).sys = s.sys := by simp [State.batOut]
@[simp] theorem State.searchStart_sys (maint : Bool) : (s.searchStart maint).sys = s.sys := by simp [State.searchStart]
@[simp] theorem State.searchEnd_sys (result lim tested : Nat) (sag : Int) :
    (s.searchEnd result lim tested sag).sys = s.sys := by simp [State.searchEnd]
@[simp] theorem State.detEnd_sys (b : BatSt) (cause : Nat) : (s.detEnd b cause).sys = s.sys := by simp [State.detEnd]
@[simp] theorem State.detStart_sys (cause : Nat) : (s.detStart cause).sys = s.sys := by simp [State.detStart]
@[simp] theorem State.shedOne_sys (u : Nat) : (s.shedOne u).sys = s.sys := by simp [State.shedOne]
@[simp] theorem State.shedAll_sys (l : List Nat) (reason : Nat) : (s.shedAll l reason).sys = s.sys := by
  simp [State.shedAll]
@[simp] theorem State.shedAtLoss_sys : s.shedAtLoss.sys = s.sys := by simp [State.shedAtLoss]
@[simp] theorem State.shedAgain_sys : s.shedAgain.sys = s.sys := by simp [State.shedAgain]
@[simp] theorem State.toFeed_sys : s.toFeed.sys = s.sys := by simp [State.toFeed]

/-! ### Feed, battery, charging, search -/

@[simp] theorem State.pathSample_sys : s.pathSample.sys = s.sys := by simp [State.pathSample]
@[simp] theorem State.takeLoss_sys : s.takeLoss.sys = s.sys := by unfold State.takeLoss; split <;> simp
@[simp] theorem State.batWatch_sys : s.batWatch.sys = s.sys := by simp [State.batWatch]
@[simp] theorem State.chgSuspend_sys : s.chgSuspend.sys = s.sys := by simp [State.chgSuspend]
@[simp] theorem State.restoreOne_sys : s.restoreOne.sys = s.sys := by unfold State.restoreOne; split <;> simp
@[simp] theorem State.pathStep_sys : s.pathStep.sys = s.sys := by simp [State.pathStep]
@[simp] theorem State.pathFrame_sys : s.pathFrame.sys = s.sys := by
  refine sys_ite rfl (sys_ite (by simp) ?_)
  simp only [ite_sys, State.convTo_sys, ite_self]
  refine ite_eq_iff'.2 ⟨fun _ => ?_, fun _ => rfl⟩
  generalize hx : (State.convTo _ _ : State) = x
  have hsys : x.sys = s.sys := by simp [← hx]
  split <;> simp [hsys]
@[simp] theorem State.chgSlotEnd_sys (status result : Nat) : (s.chgSlotEnd status result).sys = s.sys := by
  unfold State.chgSlotEnd; split <;> simp
@[simp] theorem State.chgStartOp_sys (k : Nat) (d : RawDesc) : (s.chgStartOp k d).sys = s.sys := by simp [State.chgStartOp]

/-! ### Battery gauge -/

@[simp] theorem State.spectroBegin_sys (f : Nat) (slot : Option Nat) : (s.spectroBegin f slot).sys = s.sys := by
  simp [State.spectroBegin]
@[simp] theorem State.nvSave_sys (k : Nat) : (s.nvSave k).sys = s.sys := by simp [State.nvSave]
@[simp] theorem State.gaugeWake_sys (ms : Nat) : (s.gaugeWake ms).sys = s.sys := by simp [State.gaugeWake]
@[simp] theorem State.setFullOp_sys (k : Nat) (d : RawDesc) : (s.setFullOp k d).sys = s.sys := by
  unfold State.setFullOp
  dsimp only
  split <;> simp
@[simp] theorem State.gaugeNew_sys : s.gaugeNew.sys = s.sys := by simp [State.gaugeNew]
@[simp] theorem State.spectroOp_sys (k : Nat) (d : RawDesc) : (s.spectroOp k d).sys = s.sys := by
  unfold State.spectroOp
  dsimp only
  split <;> simp
@[simp] theorem State.gaugeLoad_sys : s.gaugeLoad.sys = s.sys := by
  unfold State.gaugeLoad
  dsimp only
  split
  · simp
  · split <;> simp

/-! ### Host interface -/

@[simp] theorem State.writeDenied_sys (off v kept : Nat) : (s.writeDenied off v kept).sys = s.sys := by
  simp [State.writeDenied]
@[simp] theorem State.inject_sys : s.inject.sys = s.sys := by simp [State.inject]
@[simp] theorem State.ringTo_sys (r : Nat) (st : RSt) (source : Nat) : (s.ringTo r st source).sys = s.sys := by
  simp [State.ringTo]
@[simp] theorem State.ringError_sys (r cause info : Nat) : (s.ringError r cause info).sys = s.sys := by
  simp [State.ringError]
@[simp] theorem State.ringEnableWith_sys (r : Nat) (g : Ring) (source : Nat) :
    (s.ringEnableWith r g source).sys = s.sys := by simp [State.ringEnableWith]
@[simp] theorem State.ringDisable_sys (r source : Nat) : (s.ringDisable r source).sys = s.sys := by simp [State.ringDisable]
@[simp] theorem State.ringReset_sys (r source : Nat) : (s.ringReset r source).sys = s.sys := by simp [State.ringReset]
@[simp] theorem State.windowCheck_sys : s.windowCheck.1.sys = s.sys := by simp [State.windowCheck]
@[simp] theorem State.sqTake_sys (r : Nat) (v : Word) : (s.sqTake r v).sys = s.sys := by simp [State.sqTake]
@[simp] theorem State.cqTake_sys (r : Nat) (v : Word) : (s.cqTake r v).sys = s.sys := by simp [State.cqTake]
@[simp] theorem State.doorbell_sys (cq : Bool) (r : Nat) (v : Word) : (s.doorbell cq r v).sys = s.sys := by
  simp [State.doorbell]
@[simp] theorem State.doorbellsDue_sys : s.doorbellsDue.sys = s.sys := by simp [State.doorbellsDue]
@[simp] theorem State.intakeAs_sys (ring : Nat) (d : RawDesc) (time tick : Nat) (frame : BitVec 32) (tk : Bool) :
    (s.intakeAs ring d time tick frame tk).sys = s.sys := by unfold State.intakeAs; split <;> simp
@[simp] theorem State.cqSignal_sys (q : Nat) : (s.cqSignal q).sys = s.sys := by simp [State.cqSignal]
@[simp] theorem State.writeCpl_sys (c : Cpl) : (s.writeCpl c).sys = s.sys := by unfold State.writeCpl; split <;> simp
@[simp] theorem State.sendPending_sys : s.sendPending.sys = s.sys := by simp [State.sendPending]
@[simp] theorem State.ringCtrl_sys (r : Nat) (en : Bool) : (s.ringCtrl r en).sys = s.sys := by simp [State.ringCtrl]
@[simp] theorem State.barVoid_sys (bar off size : Nat) (isWrite : Bool) : (s.barVoid bar off size isWrite).sys = s.sys := by
  simp [State.barVoid]

/-! ### Configuration image and banks -/

@[simp] theorem State.loadReg_sys (off w : Nat) : (s.loadReg off w).sys = s.sys := by simp [State.loadReg]
@[simp] theorem State.loadImage_lock (im : List Byte) : (s.loadImage im).sys.lock = s.sys.lock := by simp [State.loadImage]

/-! ### Admin and firmware descriptors -/

@[simp] theorem State.writeStart_sys (k : Nat) (fw b : Bool) (bytes : List Byte) :
    (s.writeStart k fw b bytes).sys = s.sys := by simp [State.writeStart]
@[simp] theorem State.cfgWriteOp_sys (k : Nat) (d : RawDesc) (image : List Byte) :
    (s.cfgWriteOp k d image).sys = s.sys := by
  cases h : imageFault s.sys.variant s.cfg.fwVersion s.sys.signedOnly (image.take (descField d 24 4)) <;>
    simp [State.cfgWriteOp, h]
@[simp] theorem State.setSlotBytes_sys (b : Bool) (bytes : List Byte) : (s.setSlotBytes b bytes).sys = s.sys := by
  simp [State.setSlotBytes]
@[simp] theorem State.setBankBytes_sys (b : Bool) (bytes : List Byte) : (s.setBankBytes b bytes).sys = s.sys := by
  simp [State.setBankBytes]
@[simp] theorem State.dropWrite_sys : s.dropWrite.sys = s.sys := by unfold State.dropWrite; split <;> simp
@[simp] theorem State.judgeOther_sys : s.judgeOther.sys = s.sys := by simp [State.judgeOther]
@[simp] theorem State.fwWriteOp_sys (k : Nat) (d : RawDesc) (bank : List Byte) : (s.fwWriteOp k d bank).sys = s.sys := by
  simp [State.fwWriteOp]
@[simp] theorem State.ringToRegs_sys (r : Nat) (h : Ring) : (s.ringToRegs r h).sys = s.sys := by simp [State.ringToRegs]
@[simp] theorem State.ringCreateOp_sys (k : Nat) (d : RawDesc) : (s.ringCreateOp k d).sys = s.sys := by
  simp [State.ringCreateOp]
@[simp] theorem State.moveInside_sys (n target rate : Nat) : (s.moveInside n target rate).sys = s.sys := by
  simp [State.moveInside]
@[simp] theorem State.countsInside_sys : s.countsInside.sys = s.sys := by simp [State.countsInside]
@[simp] theorem State.tightenMove_sys (item n : Nat) : (s.tightenMove item n).sys = s.sys := by
  unfold State.tightenMove; split <;> simp
@[simp] theorem State.setLimit_sys (item n v : Nat) : (s.setLimit item n v).sys = s.sys := by simp [State.setLimit]
@[simp] theorem State.tightenOp_sys (k : Nat) (d : RawDesc) : (s.tightenOp k d).sys = s.sys := by simp [State.tightenOp]

/-! ### Rail regulation -/

@[simp] theorem State.startPulse_sys (n m t : Nat) : (s.startPulse n m t).sys = s.sys := by simp [State.startPulse]
@[simp] theorem State.endPulse_sys (m : Nat) : (s.endPulse m).sys = s.sys := by simp [State.endPulse]
@[simp] theorem State.trigger_sys (n t : Nat) : (s.trigger n t).sys = s.sys := by
  unfold State.trigger
  dsimp only
  split <;> simp
@[simp] theorem State.phaseWord_sys (m : Nat) (i : Int) (t : Nat) : (s.phaseWord m i t).sys = s.sys := by
  refine sys_ite rfl ?_
  rw [State.trigger_sys]
  refine sys_ite ?_ (by simp)
  dsimp only
  repeat' split
  all_goals simp
@[simp] theorem State.truncate_sys (n : Nat) : (s.truncate n).sys = s.sys := by simp [State.truncate]
@[simp] theorem State.recall_sys (n : Nat) (errUv : Rat) (t : Nat) : (s.recall n errUv t).sys = s.sys := by
  simp [State.recall]
@[simp] theorem State.shadowRecall_sys (n : Nat) (errUv : Rat) (t : Nat) : (s.shadowRecall n errUv t).sys = s.sys := by
  simp [State.shadowRecall]
@[simp] theorem State.reached_sys (n : Nat) : (s.reached n).sys = s.sys := by
  unfold State.reached
  dsimp only
  split <;> simp
@[simp] theorem State.takeVin_sys (n : Nat) : (s.takeVin n).sys = s.sys := by simp [State.takeVin]
@[simp] theorem State.adjustCf_sys (n : Nat) : (s.adjustCf n).sys = s.sys := by simp [State.adjustCf]
@[simp] theorem State.adjustVofs_sys (n : Nat) : (s.adjustVofs n).sys = s.sys := by simp [State.adjustVofs]
@[simp] theorem State.adjustDroop_sys (n : Nat) : (s.adjustDroop n).sys = s.sys := by simp [State.adjustDroop]
@[simp] theorem State.adjustShare_sys (n : Nat) : (s.adjustShare n).sys = s.sys := by simp [State.adjustShare]
@[simp] theorem State.adjustBalance_sys (n : Nat) : (s.adjustBalance n).sys = s.sys := by simp [State.adjustBalance]
@[simp] theorem State.adjustTrim_sys (n : Nat) : (s.adjustTrim n).sys = s.sys := by simp [State.adjustTrim]
@[simp] theorem State.adjustGain_sys (n : Nat) : (s.adjustGain n).sys = s.sys := by simp [State.adjustGain]
@[simp] theorem State.adjustCount_sys (n : Nat) : (s.adjustCount n).sys = s.sys := by simp [State.adjustCount]
@[simp] theorem State.checkPeak_sys (n : Nat) : (s.checkPeak n).sys = s.sys := by simp [State.checkPeak]
@[simp] theorem State.railFrameEnd_sys (n : Nat) : (s.railFrameEnd n).sys = s.sys := by simp [State.railFrameEnd]
@[simp] theorem State.railSample_sys (n : Nat) : (s.railSample n).sys = s.sys := by simp [State.railSample]

/-! ### Rail commands and forecasts -/

@[simp] theorem State.railOnOp_sys (k : Nat) (d : RawDesc) : (s.railOnOp k d).sys = s.sys := by
  cases h : s.railOnCause (descIndex d) (descField d 24 2) <;> simp [State.railOnOp, h]
@[simp] theorem State.railOffOp_sys (k : Nat) (d : RawDesc) : (s.railOffOp k d).sys = s.sys := by simp [State.railOffOp]
@[simp] theorem State.railSetOp_sys (k : Nat) (d : RawDesc) : (s.railSetOp k d).sys = s.sys := by simp [State.railSetOp]
@[simp] theorem State.specStart_sys (n : Nat) (lead : Bool) : (s.specStart n lead).sys = s.sys := by
  unfold State.specStart; split <;> simp
@[simp] theorem State.putForecast_sys (n : Nat) (lead : Bool) (e : Fc) : (s.putForecast n lead e).sys = s.sys := by
  unfold State.putForecast
  cases (s.rail n).entry lead with
  | none => simp
  | some o => cases h : o.slot <;> simp [h]
@[simp] theorem State.forecastOp_sys (k : Nat) (d : RawDesc) : (s.forecastOp k d).sys = s.sys := by simp [State.forecastOp]
@[simp] theorem State.confirmFc_sys (n : Nat) (lead : Bool) : (s.confirmFc n lead).sys = s.sys := by
  unfold State.confirmFc
  split
  · rfl
  next e _ => cases e.slot <;> simp

/-! ### Rail protection -/

@[simp] theorem State.timerStart_sys (n kind : Nat) (started : Bool) (value level : Int) :
    (s.timerStart n kind started value level).sys = s.sys := by simp [State.timerStart]
@[simp] theorem State.railStep1_sys (n : Nat) : (s.railStep1 n).sys = s.sys := by simp [State.railStep1]
@[simp] theorem State.warn_sys (n kind : Nat) (now set clr : Bool) (value level : Int) :
    (s.warn n kind now set clr value level).1.sys = s.sys := by simp [State.warn]
@[simp] theorem State.railStep2_sys (n : Nat) : (s.railStep2 n).sys = s.sys := by simp [State.railStep2]
@[simp] theorem State.railStep3_sys (n : Nat) : (s.railStep3 n).sys = s.sys := by
  refine sys_ite (by simp) ?_
  split <;> simp
@[simp] theorem State.failedDown_sys (n cause : Nat) : (s.failedDown n cause).sys = s.sys := by simp [State.failedDown]
@[simp] theorem State.faultAct_sys (n : Nat) (causes : List Nat) : (s.faultAct n causes).sys = s.sys := by
  simp [State.faultAct]
@[simp] theorem State.railClearOp_sys (k : Nat) (d : RawDesc) : (s.railClearOp k d).sys = s.sys := by
  simp [State.railClearOp]

/-! ### Event recorder and trace -/

@[simp] theorem State.suppressedRecord_sys (b : Bucket) : (s.suppressedRecord b).sys = s.sys := by
  simp [State.suppressedRecord]
@[simp] theorem State.drainPend_sys (k : Nat) : (s.drainPend k).sys = s.sys := by
  induction k generalizing s with
  | zero => rfl
  | succ k ih => rw [State.drainPend]; split <;> simp [ih]
@[simp] theorem State.recEpoch_sys : s.recEpoch.sys = s.sys := by
  unfold State.recEpoch
  rw [foldl_sys]
  · simp
  · intro s b; split <;> simp
@[simp] theorem State.program_sys (k : Nat) : (s.program k).sys = s.sys := by
  unfold State.program
  dsimp only
  split <;> simp
@[simp] theorem State.lostRecords_sys : s.lostRecords.sys = s.sys := by simp [State.lostRecords]
@[simp] theorem State.flushAll_sys : s.flushAll.sys = s.sys := by simp [State.flushAll]
@[simp] theorem State.recReadOp_sys (k : Nat) (d : RawDesc) : (s.recReadOp k d).sys = s.sys := by simp [State.recReadOp]
@[simp] theorem State.logHead_sys : s.logHead.sys = s.sys := by simp [State.logHead]
@[simp] theorem State.admitHeld_sys : s.admitHeld.sys = s.sys := by simp [State.admitHeld]
@[simp] theorem State.admitFloor_sys : s.admitFloor.sys = s.sys := by simp [State.admitFloor]
@[simp] theorem State.traceBegin_sys : s.traceBegin.sys = s.sys := by simp [State.traceBegin]
@[simp] theorem State.traceEntry_sys : s.traceEntry.sys = s.sys := by simp [State.traceEntry]
@[simp] theorem State.traceResume_sys : s.traceResume.sys = s.sys := by simp [State.traceResume]
@[simp] theorem State.traceAbandon_sys : s.traceAbandon.sys = s.sys := by simp [State.traceAbandon]
@[simp] theorem State.recTriggerOp_sys (k : Nat) (d : RawDesc) : (s.recTriggerOp k d).sys = s.sys := by
  unfold State.recTriggerOp
  dsimp only
  split <;> simp

/-! ### Maintenance -/

@[simp] theorem State.maintBegin_sys (c arg : Nat) : (s.maintBegin c arg).sys = s.sys := by
  unfold State.maintBegin; split <;> simp
@[simp] theorem State.maintStartOp_sys (k : Nat) (d : RawDesc) : (s.maintStartOp k d).sys = s.sys := by
  unfold State.maintStartOp
  dsimp only
  split
  · simp
  · cases s.maintForbids (descField d 24 1) <;> simp
@[simp] theorem State.maintCut_sys (c outcome : Nat) : (s.maintCut c outcome).sys = s.sys := by
  unfold State.maintCut; split <;> simp
@[simp] theorem State.maintFailAll_sys : s.maintFailAll.sys = s.sys := by simp [State.maintFailAll]
@[simp] theorem State.maintStopOp_sys (k : Nat) (d : RawDesc) : (s.maintStopOp k d).sys = s.sys := by
  simp [State.maintStopOp]
@[simp] theorem State.askWarm_lock (cause : Nat) : (s.askWarm cause).sys.lock = s.sys.lock := by simp [State.askWarm]
@[simp] theorem State.testClear_sys : s.testClear.sys = s.sys := by simp [State.testClear]
@[simp] theorem State.testLockTo_sys (b : Bool) (cause : Nat) : (s.testLockTo b cause).sys = s.sys := by
  simp [State.testLockTo]

/-! ### Waybill -/

@[simp] theorem State.waySnap_sys : s.waySnap.sys = s.sys := by simp [State.waySnap]
@[simp] theorem State.wayTo_sys (st cause : Nat) : (s.wayTo st cause).sys = s.sys := by simp [State.wayTo]
@[simp] theorem State.waySkip_sys (reason : Nat) : (s.waySkip reason).sys = s.sys := by unfold State.waySkip; split <;> simp
@[simp] theorem State.wayBegin_sys : s.wayBegin.sys = s.sys := by simp [State.wayBegin]
@[simp] theorem State.wayBuild_sys : s.wayBuild.sys = s.sys := by simp [State.wayBuild]
@[simp] theorem State.wayWrite_sys (g : Nat) (b : List Byte) : (s.wayWrite g b).sys = s.sys := by simp [State.wayWrite]

/-! ### Drayline -/

@[simp] theorem State.modNode_sys (n : Nat) (f : Node → Node) : (s.modNode n f).sys = s.sys := by simp [State.modNode]
@[simp] theorem State.countRx_sys (h : DrayHdr) : (s.countRx h).sys = s.sys := by simp [State.countRx]
@[simp] theorem State.dropStale_sys (h : DrayHdr) (reason : Nat) : (s.dropStale h reason).sys = s.sys := by
  simp [State.dropStale]
@[simp] theorem State.keepTrack_sys (h : DrayHdr) : (s.keepTrack h).sys = s.sys := by simp [State.keepTrack]
@[simp] theorem State.joinRecord_sys (port node session event : Nat) :
    (s.joinRecord port node session event).sys = s.sys := by simp [State.joinRecord]
@[simp] theorem State.retireLead_sys : s.retireLead.sys = s.sys := by simp [State.retireLead]
@[simp] theorem State.alignTo_sys (st : AlignState) : (s.alignTo st).sys = s.sys := by simp [State.alignTo]
@[simp] theorem State.alignLockRecord_sys : s.alignLockRecord.sys = s.sys := by simp [State.alignLockRecord]
@[simp] theorem State.alignSample_sys (leader own : Int) : (s.alignSample leader own).sys = s.sys := by
  unfold State.alignSample
  simp only [ite_sys, State.alignTo_sys, State.freeStep_sys, State.alignLockRecord_sys, ite_self]
@[simp] theorem State.beaconIn_sys (h : DrayHdr) (prevSfd : Nat) (joined : BitVec 8) (stamp : Nat) :
    (s.beaconIn h prevSfd joined stamp).sys = s.sys := by
  unfold State.beaconIn
  dsimp only
  split <;> simp
@[simp] theorem State.conflictIn_sys (h : DrayHdr) : (s.conflictIn h).sys = s.sys := by simp [State.conflictIn]
@[simp] theorem State.nodeAcks_sys (n : Nat) (p : DrayUp) : (s.nodeAcks n p).sys = s.sys := by
  unfold State.nodeAcks
  rw [foldl_sys]
  · simp
  · intro s q; split <;> simp
@[simp] theorem State.upIn_sys (h : DrayHdr) (p : DrayUp) : (s.upIn h p).sys = s.sys := by
  unfold State.upIn
  rw [State.nodeAcks_sys, ite_sys, State.modNode_sys, ite_self]
  split <;> simp
@[simp] theorem State.upward_sys (h : DrayHdr) (p : DrayUp) (f : State → State)
    (hf : ∀ s, (f s).sys = s.sys) : (s.upward h p f).sys = s.sys := by simp [State.upward, hf]
@[simp] theorem State.alarmRaise_sys (bits : Nat) : (s.alarmRaise bits).sys = s.sys := by simp [State.alarmRaise]
@[simp] theorem State.putFrame_sys (f : DraySent) : (s.putFrame f).sys = s.sys := by simp [State.putFrame]
@[simp] theorem State.sendDown_sys (type dst : Nat) (payload : List Byte) : (s.sendDown type dst payload).sys = s.sys := by
  simp [State.sendDown]
@[simp] theorem State.sendUp_sys (type subject event : Nat) (summary : List Byte) (subjEpoch : Nat) :
    (s.sendUp type subject event summary subjEpoch).sys = s.sys := by simp [State.sendUp]
@[simp] theorem State.sendItem_sys (q : DrayQ) : (s.sendItem q).sys = s.sys := by
  cases q with
  | st stage slot t => cases slot <;> simp [State.sendItem]
  | fc => simp [State.sendItem]
@[simp] theorem State.burstDown_sys (sfd : Nat) : (s.burstDown sfd).sys = s.sys := by
  unfold State.burstDown
  dsimp only
  split <;> simp
@[simp] theorem State.frameUp_sys : s.frameUp.sys = s.sys := by
  unfold State.frameUp
  dsimp only
  split
  · simp
  · split
    · split <;> simp
    · simp
@[simp] theorem State.drayFrame_sys : s.drayFrame.sys = s.sys := by
  unfold State.drayFrame
  simp only [ite_sys, ite_self]
  rw [foldl_sys]
  · simp
  · intro s q; split <;> simp
@[simp] theorem State.skipPort_sys (port : Nat) : (s.skipPort port).sys = s.sys := by simp [State.skipPort]
@[simp] theorem State.drayEpoch_lock : s.drayEpoch.sys.lock = s.sys.lock := by simp [State.drayEpoch]

/-! ### The frame's work -/

@[simp] theorem State.checkIpeak_sys (n : Nat) : (s.checkIpeak n).sys = s.sys := by simp [State.checkIpeak]
@[simp] theorem State.outputsStep_sys : s.outputsStep.sys = s.sys := by simp [State.outputsStep]
@[simp] theorem State.ctlEnd_sys : s.ctlEnd.sys = s.sys := by simp [State.ctlEnd]
@[simp] theorem State.ctlSteps_sys (sws : Bool) : (s.ctlSteps sws).sys = s.sys := by simp [State.ctlSteps]
@[simp] theorem State.floorSteps_sys (sws : Bool) : (s.floorSteps sws).sys = s.sys := by simp [State.floorSteps]
@[simp] theorem State.clockFrame_sys : s.clockFrame.sys = s.sys := by simp [State.clockFrame]
@[simp] theorem State.wallTake_sys : s.wallTake.sys = s.sys := by simp [State.wallTake]
@[simp] theorem State.intakeFrame_sys : s.intakeFrame.sys = s.sys := by simp [State.intakeFrame]
@[simp] theorem State.testFrame_sys : s.testFrame.sys = s.sys := by simp [State.testFrame]
@[simp] theorem State.takeLive_sys : s.takeLive.sys = s.sys := by simp [State.takeLive]
@[simp] theorem State.houseSample_lock : s.houseSample.sys.lock = s.sys.lock := by simp [State.houseSample]
@[simp] theorem State.epochAverages_sys : s.epochAverages.sys = s.sys := by simp [State.epochAverages]
@[simp] theorem State.railSummaries_sys (n : Nat) : (s.railSummaries n).sys = s.sys := by simp [State.railSummaries]
@[simp] theorem State.specSummary_sys : s.specSummary.sys = s.sys := by simp [State.specSummary]
@[simp] theorem State.swSummary_sys (n : Nat) : (s.swSummary n).sys = s.sys := by simp [State.swSummary]
@[simp] theorem State.otherSummaries_sys : s.otherSummaries.sys = s.sys := by simp [State.otherSummaries]
@[simp] theorem State.holdEpoch_sys : s.holdEpoch.sys = s.sys := by
  refine sys_ite rfl (sys_ite ?_ rfl)
  split <;> simp

/-! ### Safe floor: what it does to the units -/

@[simp] theorem State.floorEnds_sys (n : Nat) : (s.floorEnds n).sys = s.sys := by
  cases h : (s.rail n).onSlot <;> cases k : (s.rail n).setSlot <;> simp [State.floorEnds, h, k]
@[simp] theorem State.floorRailAt_sys (n : Nat) : (s.floorRailAt n).sys = s.sys := by simp [State.floorRailAt]
@[simp] theorem State.floorSwAt_sys (n : Nat) : (s.floorSwAt n).sys = s.sys := by simp [State.floorSwAt]
@[simp] theorem State.capStop_sys : s.capStop.sys = s.sys := by simp [State.capStop]
@[simp] theorem State.floorSeq_sys : s.floorSeq.sys = s.sys := by simp [State.floorSeq]
@[simp] theorem State.floorPath_sys : s.floorPath.sys = s.sys := by simp [State.floorPath]
@[simp] theorem State.floorLists_sys : s.floorLists.sys = s.sys := by simp [State.floorLists]
@[simp] theorem State.floorUnits_sys : s.floorUnits.sys = s.sys := by simp [State.floorUnits]
@[simp] theorem State.floorWork_sys : s.floorWork.sys = s.sys := by simp [State.floorWork]
@[simp] theorem State.floorLeave_sys : s.floorLeave.sys = s.sys := by simp [State.floorLeave]

/-! ### Tandem pair -/

@[simp] theorem State.tdmTo_sys (st : TState) (cause : Nat) : (s.tdmTo st cause).sys = s.sys := by simp [State.tdmTo]
@[simp] theorem State.shadowEnd_sys : s.shadowEnd.sys = s.sys := by simp [State.shadowEnd]
@[simp] theorem State.misRecord_sys (outcome : Nat) : (s.misRecord outcome).sys = s.sys := by simp [State.misRecord]
@[simp] theorem State.forgetSlots_lock : s.forgetSlots.sys.lock = s.sys.lock := by simp [State.forgetSlots]
@[simp] theorem State.outputsOff_sys : s.outputsOff.sys = s.sys := by simp [State.outputsOff]
@[simp] theorem State.standDown_lock : s.standDown.sys.lock = s.sys.lock := by simp [State.standDown]
@[simp] theorem State.faulty_lock (cause : Nat) : (s.faulty cause).sys.lock = s.sys.lock := by simp [State.faulty]
@[simp] theorem State.startJoin_sys : s.startJoin.sys = s.sys := by simp [State.startJoin]
@[simp] theorem State.yieldNow_lock : s.yieldNow.sys.lock = s.sys.lock := by simp [State.yieldNow]
@[simp] theorem State.blockFrame_lock : s.blockFrame.sys.lock = s.sys.lock := by simp [State.blockFrame]
@[simp] theorem State.stbyFrame_sys : s.stbyFrame.sys = s.sys := by
  refine sys_ite ?_ (by simp)
  dsimp only
  split <;> simp
@[simp] theorem State.install_sys (c : Carried) (mask : BitVec 16) : (s.install c mask).sys = s.sys := by
  simp [State.install]
@[simp] theorem State.blockTags_sys (b : StateBlock) : (s.blockTags b).sys = s.sys := by simp [State.blockTags]
@[simp] theorem State.blockCqs_sys (b : StateBlock) : (s.blockCqs b).sys = s.sys := by
  unfold State.blockCqs
  apply foldl_sys; simp
@[simp] theorem State.recompute_sys (prev : Option Sample) (b : StateBlock) : (s.recompute prev b).sys = s.sys := by
  unfold State.recompute; split <;> simp
@[simp] theorem State.unequal_lock (b : StateBlock) (mask : BitVec 16) : (s.unequal b mask).sys.lock = s.sys.lock := by
  simp [State.unequal]
@[simp] theorem State.equal_sys : s.equal.sys = s.sys := by simp [State.equal]
@[simp] theorem State.compare_lock (b : StateBlock) : (s.compare b).sys.lock = s.sys.lock := by simp [State.compare]
@[simp] theorem State.blockData_sys (b : StateBlock) : (s.blockData b).sys = s.sys := by
  unfold State.blockData
  dsimp only
  split <;> simp
@[simp] theorem State.blockIn_lock (b : StateBlock) : (s.blockIn b).sys.lock = s.sys.lock := by simp [State.blockIn]
@[simp] theorem State.stbyFaults_sys (b : StatusBlock) : (s.stbyFaults b).sys = s.sys := by
  cases h : b.phaseFault <;> cases k : b.swTrip <;> simp [State.stbyFaults, h, k]
@[simp] theorem State.linkLoss_lock (cause lane : Nat) : (s.linkLoss cause lane).sys.lock = s.sys.lock := by
  unfold State.linkLoss
  dsimp only
  split <;> simp
@[simp] theorem State.takeRings_sys (b : StateBlock) : (s.takeRings b).sys = s.sys := by
  unfold State.takeRings
  apply each_sys; simp
@[simp] theorem State.takeRail_sys (n : Nat) : (s.takeRail n).sys = s.sys := by simp [State.takeRail]
@[simp] theorem State.takeSw_sys (b : StateBlock) (n : Nat) : (s.takeSw b n).sys = s.sys := by simp [State.takeSw]
@[simp] theorem State.drillEnd_sys (outcome : Nat) : (s.drillEnd outcome).sys = s.sys := by simp [State.drillEnd]
@[simp] theorem State.drillTake_sys (yieldCause : Nat) : (s.drillTake yieldCause).sys = s.sys := by simp [State.drillTake]
@[simp] theorem State.joinRecordOut_sys (outcome : Nat) : (s.joinRecordOut outcome).sys = s.sys := by
  simp [State.joinRecordOut]
@[simp] theorem State.keptDoorbells_sys : s.keptDoorbells.sys = s.sys := by simp [State.keptDoorbells]
@[simp] theorem State.tdmBegin_lock : s.tdmBegin.sys.lock = s.sys.lock := by simp [State.tdmBegin]
@[simp] theorem State.drillFrame_sys : s.drillFrame.sys = s.sys := by simp [State.drillFrame]

/-! ### Safe floor and what leads to it -/

@[simp] theorem State.floorRest_sys : s.floorRest.sys = s.sys := by simp [State.floorRest]
@[simp] theorem State.linkBack_sys : s.linkBack.sys = s.sys := by simp [State.linkBack]
@[simp] theorem State.thirdOverrun_sys (e first : Nat) : (s.thirdOverrun e first).sys = s.sys := by
  simp [State.thirdOverrun]
@[simp] theorem State.overrun_sys (e slice cycles : Nat) (dbl : Bool) : (s.overrun e slice cycles dbl).sys = s.sys := by
  refine sys_ite ?_ rfl
  dsimp only
  split <;> simp

/-! ### Reference clock -/

@[simp] theorem State.xtalEpoch_sys : s.xtalEpoch.sys = s.sys := by simp [State.xtalEpoch]

/-! ### Resets and supplies' loss -/

@[simp] theorem State.crossFlush_lock : s.crossFlush.sys.lock = s.sys.lock := by simp [State.crossFlush]
@[simp] theorem State.endpointClear_sys : s.endpointClear.sys = s.sys := by simp [State.endpointClear]

/-! ### Boot, readiness, locks, hibernate -/

@[simp] theorem State.bankReject_sys (b : Nat) (bytes : List Byte) : (s.bankReject b bytes).sys = s.sys := by
  simp [State.bankReject]
@[simp] theorem State.bankTries_sys : s.bankTries.sys = s.sys := by simp [State.bankTries]
@[simp] theorem State.slotReject_sys (slot : Nat) (im : List Byte) : (s.slotReject slot im).sys = s.sys := by
  unfold State.slotReject; split <;> simp
@[simp] theorem State.tdmSettle_sys : s.tdmSettle.sys = s.sys := by simp [State.tdmSettle]
@[simp] theorem State.bringUp_lock (f : Nat) : (s.bringUp f).sys.lock = s.sys.lock := by
  unfold State.bringUp
  split
  · simp
  · simp
  · split
    · simp
    · dsimp only; split <;> simp
  · rfl
  · simp
  · rfl
@[simp] theorem State.hibernateOp_lock (k : Nat) : (s.hibernateOp k).sys.lock = s.sys.lock := by
  unfold State.hibernateOp; split <;> simp
@[simp] theorem State.wakeUp_lock (src ns : Nat) : (s.wakeUp src ns).sys.lock = s.sys.lock := by simp [State.wakeUp]

/-! ### Register writes -/

@[simp] theorem State.putReg_lock (off w : Nat) : (s.putReg off w).sys.lock = s.sys.lock := by simp [State.putReg]
@[simp] theorem State.putRing_lock (off w : Nat) : (s.putRing off w).sys.lock = s.sys.lock := by simp [State.putRing]
@[simp] theorem State.putTest_lock (off w : Nat) : (s.putTest off w).sys.lock = s.sys.lock := by simp [State.putTest]
@[simp] theorem State.putMsix_sys (a : Nat) (w : Word) : (s.putMsix a w).sys = s.sys := by
  unfold State.putMsix; split <;> simp
@[simp] theorem State.putAny_lock (off : Nat) (w : Word) : (s.putAny off w).sys.lock = s.sys.lock := by simp [State.putAny]

/-! ### Frame and epoch boundary -/

@[simp] theorem State.frameEnd_lock : s.frameEnd.sys.lock = s.sys.lock := by simp [State.frameEnd]
@[simp] theorem State.openFrame_lock : s.openFrame.sys.lock = s.sys.lock := by simp [State.openFrame]
@[simp] theorem State.domains_lock : s.domains.sys.lock = s.sys.lock := by simp [State.domains]
@[simp] theorem State.liveTighten_sys (old : State) : (s.liveTighten old).sys = s.sys := by simp [State.liveTighten]
@[simp] theorem State.regsLive_sys : s.regsLive.sys = s.sys := by simp [State.regsLive]
@[simp] theorem State.frameOpen_lock : s.frameOpen.sys.lock = s.sys.lock := by simp [State.frameOpen]
@[simp] theorem State.frameSteps_sys : s.frameSteps.sys = s.sys := by simp [State.frameSteps]
@[simp] theorem State.eightMissed_sys : s.eightMissed.sys = s.sys := by simp [State.eightMissed]
@[simp] theorem State.drillEpoch_sys : s.drillEpoch.sys = s.sys := by simp [State.drillEpoch]
@[simp] theorem State.digestEpoch_lock : s.digestEpoch.sys.lock = s.sys.lock := by simp [State.digestEpoch]
@[simp] theorem State.epochControl_sys : s.epochControl.sys = s.sys := by simp [State.epochControl]
@[simp] theorem State.epochSummaries_sys : s.epochSummaries.sys = s.sys := by simp [State.epochSummaries]
@[simp] theorem State.epochWork_lock : s.epochWork.sys.lock = s.sys.lock := by simp [State.epochWork]

end

end Sys2Proof.Machine
end

section
/-! SETUP_LOCK (R138): once set it stands through every row but the resets and the hand-off of hibernate. One lemma says
so of each row, from what the operations leave of `sys`; the obligation is their case split. -/

namespace Sys2Proof.Machine

open Sys2Proof.Claims

/-- Whatever next state the outcome answers has SETUP_LOCK set. -/
def KeepsLock (o : Host.Outcome State Fault Refusal) : Prop :=
  ∀ t, o = .next t → t.sys.lock = true

@[simp] theorem keepsLock_next (t : State) : KeepsLock (.next t) ↔ t.sys.lock = true := by simp [KeepsLock]
@[simp] theorem keepsLock_ite (c : Prop) [Decidable c] (a b : Host.Outcome State Fault Refusal) :
    KeepsLock (if c then a else b) ↔ if c then KeepsLock a else KeepsLock b := by split <;> rfl

theorem KeepsLock.next {t : State} (h : t.sys.lock = true) : KeepsLock (.next t) := (keepsLock_next t).2 h
theorem KeepsLock.ite {c : Prop} [Decidable c] {a b : Host.Outcome State Fault Refusal} (ha : KeepsLock a)
    (hb : KeepsLock b) : KeepsLock (if c then a else b) := by split <;> assumption

@[simp] theorem State.lockUp_lock (s : State) (source : Nat) : (s.lockUp source).sys.lock = true := by
  unfold State.lockUp
  split
  · assumption
  · simp

section
variable {s : State} (hlock : s.sys.lock = true)
include hlock

/-- A write of GLB_CTRL sets the lock bit or leaves it. -/
theorem State.ctrlWrite_lock (w : Word) : (s.ctrlWrite w).sys.lock = true := by
  simp [State.ctrlWrite, State.lockUp, hlock]

/-! ### Switch channels -/

@[simp] theorem execRampComplete_keepsLock (ch : Nat) : KeepsLock (execRampComplete ch s) := by
  simp [execRampComplete, hlock]
@[simp] theorem execRampTimeout_keepsLock (ch : Nat) : KeepsLock (execRampTimeout ch s) := by simp [execRampTimeout, hlock]
@[simp] theorem execSwitchShort_keepsLock (ch : Nat) (ma : Int) (t : Nat) : KeepsLock (execSwitchShort ch ma t s) := by
  simp [execSwitchShort, hlock]
@[simp] theorem execSwFaultTimerExpiry_keepsLock (ch : Nat) : KeepsLock (execSwFaultTimerExpiry ch s) := by
  simp [execSwFaultTimerExpiry, hlock]
@[simp] theorem execSwPumpTrip_keepsLock (ch : Nat) : KeepsLock (execSwPumpTrip ch s) := by simp [execSwPumpTrip, hlock]
@[simp] theorem execBrakeI2tTrip_keepsLock (ch : Nat) : KeepsLock (execBrakeI2tTrip ch s) := by
  simp [execBrakeI2tTrip, hlock]
@[simp] theorem execSwRetry_keepsLock (ch : Nat) : KeepsLock (execSwRetry ch s) := by simp [execSwRetry, hlock]
@[simp] theorem execSwRetryCountReset_keepsLock (ch : Nat) : KeepsLock (execSwRetryCountReset ch s) := by
  simp [execSwRetryCountReset, hlock]
@[simp] theorem execSeatQualified_keepsLock (ch : Nat) : KeepsLock (execSeatQualified ch s) := by
  simp [execSeatQualified, hlock]
@[simp] theorem execSeatLoss_keepsLock (ch : Nat) : KeepsLock (execSeatLoss ch s) := by simp [execSeatLoss, hlock]
@[simp] theorem execSwOn_keepsLock (slot : Nat) : KeepsLock (execSwOn slot s) := by simp [execSwOn, hlock]
@[simp] theorem execSwOff_keepsLock (slot : Nat) : KeepsLock (execSwOff slot s) := by simp [execSwOff, hlock]
@[simp] theorem execSwClear_keepsLock (slot : Nat) : KeepsLock (execSwClear slot s) := by simp [execSwClear, hlock]

/-! ### Caps, temperature, compensation -/

@[simp] theorem execCapReduce_keepsLock : KeepsLock (execCapReduce s) := by simp [execCapReduce, hlock]
@[simp] theorem execCapRaise_keepsLock : KeepsLock (execCapRaise s) := by simp [execCapRaise, hlock]
@[simp] theorem execCapSet_keepsLock (slot : Nat) : KeepsLock (execCapSet slot s) := by simp [execCapSet, hlock]
@[simp] theorem execTsenseFailed_keepsLock : KeepsLock (execTsenseFailed s) := by simp [execTsenseFailed, hlock]
@[simp] theorem execTsenseRecover_keepsLock : KeepsLock (execTsenseRecover s) := by simp [execTsenseRecover, hlock]

/-! ### Sequencer and its pins -/

@[simp] theorem execStepQualified_keepsLock : KeepsLock (execStepQualified s) := by simp [execStepQualified, hlock]
@[simp] theorem execStepTimeout_keepsLock : KeepsLock (execStepTimeout s) := by simp [execStepTimeout, hlock]
@[simp] theorem execSyncRelease_keepsLock : KeepsLock (execSyncRelease s) := by simp [execSyncRelease, hlock]
@[simp] theorem execSyncRefresh_keepsLock : KeepsLock (execSyncRefresh s) := by simp [execSyncRefresh, hlock]
@[simp] theorem execHoldSegmentEnd_keepsLock (lowUs : Nat) : KeepsLock (execHoldSegmentEnd lowUs s) := by
  simp [execHoldSegmentEnd, hlock]
@[simp] theorem execSyncAdvance_keepsLock : KeepsLock (execSyncAdvance s) := by simp [execSyncAdvance, hlock]
@[simp] theorem execSyncHome_keepsLock (lowUs : Nat) : KeepsLock (execSyncHome lowUs s) := by simp [execSyncHome, hlock]
@[simp] theorem execSyncInvalid_keepsLock (lowUs : Nat) : KeepsLock (execSyncInvalid lowUs s) := by
  simp [execSyncInvalid, hlock]
@[simp] theorem execSyncAbortBurst_keepsLock : KeepsLock (execSyncAbortBurst s) := by simp [execSyncAbortBurst, hlock]
@[simp] theorem execHomePulseEnd_keepsLock : KeepsLock (execHomePulseEnd s) := by simp [execHomePulseEnd, hlock]
@[simp] theorem execPgoodRelease_keepsLock : KeepsLock (execPgoodRelease s) := by simp [execPgoodRelease, hlock]
@[simp] theorem execMrNAssert_keepsLock : KeepsLock (execMrNAssert s) := by simp [execMrNAssert, hlock]
@[simp] theorem execMrNEnd_keepsLock : KeepsLock (execMrNEnd s) := by simp [execMrNEnd, hlock]
@[simp] theorem execPbPress_keepsLock (ms : Nat) : KeepsLock (execPbPress ms s) := by simp [execPbPress, hlock]
@[simp] theorem execLongPress_keepsLock (ms : Nat) : KeepsLock (execLongPress ms s) := by simp [execLongPress, hlock]
@[simp] theorem execResetPulseEnd_keepsLock (slot : Nat) : KeepsLock (execResetPulseEnd slot s) := by
  unfold execResetPulseEnd; split <;> simp [hlock]
@[simp] theorem execSeqRun_keepsLock (slot : Nat) : KeepsLock (execSeqRun slot s) := by simp [execSeqRun, hlock]
@[simp] theorem execSeqAbort_keepsLock (slot : Nat) : KeepsLock (execSeqAbort slot s) := by simp [execSeqAbort, hlock]
@[simp] theorem execSeqResetPulse_keepsLock (slot : Nat) : KeepsLock (execSeqResetPulse slot s) := by
  simp [execSeqResetPulse, hlock]
@[simp] theorem execSeqFaultAck_keepsLock (slot : Nat) : KeepsLock (execSeqFaultAck slot s) := by
  simp [execSeqFaultAck, hlock]

/-! ### Feed, battery, charging, search -/

@[simp] theorem execFeedLoss_keepsLock (cause feedMv t : Nat) : KeepsLock (execFeedLoss cause feedMv t s) := by
  simp [execFeedLoss, hlock]
@[simp] theorem execConverterBoost_keepsLock : KeepsLock (execConverterBoost s) := by simp [execConverterBoost, hlock]
@[simp] theorem execHandoverEnd_keepsLock : KeepsLock (execHandoverEnd s) := by simp [execHandoverEnd, hlock]
@[simp] theorem execFeedQualified_keepsLock : KeepsLock (execFeedQualified s) := by
  refine .ite ?_ (.next hlock)
  split <;> simp [hlock]
@[simp] theorem execHandbackEnd_keepsLock : KeepsLock (execHandbackEnd s) := by simp [execHandbackEnd, hlock]
@[simp] theorem execReserveReached_keepsLock : KeepsLock (execReserveReached s) := by simp [execReserveReached, hlock]
@[simp] theorem execBatCutoff_keepsLock : KeepsLock (execBatCutoff s) := by simp [execBatCutoff, hlock]
@[simp] theorem execBatPresent_keepsLock : KeepsLock (execBatPresent s) := by simp [execBatPresent, hlock]
@[simp] theorem execBatMissing_keepsLock : KeepsLock (execBatMissing s) := by simp [execBatMissing, hlock]
@[simp] theorem execPrechargeEnd_keepsLock (reached : Bool) : KeepsLock (execPrechargeEnd reached s) := by
  simp [execPrechargeEnd, hlock]
@[simp] theorem execDetectionPulseEnd_keepsLock : KeepsLock (execDetectionPulseEnd s) := by
  simp [execDetectionPulseEnd, hlock]
@[simp] theorem execPeriodicPulse_keepsLock : KeepsLock (execPeriodicPulse s) := by simp [execPeriodicPulse, hlock]
@[simp] theorem execChgForcedStop_keepsLock : KeepsLock (execChgForcedStop s) := by simp [execChgForcedStop, hlock]
@[simp] theorem execChgStart_keepsLock (slot : Nat) : KeepsLock (execChgStart slot s) := by simp [execChgStart, hlock]
@[simp] theorem execChgStop_keepsLock (slot : Nat) : KeepsLock (execChgStop slot s) := by simp [execChgStop, hlock]
@[simp] theorem execPathClear_keepsLock (slot : Nat) : KeepsLock (execPathClear slot s) := by simp [execPathClear, hlock]
@[simp] theorem execBatIsolate_keepsLock (slot : Nat) : KeepsLock (execBatIsolate slot s) := by simp [execBatIsolate, hlock]
@[simp] theorem execBatReconnect_keepsLock (slot : Nat) : KeepsLock (execBatReconnect slot s) := by
  simp [execBatReconnect, hlock]
@[simp] theorem execSearchDwellEnd_keepsLock (feedMv : Nat) (feedMa : Int) (lastMv : Nat) (convMa : Int) :
    KeepsLock (execSearchDwellEnd feedMv feedMa lastMv convMa s) := by simp [execSearchDwellEnd, hlock]
@[simp] theorem execSearchPeriod_keepsLock : KeepsLock (execSearchPeriod s) := by simp [execSearchPeriod, hlock]

/-! ### Battery gauge -/

@[simp] theorem execGaugeSample_keepsLock (ma : Int) : KeepsLock (execGaugeSample ma s) := by simp [execGaugeSample, hlock]
@[simp] theorem execEmptyConfirmed_keepsLock : KeepsLock (execEmptyConfirmed s) := by simp [execEmptyConfirmed, hlock]
@[simp] theorem execOcvCorrect_keepsLock : KeepsLock (execOcvCorrect s) := by simp [execOcvCorrect, hlock]
@[simp] theorem execSpectroStart_keepsLock : KeepsLock (execSpectroStart s) := by simp [execSpectroStart, hlock]
@[simp] theorem execSpectroResult_keepsLock (r x : Int) : KeepsLock (execSpectroResult r x s) := by
  refine .ite (.next ?_) (.next hlock)
  cases s.gauge.spSlot <;> simp [hlock]
@[simp] theorem execNvWrite_keepsLock (ok : Bool) : KeepsLock (execNvWrite ok s) := by
  unfold execNvWrite
  split
  · exact .next hlock
  · refine .next ?_
    dsimp only
    split <;> simp [hlock]
@[simp] theorem execNvWritePeriodic_keepsLock : KeepsLock (execNvWritePeriodic s) := by simp [execNvWritePeriodic, hlock]
@[simp] theorem execGaugeSetFull_keepsLock (slot : Nat) : KeepsLock (execGaugeSetFull slot s) := by
  simp [execGaugeSetFull, hlock]
@[simp] theorem execGaugeSave_keepsLock (slot : Nat) : KeepsLock (execGaugeSave slot s) := by simp [execGaugeSave, hlock]
@[simp] theorem execGaugeNewBattery_keepsLock (slot : Nat) : KeepsLock (execGaugeNewBattery slot s) := by
  simp [execGaugeNewBattery, hlock]
@[simp] theorem execGaugeSpectro_keepsLock (slot : Nat) : KeepsLock (execGaugeSpectro slot s) := by
  simp [execGaugeSpectro, hlock]

/-! ### Host interface -/

@[simp] theorem execSqDoorbell_keepsLock (ring : Nat) (v : Word) : KeepsLock (execSqDoorbell ring v s) := by
  simp [execSqDoorbell, hlock]
@[simp] theorem execCqDoorbell_keepsLock (ring : Nat) (v : Word) : KeepsLock (execCqDoorbell ring v s) := by
  simp [execCqDoorbell, hlock]
@[simp] theorem execDescriptorIntake_keepsLock (ring : Nat) (d : RawDesc) : KeepsLock (execDescriptorIntake ring d s) := by
  simp [execDescriptorIntake, hlock]
@[simp] theorem execDeadlineMissed_keepsLock (slot : Nat) : KeepsLock (execDeadlineMissed slot s) := by
  simp [execDeadlineMissed, hlock]
@[simp] theorem execCompletionWrite_keepsLock : KeepsLock (execCompletionWrite s) := by
  refine .ite ?_ (.next hlock)
  split <;> simp [hlock]
@[simp] theorem execCoalTimeout_keepsLock (ring : Nat) : KeepsLock (execCoalTimeout ring s) := by
  simp [execCoalTimeout, hlock]
@[simp] theorem execMsixUnmask_keepsLock (vec : Nat) : KeepsLock (execMsixUnmask vec s) := by simp [execMsixUnmask, hlock]
@[simp] theorem execBusMasterChange_keepsLock (bme d3 msix fmask : Bool) :
    KeepsLock (execBusMasterChange bme d3 msix fmask s) := by simp [execBusMasterChange, hlock]
@[simp] theorem execDmaReadFail_keepsLock (ring : Nat) (addr : Nat) : KeepsLock (execDmaReadFail ring addr s) := by
  simp [execDmaReadFail, hlock]
@[simp] theorem execRingEnable_keepsLock (ring : Nat) (w : Word) : KeepsLock (execRingEnable ring w s) := by
  simp [execRingEnable, hlock]
@[simp] theorem execRingCtrlReset_keepsLock (ring : Nat) : KeepsLock (execRingCtrlReset ring s) := by
  simp [execRingCtrlReset, hlock]
@[simp] theorem execDmaWindowWrite_keepsLock (off : Nat) (w : Word) : KeepsLock (execDmaWindowWrite off w s) := by
  simp [execDmaWindowWrite, hlock]
@[simp] theorem execBarAccessVoid_keepsLock (bar off size : Nat) (isWrite : Bool) :
    KeepsLock (execBarAccessVoid bar off size isWrite s) := by simp [execBarAccessVoid, hlock]

/-! ### Admin and firmware descriptors -/

@[simp] theorem execNop_keepsLock (slot : Nat) : KeepsLock (execNop slot s) := by simp [execNop, hlock]
@[simp] theorem execWallSet_keepsLock (slot : Nat) : KeepsLock (execWallSet slot s) := by simp [execWallSet, hlock]
@[simp] theorem execCfgWrite_keepsLock (slot : Nat) (image : List Byte) : KeepsLock (execCfgWrite slot image s) := by
  simp [execCfgWrite, hlock]
@[simp] theorem execCfgWriteComplete_keepsLock (ok : Bool) : KeepsLock (execCfgWriteComplete ok s) := by
  unfold execCfgWriteComplete; split <;> simp [hlock]
@[simp] theorem execFwWrite_keepsLock (slot : Nat) (bank : List Byte) : KeepsLock (execFwWrite slot bank s) := by
  simp [execFwWrite, hlock]
@[simp] theorem execFwWriteComplete_keepsLock : KeepsLock (execFwWriteComplete s) := by
  unfold execFwWriteComplete; split <;> simp [hlock]
@[simp] theorem execRollbackAdvance_keepsLock (w : Word) : KeepsLock (execRollbackAdvance w s) := by
  simp [execRollbackAdvance, hlock]
@[simp] theorem execRingCreate_keepsLock (slot : Nat) : KeepsLock (execRingCreate slot s) := by simp [execRingCreate, hlock]
@[simp] theorem execRingDelete_keepsLock (slot : Nat) : KeepsLock (execRingDelete slot s) := by simp [execRingDelete, hlock]
@[simp] theorem execResetRing_keepsLock (slot : Nat) : KeepsLock (execResetRing slot s) := by simp [execResetRing, hlock]
@[simp] theorem execDmaWindowSet_keepsLock (slot : Nat) : KeepsLock (execDmaWindowSet slot s) := by
  simp [execDmaWindowSet, hlock]
@[simp] theorem execBrakeTighten_keepsLock (slot : Nat) : KeepsLock (execBrakeTighten slot s) := by
  simp [execBrakeTighten, hlock]

/-! ### Rail regulation -/

@[simp] theorem execCurrentStreamWord_keepsLock (ch : StreamCh) (good : Bool) (value : Int) (tPs : Nat) :
    KeepsLock (execCurrentStreamWord ch good value tPs s) := by cases ch <;> simp [execCurrentStreamWord, hlock]
@[simp] theorem execOnTimeExpiry_keepsLock (phase tPs : Nat) : KeepsLock (execOnTimeExpiry phase tPs s) := by
  unfold execOnTimeExpiry
  dsimp only
  split <;> simp [hlock]
@[simp] theorem execFastErrorWord_keepsLock (rail : Nat) (uv : Int) (t : Nat) :
    KeepsLock (execFastErrorWord rail uv t s) := by simp [execFastErrorWord, hlock]
@[simp] theorem execReferenceUpdate_keepsLock (rail : Nat) : KeepsLock (execReferenceUpdate rail s) := by
  simp [execReferenceUpdate, hlock]
@[simp] theorem execPhaseShed_keepsLock (rail : Nat) : KeepsLock (execPhaseShed rail s) := by
  refine .ite ?_ (.next hlock)
  split <;> simp [hlock]
@[simp] theorem execRecallHoldEnd_keepsLock (rail : Nat) : KeepsLock (execRecallHoldEnd rail s) := by
  simp [execRecallHoldEnd, hlock]

/-! ### Rail commands and forecasts -/

@[simp] theorem execRailOn_keepsLock (slot : Nat) : KeepsLock (execRailOn slot s) := by simp [execRailOn, hlock]
@[simp] theorem execRailOff_keepsLock (slot : Nat) : KeepsLock (execRailOff slot s) := by simp [execRailOff, hlock]
@[simp] theorem execRailSetVoltage_keepsLock (slot : Nat) : KeepsLock (execRailSetVoltage slot s) := by
  simp [execRailSetVoltage, hlock]
@[simp] theorem execRailQuery_keepsLock (slot : Nat) : KeepsLock (execRailQuery slot s) := by simp [execRailQuery, hlock]
@[simp] theorem execPgmaskEnd_keepsLock (rail : Nat) : KeepsLock (execPgmaskEnd rail s) := by
  unfold execPgmaskEnd
  dsimp only
  split <;> simp [hlock]
@[simp] theorem execSpeculationStart_keepsLock (rail : Nat) (leader : Bool) :
    KeepsLock (execSpeculationStart rail leader s) := by simp [execSpeculationStart, hlock]
@[simp] theorem execBiasEnd_keepsLock (rail : Nat) (leader : Bool) : KeepsLock (execBiasEnd rail leader s) := by
  unfold execBiasEnd; split <;> simp [hlock]
@[simp] theorem execForecastRetire_keepsLock (rail : Nat) (leader : Bool) :
    KeepsLock (execForecastRetire rail leader s) := by unfold execForecastRetire; split <;> simp [hlock]
@[simp] theorem execForecastPost_keepsLock (slot : Nat) : KeepsLock (execForecastPost slot s) := by
  simp [execForecastPost, hlock]
@[simp] theorem execForecastCancel_keepsLock (slot : Nat) : KeepsLock (execForecastCancel slot s) := by
  simp [execForecastCancel, hlock]

/-! ### Rail protection -/

@[simp] theorem execRailFault_keepsLock (rail : Nat) : KeepsLock (execRailFault rail s) := by simp [execRailFault, hlock]
@[simp] theorem execSsShort_keepsLock (rail : Nat) : KeepsLock (execSsShort rail s) := by simp [execSsShort, hlock]
@[simp] theorem execPhaseLatch_keepsLock (phase : Nat) : KeepsLock (execPhaseLatch phase s) := by
  simp [execPhaseLatch, hlock]
@[simp] theorem execOvCrowbar_keepsLock (rail peakMv t : Nat) : KeepsLock (execOvCrowbar rail peakMv t s) := by
  simp [execOvCrowbar, hlock]
@[simp] theorem execCrowbarHoldEnd_keepsLock (rail : Nat) : KeepsLock (execCrowbarHoldEnd rail s) := by
  simp [execCrowbarHoldEnd, hlock]
@[simp] theorem execRailRetry_keepsLock (rail : Nat) : KeepsLock (execRailRetry rail s) := by simp [execRailRetry, hlock]
@[simp] theorem execRetryCountReset_keepsLock (rail : Nat) : KeepsLock (execRetryCountReset rail s) := by
  simp [execRetryCountReset, hlock]
@[simp] theorem execDischargeEnd_keepsLock (rail : Nat) : KeepsLock (execDischargeEnd rail s) := by
  simp [execDischargeEnd, hlock]
@[simp] theorem execDischargeTimeout_keepsLock (rail : Nat) : KeepsLock (execDischargeTimeout rail s) := by
  simp [execDischargeTimeout, hlock]
@[simp] theorem execRailClear_keepsLock (slot : Nat) : KeepsLock (execRailClear slot s) := by simp [execRailClear, hlock]

/-! ### Event recorder and trace -/

@[simp] theorem execTokenRefill_keepsLock (code : Nat) : KeepsLock (execTokenRefill code s) := by
  simp [execTokenRefill, hlock]
@[simp] theorem execFlashPageWrite_keepsLock : KeepsLock (execFlashPageWrite s) := by simp [execFlashPageWrite, hlock]
@[simp] theorem execPartialPageFlush_keepsLock : KeepsLock (execPartialPageFlush s) := by
  unfold execPartialPageFlush; split <;> simp [hlock]
@[simp] theorem execStagingFlushed_keepsLock : KeepsLock (execStagingFlushed s) := by simp [execStagingFlushed, hlock]
@[simp] theorem execRecCursorWrite_keepsLock (w : Word) : KeepsLock (execRecCursorWrite w s) := by
  simp [execRecCursorWrite, hlock]
@[simp] theorem execRecSnap_keepsLock : KeepsLock (execRecSnap s) := by simp [execRecSnap, hlock]
@[simp] theorem execWindowFetchDone_keepsLock : KeepsLock (execWindowFetchDone s) := by simp [execWindowFetchDone, hlock]
@[simp] theorem execRecRead_keepsLock (slot : Nat) : KeepsLock (execRecRead slot s) := by simp [execRecRead, hlock]
@[simp] theorem execTraceFreeze_keepsLock : KeepsLock (execTraceFreeze s) := by
  unfold execTraceFreeze; split <;> simp [hlock]
@[simp] theorem execEraseAheadComplete_keepsLock : KeepsLock (execEraseAheadComplete s) := by
  simp [execEraseAheadComplete, hlock]
@[simp] theorem execTraceWritten_keepsLock (ok : Bool) (ms : Nat) : KeepsLock (execTraceWritten ok ms s) := by
  unfold execTraceWritten; split <;> simp [hlock]
@[simp] theorem execRecTrigger_keepsLock (slot : Nat) : KeepsLock (execRecTrigger slot s) := by simp [execRecTrigger, hlock]
@[simp] theorem execRecTraceRead_keepsLock (slot : Nat) : KeepsLock (execRecTraceRead slot s) := by
  refine .next ?_
  rw [applyDesc_sys, hlock]
  intro d s
  dsimp only
  split <;> simp

/-! ### Maintenance -/

@[simp] theorem execMaintStart_keepsLock (slot : Nat) : KeepsLock (execMaintStart slot s) := by simp [execMaintStart, hlock]
@[simp] theorem execMaintStop_keepsLock (slot : Nat) : KeepsLock (execMaintStop slot s) := by simp [execMaintStop, hlock]
@[simp] theorem execSelftestChannel_keepsLock (result : SelfTest) : KeepsLock (execSelftestChannel result s) := by
  refine .ite ?_ (.next hlock)
  split
  · simp [hlock]
  · cases result <;> simp [hlock]
@[simp] theorem execAdcCalConverter_keepsLock (conv : Nat) (offset : Option Int) :
    KeepsLock (execAdcCalConverter conv offset s) := by cases offset <;> simp [execAdcCalConverter, hlock]
@[simp] theorem execLogCompactSector_keepsLock : KeepsLock (execLogCompactSector s) := by simp [execLogCompactSector, hlock]
@[simp] theorem execSafePoint_keepsLock : KeepsLock (execSafePoint s) := by simp [execSafePoint, hlock]
@[simp] theorem execSwapWaitExpiry_keepsLock : KeepsLock (execSwapWaitExpiry s) := by simp [execSwapWaitExpiry, hlock]
@[simp] theorem execDryrunStep_keepsLock : KeepsLock (execDryrunStep s) := by simp [execDryrunStep, hlock]
@[simp] theorem execTestUnlock_keepsLock (w : Word) : KeepsLock (execTestUnlock w s) := by simp [execTestUnlock, hlock]
@[simp] theorem execTestLock_keepsLock (w : Word) : KeepsLock (execTestLock w s) := by simp [execTestLock, hlock]
@[simp] theorem execBenchLow_keepsLock : KeepsLock (execBenchLow s) := by simp [execBenchLow, hlock]

/-! ### Status words and reads -/

@[simp] theorem execLoReadLatch_keepsLock (off : Nat) : KeepsLock (execLoReadLatch off s) := by
  unfold execLoReadLatch; split <;> simp [hlock]

/-! ### Waybill -/

@[simp] theorem execWaybillWrite_keepsLock : KeepsLock (execWaybillWrite s) := by
  unfold execWaybillWrite; split <;> simp [hlock]

/-! ### Drayline -/

@[simp] theorem execBeacon_keepsLock (h : DrayHdr) (prevSfd leaderState : Nat) (joined flags : BitVec 8) (stamp : Nat) :
    KeepsLock (execBeacon h prevSfd leaderState joined flags stamp s) := by simp [execBeacon, hlock]
@[simp] theorem execAlignLock_keepsLock : KeepsLock (execAlignLock s) := by simp [execAlignLock, hlock]
@[simp] theorem execHoldover_keepsLock : KeepsLock (execHoldover s) := by simp [execHoldover, hlock]
@[simp] theorem execCap_keepsLock (h : DrayHdr) (caps : List Nat) : KeepsLock (execCap h caps s) := by simp [execCap, hlock]
@[simp] theorem execForecast_keepsLock (h : DrayHdr) (t : Nat) (di : Int) (rise window rail : Nat) :
    KeepsLock (execForecast h t di rise window rail s) := by simp [execForecast, hlock]
@[simp] theorem execAck_keepsLock (h : DrayHdr) (entries : List (Nat × Nat)) : KeepsLock (execAck h entries s) := by
  simp [execAck, hlock]
@[simp] theorem execReport_keepsLock (h : DrayHdr) (p : DrayUp) : KeepsLock (execReport h p s) := by
  simp [execReport, hlock]
@[simp] theorem execStage_keepsLock (h : DrayHdr) (stage : Nat) (up : Option DrayUp) :
    KeepsLock (execStage h stage up s) := by cases up <;> simp [execStage, hlock]
@[simp] theorem execAlarm_keepsLock (h : DrayHdr) (p : DrayUp) : KeepsLock (execAlarm h p s) := by simp [execAlarm, hlock]
@[simp] theorem execNodeLoss_keepsLock (n : Nat) : KeepsLock (execNodeLoss n s) := by
  refine .ite (.next ?_) (.next hlock)
  rw [State.alarmRaise_sys, foldl_sys]
  · simp [hlock]
  · intro s q; split <;> simp
@[simp] theorem execIdConflictClear_keepsLock (n : Nat) : KeepsLock (execIdConflictClear n s) := by
  simp [execIdConflictClear, hlock]
@[simp] theorem execDrayUplinkLoss_keepsLock : KeepsLock (execDrayUplinkLoss s) := by simp [execDrayUplinkLoss, hlock]
@[simp] theorem execDrayCrcDiscard_keepsLock (port : Nat) : KeepsLock (execDrayCrcDiscard port s) := by
  simp [execDrayCrcDiscard, hlock]
@[simp] theorem execDrayTransmit_keepsLock (port sfd : Nat) : KeepsLock (execDrayTransmit port sfd s) := by
  simp [execDrayTransmit, hlock]
@[simp] theorem execDrayCap_keepsLock (slot : Nat) : KeepsLock (execDrayCap slot s) := by simp [execDrayCap, hlock]
@[simp] theorem execDrayForecast_keepsLock (slot : Nat) : KeepsLock (execDrayForecast slot s) := by
  simp [execDrayForecast, hlock]
@[simp] theorem execDrayStage_keepsLock (slot : Nat) : KeepsLock (execDrayStage slot s) := by simp [execDrayStage, hlock]

/-! ### Tandem pair -/

@[simp] theorem execStateBlockReceived_keepsLock (b : StateBlock) : KeepsLock (execStateBlockReceived b s) := by
  simp [execStateBlockReceived, hlock]
@[simp] theorem execStatusBlockReceived_keepsLock (b : StatusBlock) : KeepsLock (execStatusBlockReceived b s) := by
  simp [execStatusBlockReceived, hlock]
@[simp] theorem execTdmLinkDown_keepsLock (cause lane : Nat) : KeepsLock (execTdmLinkDown cause lane s) := by
  simp [execTdmLinkDown, hlock]
@[simp] theorem execBlockMissing_keepsLock (crc : Bool) : KeepsLock (execBlockMissing crc s) := by
  simp [execBlockMissing, hlock]
@[simp] theorem execTdmLinkUp_keepsLock (peerSideB : Bool) (peerState : Nat) :
    KeepsLock (execTdmLinkUp peerSideB peerState s) := by simp [execTdmLinkUp, hlock]
@[simp] theorem execSoloHoldEnd_keepsLock : KeepsLock (execSoloHoldEnd s) := by simp [execSoloHoldEnd, hlock]
@[simp] theorem execTakeover_keepsLock : KeepsLock (execTakeover s) := by unfold execTakeover; split <;> simp [hlock]
@[simp] theorem execOrphan_keepsLock : KeepsLock (execOrphan s) := by unfold execOrphan; split <;> simp [hlock]
@[simp] theorem execMismatchUnresolved_keepsLock : KeepsLock (execMismatchUnresolved s) := by
  simp [execMismatchUnresolved, hlock]
@[simp] theorem execTdmJoin_keepsLock : KeepsLock (execTdmJoin s) := by simp [execTdmJoin, hlock]
@[simp] theorem execJoinTimeout_keepsLock : KeepsLock (execJoinTimeout s) := by simp [execJoinTimeout, hlock]
@[simp] theorem execAutoJoin_keepsLock : KeepsLock (execAutoJoin s) := by unfold execAutoJoin; split <;> simp [hlock]
@[simp] theorem execDrillHoldEnd_keepsLock : KeepsLock (execDrillHoldEnd s) := by simp [execDrillHoldEnd, hlock]
@[simp] theorem execTdmPromote_keepsLock (w : Word) : KeepsLock (execTdmPromote w s) := by simp [execTdmPromote, hlock]
@[simp] theorem execTdmRetire_keepsLock (slot : Nat) : KeepsLock (execTdmRetire slot s) := by simp [execTdmRetire, hlock]
@[simp] theorem execTdmRejoin_keepsLock (slot : Nat) : KeepsLock (execTdmRejoin slot s) := by simp [execTdmRejoin, hlock]

/-! ### Safe floor and what leads to it -/

@[simp] theorem execFloorEnter_keepsLock : KeepsLock (execFloorEnter s) := by
  refine .ite (.next ?_) (.next hlock)
  simp only [State.floorRest_sys, State.supervise_sys, State.maintFailAll_sys, State.floorWork_sys]
  split <;> simp [hlock]
@[simp] theorem execFloorExit_keepsLock : KeepsLock (execFloorExit s) := by simp [execFloorExit, hlock]
@[simp] theorem execExitFloor_keepsLock (slot : Nat) : KeepsLock (execExitFloor slot s) := by simp [execExitFloor, hlock]
@[simp] theorem execEngineReload_keepsLock (e : Nat) (ok : Bool) : KeepsLock (execEngineReload e ok s) := by
  simp [execEngineReload, hlock]
@[simp] theorem execHostLinkLoss_keepsLock : KeepsLock (execHostLinkLoss s) := by simp [execHostLinkLoss, hlock]
@[simp] theorem execFrameOverrun_keepsLock (e slice cycles : Nat) : KeepsLock (execFrameOverrun e slice cycles s) := by
  simp [execFrameOverrun, hlock]
@[simp] theorem execBackgroundOverrun_keepsLock (e cycles : Nat) : KeepsLock (execBackgroundOverrun e cycles s) := by
  simp [execBackgroundOverrun, hlock]
@[simp] theorem execSingleBitError_keepsLock : KeepsLock (execSingleBitError s) := by simp [execSingleBitError, hlock]
@[simp] theorem execDoubleBitError_keepsLock (region : SramRegion) : KeepsLock (execDoubleBitError region s) := by
  refine .ite ?_ (.next hlock)
  cases region <;> simp [hlock]
@[simp] theorem execScrubComplete_keepsLock (ok : Bool) : KeepsLock (execScrubComplete ok s) := by
  simp [execScrubComplete, hlock]

/-! ### Reference clock -/

@[simp] theorem execXtalFail_keepsLock (relockNs : Nat) : KeepsLock (execXtalFail relockNs s) := by
  simp [execXtalFail, hlock]
@[simp] theorem execXtalRestored_keepsLock : KeepsLock (execXtalRestored s) := by simp [execXtalRestored, hlock]
@[simp] theorem execDomainStall_keepsLock (dom ns off : Nat) : KeepsLock (execDomainStall dom ns off s) := by
  simp [execDomainStall, hlock]

/-! ### Resets and supplies' loss -/

@[simp] theorem execFieldMainReset_keepsLock : KeepsLock (execFieldMainReset s) := by simp [execFieldMainReset, hlock]
@[simp] theorem execPcieReset_keepsLock : KeepsLock (execPcieReset s) := by simp [execPcieReset, hlock]
@[simp] theorem execPcieLinkUp_keepsLock : KeepsLock (execPcieLinkUp s) := by simp [execPcieLinkUp, hlock]
@[simp] theorem execPcieConfigReady_keepsLock : KeepsLock (execPcieConfigReady s) := by simp [execPcieConfigReady, hlock]
@[simp] theorem execVaonLoss_keepsLock (mv : Nat) : KeepsLock (execVaonLoss mv s) := by simp [execVaonLoss, hlock]

/-! ### Boot, readiness, locks, hibernate -/

@[simp] theorem execAlwaysOnStart_keepsLock : KeepsLock (execAlwaysOnStart s) := by simp [execAlwaysOnStart, hlock]
@[simp] theorem execVaonRise_keepsLock : KeepsLock (execVaonRise s) := by simp [execVaonRise, hlock]
@[simp] theorem execV33Good_keepsLock : KeepsLock (execV33Good s) := by simp [execV33Good, hlock]
@[simp] theorem execStrapLatch_keepsLock (role1 role0 side : Bool) : KeepsLock (execStrapLatch role1 role0 side s) := by
  simp [execStrapLatch, hlock]
@[simp] theorem execV18Good_keepsLock : KeepsLock (execV18Good s) := by simp [execV18Good, hlock]
@[simp] theorem execCoreStartRetry_keepsLock (vcoreMv : Nat) : KeepsLock (execCoreStartRetry vcoreMv s) := by
  simp [execCoreStartRetry, hlock]
@[simp] theorem execBootStart_keepsLock (refSrc pageUs : Nat) (eraseSuspend : Bool) (t : Nat) :
    KeepsLock (execBootStart refSrc pageUs eraseSuspend t s) := by
  refine .ite ?_ (.next hlock)
  dsimp only
  split <;> simp [hlock]
@[simp] theorem execCfgImageLoad_keepsLock (bootUs : Nat) : KeepsLock (execCfgImageLoad bootUs s) := by
  refine .ite (.next ?_) (.next hlock)
  simp only [State.emitBoot_frame]
  split <;> simp [hlock]
@[simp] theorem execFunctionReady_keepsLock (f : Nat) : KeepsLock (execFunctionReady f s) := by
  simp [execFunctionReady, hlock]
@[simp] theorem execFuncFail_keepsLock (f cause : Nat) : KeepsLock (execFuncFail f cause s) := by simp [execFuncFail, hlock]
@[simp] theorem execAutoProgStart_keepsLock : KeepsLock (execAutoProgStart s) := by simp [execAutoProgStart, hlock]
@[simp] theorem execAutolock_keepsLock : KeepsLock (execAutolock s) := by unfold execAutolock; split <;> simp [hlock]
@[simp] theorem execNohostLock_keepsLock : KeepsLock (execNohostLock s) := by simp [execNohostLock, hlock]
@[simp] theorem execHibernate_keepsLock (slot : Nat) : KeepsLock (execHibernate slot s) := by simp [execHibernate, hlock]
@[simp] theorem execHibH1_keepsLock : KeepsLock (execHibH1 s) := by
  refine .ite ?_ (.next hlock)
  split <;> simp [hlock]
@[simp] theorem execWakePin_keepsLock (ns : Nat) : KeepsLock (execWakePin ns s) := by
  cases h : s.sys.hib <;> simp [execWakePin, h, hlock]
@[simp] theorem execCurrentWakeSample_keepsLock (ma : Int) (ns : Nat) : KeepsLock (execCurrentWakeSample ma ns s) := by
  simp [execCurrentWakeSample, hlock]

/-! ### Register writes -/

@[simp] theorem execRegisterWrite_keepsLock (off : Nat) (w : Word) : KeepsLock (execRegisterWrite off w s) := by
  simp [execRegisterWrite, hlock]
@[simp] theorem execFieldForward_keepsLock : KeepsLock (execFieldForward s) := by simp [execFieldForward, hlock]
@[simp] theorem execFieldBridgeFlushClear_keepsLock : KeepsLock (execFieldBridgeFlushClear s) := by
  simp [execFieldBridgeFlushClear, hlock]
@[simp] theorem execHifEventClear_keepsLock (w : Word) : KeepsLock (execHifEventClear w s) := by
  simp [execHifEventClear, hlock]
@[simp] theorem execSetupLock_keepsLock : KeepsLock (execSetupLock s) := by simp [execSetupLock, hlock]
@[simp] theorem execWarmResetRequest_keepsLock (w : Word) : KeepsLock (execWarmResetRequest w s) := by
  simp [execWarmResetRequest, State.ctrlWrite_lock, hlock]
@[simp] theorem execColdResetRequest_keepsLock (w : Word) : KeepsLock (execColdResetRequest w s) := by
  simp [execColdResetRequest, State.ctrlWrite_lock, hlock]

/-! ### Frame and epoch boundary -/

@[simp] theorem execFrameBoundary_keepsLock (x : Sample) : KeepsLock (execFrameBoundary x s) := by
  simp [execFrameBoundary, hlock]
@[simp] theorem execSampleMissed_keepsLock : KeepsLock (execSampleMissed s) := by simp [execSampleMissed, hlock]
@[simp] theorem execOutputMissed_keepsLock : KeepsLock (execOutputMissed s) := by simp [execOutputMissed, hlock]
@[simp] theorem execEpochBoundary_keepsLock : KeepsLock (execEpochBoundary s) := by simp [execEpochBoundary, hlock]

/-- R138, over the commands: every row but the three that clear SETUP_LOCK keeps it. -/
theorem exec_keepsLock (c : Instr) :
    KeepsLock (exec c s) ∨ c = .warmReset ∨ (∃ n, c = .coldReset n) ∨ c = .hibHandoff := by
  cases c with
  | warmReset => exact .inr (.inl rfl)
  | coldReset n => exact .inr (.inr (.inl ⟨n, rfl⟩))
  | hibHandoff => exact .inr (.inr (.inr rfl))
  | _ => exact .inl (by simp [exec, hlock])

end

/-- R138: with the link up the write answers the locked state. -/
theorem goes_setupLock {s : State} (hlink : s.sys.linkUp = true) : Goes .setupLock s (s.lockUp 0) := by
  show execSetupLock s = _
  simp [execSetupLock, hlink]

/-- Settles O10: the write locks the state, and every row but a reset or the hand-off keeps the lock. -/
theorem setupLockStands : Obligations.SetupLockStands := by
  refine ⟨fun s hlink => ⟨_, goes_setupLock hlink, s.lockUp_lock 0⟩, fun c s t hgoes hlock => ?_⟩
  exact (exec_keepsLock hlock c).imp_left fun hkeeps => hkeeps t hgoes

/-- A booted device with the link up. -/
def linkedBoot : State := { State.reset with sys.supply := .boot, sys.linkUp := true }

/-- The hypotheses are met: on a booted device the write locks, and the reset of the link that follows leaves the lock. -/
theorem setupLockStands_pcieReset :
    ∃ t u, Goes .setupLock linkedBoot t ∧ Goes .pcieReset t u ∧ u.sys.lock = true := by
  have hlock : (linkedBoot.lockUp 0).sys.lock = true := linkedBoot.lockUp_lock 0
  have hboot : (linkedBoot.lockUp 0).sys.supply = .boot := by simp [State.lockUp, linkedBoot, State.reset]
  obtain ⟨u, hu⟩ : ∃ u, Goes .pcieReset (linkedBoot.lockUp 0) u := by
    show ∃ u, execPcieReset _ = .next u
    rw [execPcieReset, if_pos hboot]
    exact ⟨_, rfl⟩
  exact ⟨_, u, goes_setupLock rfl, hu, by simpa using setupLockStands.2 _ _ _ hu hlock⟩

end Sys2Proof.Machine
end

section
/-! CAP_SET (R264, R266): the host cap is the command's only change of the capping state. The shared operations' frames
come first, each as one equation on the whole state. -/

namespace Sys2Proof.Machine

open Sys2Proof.Claims

theorem State.emit_eq (s : State) (code src : Nat) (ps : List Nat) :
    s.emit code src ps = { s with rcd := (s.emit code src ps).rcd } := by
  have hframe := State.emit_frame s code src ps
  generalize s.emit code src ps = t at hframe ⊢
  cases t
  simpa [and_assoc] using hframe

theorem State.complete_eq (s : State) (k status result : Nat) :
    s.complete k status result = { s with hif := (s.complete k status result).hif } := by
  have hframe := State.complete_frame s k status result
  generalize s.complete k status result = t at hframe ⊢
  cases t
  simp_all

theorem State.reject_eq (s : State) (k status result : Nat) :
    s.reject k status result = { s with hif := (s.reject k status result).hif, rcd := (s.reject k status result).rcd } := by
  have hframe := State.reject_frame s k status result
  generalize s.reject k status result = t at hframe ⊢
  cases t
  simp_all

/-! ### A change of the host cap -/

section
variable (s : State) (mw : Nat)

/-- R266: a cap that stays as it is makes no record. -/
theorem State.changeCap_host_self (h : s.cap.host = mw) : s.changeCap false mw = { s with cap.host := mw } := by
  simp [State.changeCap, h]

theorem State.changeCap_host_rcd (h : s.cap.host = mw) : (s.changeCap false mw).rcd = s.rcd := by
  rw [s.changeCap_host_self mw h]

theorem State.changeCap_host_of_ne (h : s.cap.host ≠ mw) :
    s.changeCap false mw = ({ s with cap.host := mw } : State).emit 0x0F01 13
      [0, s.cap.host, mw, ({ s with cap.host := mw } : State).pCap] := by
  simp [State.changeCap, h]

theorem State.changeCap_host_eq :
    s.changeCap false mw = { s with cap.host := mw, rcd := (s.changeCap false mw).rcd } := by
  by_cases h : s.cap.host = mw
  · rw [s.changeCap_host_self mw h]
  · rw [s.changeCap_host_of_ne mw h]
    exact State.emit_eq ..

theorem State.changeCap_host_hif : (s.changeCap false mw).hif = s.hif := by rw [s.changeCap_host_eq mw]
theorem State.changeCap_host_cap : (s.changeCap false mw).cap = { s.cap with host := mw } := by
  rw [s.changeCap_host_eq mw]

end

/-! ### The command -/

/-- P_cap is a function of the capping state. -/
theorem State.pCap_of_cap {s t : State} (h : t.cap = s.cap) : t.pCap = s.pCap := by simp only [State.pCap, h]

section
variable {s : State} {k : Nat} (hserved : Served s k 0x0801 (some fRAIL))
include hserved

/-- A served CAP_SET runs its own part: opcode 0x0801 names no span of host memory. -/
theorem exec_capSet_served :
    exec (.capSet k) s = .next (
      let mw := descField (s.tag k).desc 24 4
      if mw ≠ 0 ∧ mw < 100000 then s.reject k stBADPARAM 1
      else (s.changeCap false mw).complete k stDONE (s.changeCap false mw).pCap) := by
  show execCapSet k s = _
  rw [execCapSet, applyDesc_served s k 0x0801 _ _ hserved (fun _ _ _ hspan => by simp [hostSpan] at hspan)]

theorem goes_capSet_done {mw : Nat} (hmw : descField (s.tag k).desc 24 4 = mw) (hok : mw = 0 ∨ 100000 ≤ mw) :
    Goes (.capSet k) s ((s.changeCap false mw).complete k stDONE (s.changeCap false mw).pCap) := by
  have hno : ¬(mw ≠ 0 ∧ mw < 100000) := by omega
  rw [Goes, exec_capSet_served hserved]
  simp only [hmw, if_neg hno]

theorem goes_capSet_badParam (hne : descField (s.tag k).desc 24 4 ≠ 0) (hlow : descField (s.tag k).desc 24 4 < 100000) :
    Goes (.capSet k) s (s.reject k stBADPARAM 1) := by
  rw [Goes, exec_capSet_served hserved]
  exact congrArg _ (if_pos ⟨hne, hlow⟩)

end

/-- Settles O12: an accepted cap is put in force and the completion reports P_cap, which the completion itself leaves; a
rejected one reaches only the completion and the records. -/
theorem hostCap : Obligations.HostCap := by
  constructor
  · intro s k hserved mw hok
    have hhif := s.changeCap_host_hif mw
    have hcap : ((s.changeCap false mw).complete k stDONE (s.changeCap false mw).pCap).cap = (s.changeCap false mw).cap := by
      rw [State.complete_eq]
    refine ⟨_, goes_capSet_done hserved rfl hok, hcap.trans (s.changeCap_host_cap mw), ?_, complete_only' hhif .., ?_, ?_⟩
    · rw [State.pCap_of_cap hcap]
      exact served_ends' hserved hhif ..
    · intro hsame
      rw [State.complete_eq]
      exact s.changeCap_host_rcd mw hsame
    · rw [State.complete_eq, s.changeCap_host_eq mw]
  · intro s k hserved mw hne hlow
    exact ⟨_, goes_capSet_badParam hserved hne hlow, reject_ends hserved .., reject_only .., State.reject_eq ..⟩

/-! ### The hypotheses are met on both sides of 100,000 mW -/

/-- A number that fits `v` bits is itself in any wider word. -/
theorem toNat_ofNat_of_lt_two_pow {n v w : Nat} (hn : n < 2 ^ v) (hvw : v ≤ w) : (BitVec.ofNat w n).toNat = n :=
  (BitVec.toNat_ofNat ..).trans <| Nat.mod_eq_of_lt (hn.trans_le (Nat.pow_le_pow_right Nat.two_pos hvw))

/-- A CAP_SET descriptor whose other fields are 0. -/
def capSetDesc (mw : Nat) : RawDesc := BitVec.ofNat 512 (0x0801 + mw * 256 ^ 24)

/-- A booted device without a twin, with the rails' function ready, whose slot 0 holds a CAP_SET of `mw`. -/
def capSetHeld (mw : Nat) : State :=
  { State.reset with
    sys.supply := .boot, sys.booted := true, sys.ready := BitVec.ofNat _ (2 ^ fRAIL)
    tdm.st := .single
    hif.tags := [{ st := .held, desc := capSetDesc mw }] }

section
variable {mw : Nat} (hmw : mw < 2 ^ 32)
include hmw

theorem capSetDesc_toNat : (capSetDesc mw).toNat = 0x0801 + mw * 256 ^ 24 := by
  have hfits : 0x0801 + mw * 256 ^ 24 < 2 ^ 224 := by omega
  exact toNat_ofNat_of_lt_two_pow hfits (by omega)

theorem capSetDesc_cap : descField (capSetDesc mw) 24 4 = mw := by
  rw [descField, capSetDesc_toNat hmw]
  omega

theorem capSetDesc_opcode : descOpcode (capSetDesc mw) = 0x0801 := by
  rw [descOpcode, descField, capSetDesc_toNat hmw]
  omega

/-- It waits for nothing: no FENCE, NOT_BEFORE or DEADLINE. -/
theorem capSetHeld_due : (capSetHeld mw).tagDue 0 = true := by
  have hfence : descFence (capSetDesc mw) = false := by
    rw [descFence, descFlags, descField, capSetDesc_toNat hmw, beq_eq_false_iff_ne]
    omega
  have hbefore : descNotBefore (capSetDesc mw) = 0 := by
    rw [descNotBefore, descField, capSetDesc_toNat hmw]
    omega
  have hdeadline : descDeadline (capSetDesc mw) = 0 := by
    rw [descDeadline, descField, capSetDesc_toNat hmw]
    omega
  have htag : (capSetHeld mw).tag 0 = { st := .held, desc := capSetDesc mw } := rfl
  simp [State.tagDue, htag, hfence, hbefore, hdeadline]

theorem capSetHeld_served : Served (capSetHeld mw) 0 0x0801 (some fRAIL) := by
  have hready : (some fRAIL).all (capSetHeld mw).isReady = true := by simp [State.isReady, capSetHeld, fRAIL]
  exact ⟨Nat.one_pos, rfl, rfl, capSetDesc_opcode hmw, capSetHeld_due hmw, rfl, rfl, BitVec.getLsbD_zero, rfl, rfl, hready,
    .inr ⟨rfl, rfl⟩⟩

end

/-- The lowest cap is set; one milliwatt less is a bad parameter and leaves no cap. -/
theorem hostCap_boundary :
    (∃ t, Goes (.capSet 0) (capSetHeld 100000) t ∧ t.cap.host = 100000 ∧ Ends t 0 stDONE t.pCap) ∧
    (∃ t, Goes (.capSet 0) (capSetHeld 99999) t ∧ t.cap.host = 0 ∧ Ends t 0 stBADPARAM 1) := by
  have hset : descField ((capSetHeld 100000).tag 0).desc 24 4 = 100000 := capSetDesc_cap (by omega)
  have hlow : descField ((capSetHeld 99999).tag 0).desc 24 4 = 99999 := capSetDesc_cap (by omega)
  have hserved : ∀ mw < 2 ^ 32, Served (capSetHeld mw) 0 0x0801 (some fRAIL) := fun _ => capSetHeld_served
  constructor
  · obtain ⟨t, hgoes, hcap, hends, -⟩ := hostCap.1 (capSetHeld 100000) 0 (hserved _ (by omega)) (.inr hset.ge)
    exact ⟨t, hgoes, by rw [hcap]; exact hset, hends⟩
  · obtain ⟨t, hgoes, hends, -, hframe⟩ :=
      hostCap.2 (capSetHeld 99999) 0 (hserved _ (by omega)) (by rw [hlow]; omega) (by rw [hlow]; omega)
    exact ⟨t, hgoes, by rw [hframe]; rfl, hends⟩

end Sys2Proof.Machine
end

section
/-! Reading a SEQ of the log (R686): the record of flash or staging that bears it, or the GONE marker. -/

namespace Sys2Proof.Machine

open Sys2Proof.Claims

theorem State.recAt_of_held {s : State} {q : BitVec 32} {r : Record}
    (h : (s.rcd.log ++ s.rcd.staging).find? (·.seq = q) = some r) : s.recAt q = r := by
  rw [State.recAt, h]

theorem State.recAt_of_not_held {s : State} {q : BitVec 32}
    (h : (s.rcd.log ++ s.rcd.staging).find? (·.seq = q) = none) : s.recAt q = s.gone q := by
  rw [State.recAt, h]

/-- Settles O9: a SEQ that no record held bears reads as `State.gone`, whose fields are the marker's. -/
theorem goneMarker : Obligations.GoneMarker := by
  intro s q hnone
  have hgone : s.recAt q = s.gone q := State.recAt_of_not_held hnone
  rw [hgone, State.gone]

/-- A record of which only the SEQ matters. -/
def recordOfSeq (q : BitVec 32) : Record := { (default : Record) with seq := q }

/-- A log that has wrapped: SEQ 1,049,000 is the newest in flash and 4,480 the oldest held, with the records between them
torn. A reset then skipped 512 SEQs (R704), and the record after them is staged. -/
def wrappedLog : State :=
  { State.reset with
    rcd.log := [recordOfSeq 4480, recordOfSeq 1049000]
    rcd.staging := [recordOfSeq 1049513]
    rcd.oldest := 4480, rcd.any := true, rcd.next := 1049514 }

theorem wrappedLog_held :
    wrappedLog.rcd.log ++ wrappedLog.rcd.staging = [4480, 1049000, 1049513].map recordOfSeq := rfl

/-- The SEQ below the oldest and the first SEQ skipped read as the marker with the oldest SEQ; the oldest record in flash
and the staged one read as themselves. -/
theorem goneMarker_wrappedLog :
    (∀ q ∈ [4479#32, 1049001#32], wrappedLog.recAt q =
      { code := 0xFFFF, flags := 0, source := 0xFF, seq := q, time := 0, p0 := 4480, p1 := 0, p2 := 0, p3 := 0 }) ∧
    ∀ q ∈ [4480#32, 1049513#32], wrappedLog.recAt q = recordOfSeq q := by
  constructor
  · intro q hq
    have hnone : (wrappedLog.rcd.log ++ wrappedLog.rcd.staging).find? (·.seq = q) = none := by
      rw [wrappedLog_held]
      fin_cases hq <;> simp [recordOfSeq]
    exact goneMarker wrappedLog q hnone
  · intro q hq
    have hheld : (wrappedLog.rcd.log ++ wrappedLog.rcd.staging).find? (·.seq = q) = some (recordOfSeq q) := by
      rw [wrappedLog_held]
      fin_cases hq <;> simp [recordOfSeq]
    exact State.recAt_of_held hheld

end Sys2Proof.Machine
end

section
/-! A write that would leave a rail's VMIN above its VMAX (R733): the write refuses both fields, puts the register back at
the value a read of it returned, and records the attempt. In a canonical register list that leaves the list as it is. The
statement asks it of every list, and it fails where one lists a rail's limits twice, first at their reset value: putting
that value back drops the entry and bares the one behind it. -/

namespace Sys2Proof.Machine

open Sys2Proof.Claims

/-! ### The register list -/

theorem regLookup_head (v : Variant) (off : Nat) (w : Word) (rest : List (Nat × Word)) :
    regLookup v ((off, w) :: rest) off = w.toNat := if_pos rfl

/-- The tail of a canonical list is canonical, and its first offset lies above the head's. -/
theorem regWf_cons {v : Variant} {o : Nat} {x : Word} {rest : List (Nat × Word)} (hcanon : regWf v ((o, x) :: rest) = true) :
    x.toNat ≠ regReset v o ∧ (∀ e ∈ rest.head?, o < e.1) ∧ regWf v rest = true := by
  cases rest with
  | nil => simpa [regWf] using hcanon
  | cons e rest' => simpa [regWf, and_assoc] using hcanon

/-- Below the first offset a canonical list names, every register is at its reset value. -/
theorem regLookup_of_lt_head {v : Variant} {l : List (Nat × Word)} {off : Nat} (hcanon : regWf v l = true)
    (hlow : ∀ e ∈ l.head?, off < e.1) : regLookup v l off = regReset v off := by
  induction l with
  | nil => rfl
  | cons e rest ih =>
    obtain ⟨-, hrest, htail⟩ := regWf_cons hcanon
    rw [regLookup, if_neg (hlow e rfl).ne']
    exact ih htail fun x hx => (hlow e rfl).trans (hrest x hx)

theorem regLookup_lt {v : Variant} {off : Nat} (hreset : regReset v off < 2 ^ 32) (l : List (Nat × Word)) :
    regLookup v l off < 2 ^ 32 := by
  induction l with
  | nil => exact hreset
  | cons e rest ih =>
    rw [regLookup]
    split
    · exact e.2.isLt
    · exact ih

/-- Writing back the value read leaves a canonical list as it is. -/
theorem regInsert_regLookup {v : Variant} {l : List (Nat × Word)} {off : Nat} (hcanon : regWf v l = true)
    (hreset : regReset v off < 2 ^ 32) : regInsert v off (BitVec.ofNat 32 (regLookup v l off)) l = l := by
  have hword : (BitVec.ofNat 32 (regReset v off)).toNat = regReset v off := by
    rw [BitVec.toNat_ofNat, Nat.mod_eq_of_lt hreset]
  induction l with
  | nil => exact if_pos hword
  | cons e rest ih =>
    obtain ⟨o, x⟩ := e
    obtain ⟨hx, hrest, htail⟩ := regWf_cons hcanon
    rcases lt_trichotomy off o with hlt | rfl | hgt
    · have hread : regLookup v ((o, x) :: rest) off = regReset v off :=
        regLookup_of_lt_head hcanon fun _ he => Option.some.inj he ▸ hlt
      rw [hread, regInsert, if_pos hlt, if_pos hword]
    · have hread : BitVec.ofNat 32 (regLookup v ((off, x) :: rest) off) = x := by
        rw [regLookup_head, BitVec.ofNat_toNat, BitVec.setWidth_eq]
      rw [hread, regInsert, if_neg (lt_irrefl _), if_pos rfl, if_neg hx]
    · rw [regLookup, if_neg hgt.ne, regInsert, if_neg hgt.not_gt, if_neg hgt.ne', ih htail]

/-! ### The record does not depend on the field bridge -/

/-- The same state with set-up values waiting for the field bridge, or with none. -/
def State.withBridge (s : State) (b : Bool) : State := { s with sys.bridgePending := b }

section
variable (s : State) (b : Bool)

theorem State.admitRec_withBridge (r : Record) : (s.withBridge b).admitRec r = (s.admitRec r).withBridge b := by
  have hroom : (s.withBridge b).stagingRoom = s.stagingRoom := rfl
  unfold State.admitRec
  rw [hroom]
  show ite (s.rcd.staging.length < _) _ (ite (s.sys.vaonLost = true) _ _) = _
  split
  · rfl
  · split <;> rfl

theorem State.suppress_withBridge (code time : Nat) :
    (s.withBridge b).suppress code time = (s.suppress code time).withBridge b := rfl

theorem State.passGlobal_withBridge (r : Record) : (s.withBridge b).passGlobal r = (s.passGlobal r).withBridge b := by
  unfold State.passGlobal
  rw [apply_ite (State.withBridge · b), ← State.admitRec_withBridge]
  rfl

theorem State.passBuckets_withBridge (r : Record) : (s.withBridge b).passBuckets r = (s.passBuckets r).withBridge b := by
  unfold State.passBuckets
  simp only [apply_ite (State.withBridge · b), ← State.admitRec_withBridge, ← State.passGlobal_withBridge,
    ← State.suppress_withBridge]
  have hburst : (s.withBridge b).burst = s.burst := rfl
  rw [hburst]
  by_cases hnone : s.burst r.code = 0
  · simp only [if_pos hnone]
    rfl
  · simp only [if_neg hnone]
    rfl

theorem State.produce_withBridge (r : Record) : (s.withBridge b).produce r = (s.produce r).withBridge b := by
  unfold State.produce
  simp only [apply_ite (State.withBridge · b), ← State.passBuckets_withBridge]
  rfl

theorem State.traceTrigger_withBridge (kind code : Nat) (slots : List Nat) :
    (s.withBridge b).traceTrigger kind code slots = (s.traceTrigger kind code slots).withBridge b := by
  unfold State.traceTrigger
  simp only [apply_ite (State.withBridge · b), ← State.produce_withBridge]
  rfl

theorem State.occur_withBridge (r : Record) : (s.withBridge b).occur r = (s.occur r).withBridge b := by
  unfold State.occur
  rw [State.produce_withBridge, apply_ite (State.withBridge · b), ← State.traceTrigger_withBridge]
  rfl

theorem State.emit_withBridge (code src : Nat) (ps : List Nat) :
    (s.withBridge b).emit code src ps = (s.emit code src ps).withBridge b :=
  s.occur_withBridge b _

end

/-! ### A write that breaks a pair rule -/

/-- The fields that the lock alone refuses (R19). -/
def lockDenied (v : Variant) (lock : Bool) (off cur w : Nat) : List Fld :=
  (regFields v off).filter fun f => f.denied lock (cutField cur f.lo f.w) (cutField w f.lo f.w)

/-- The value at a place after the part of the write that the lock permits (R20). -/
def lockPermitted (v : Variant) (lock : Bool) (off cur w : Nat) (p : Nat × Nat) : Nat :=
  cutField (if (lockDenied v lock off cur w).any (·.lo == p.1) then cur else w) p.1 p.2

/-- Where the permitted part of a write breaks the register's pair rule, both fields of the pair are refused. -/
theorem mem_deniedFields_of_broken {v : Variant} {lock : Bool} {off cur w : Nat} {a b : Nat × Nat} {ok : Nat → Nat → Bool}
    {f : Fld} (hrule : pairRule off = some (a, b, ok))
    (hbroken : ok (lockPermitted v lock off cur w a) (lockPermitted v lock off cur w b) = false)
    (hf : f ∈ regFields v off) (hpair : f.lo = a.1 ∨ f.lo = b.1) : f ∈ deniedFields v lock off cur w := by
  have hdenied : deniedFields v lock off cur w = lockDenied v lock off cur w ++
      (regFields v off).filter fun f => (f.lo == a.1 || f.lo == b.1) && !(lockDenied v lock off cur w).contains f := by
    unfold deniedFields
    rw [hrule]
    exact if_neg (Bool.not_eq_true _ ▸ hbroken)
  by_cases hlock : f ∈ lockDenied v lock off cur w
  · simp [hdenied, hlock]
  · simp [hdenied, hlock, hf, hpair]

/-! ### A rail's limits -/

/-- The register of a rail's VMAX and VMIN (R749). -/
def railLimits (n : Nat) : Nat := 0xC100 + 16 * n

def vmaxField : Fld := ⟨0, 16, 0, [], .rtLow⟩
def vminField : Fld := ⟨16, 16, 0, [], .rtHigh⟩

/-- VMAX after the permitted part of a write: after SETUP_LOCK it can only fall (R20). -/
def permittedVmax (lock : Bool) (cur w : Nat) : Nat :=
  if lock then min (cutField cur 0 16) (cutField w 0 16) else cutField w 0 16

/-- VMIN after the permitted part of a write: after SETUP_LOCK it can only rise (R20). -/
def permittedVmin (lock : Bool) (cur w : Nat) : Nat :=
  if lock then max (cutField cur 16 16) (cutField w 16 16) else cutField w 16 16

section
variable {v : Variant} {n : Nat} (hn : n < v.rails)
include hn

theorem railLimits_bounds : 0xC100 ≤ railLimits n ∧ railLimits n < 0xC200 ∧ railLimits n % 16 = 0 := by
  have hrails : v.rails ≤ 16 := by cases v <;> decide
  unfold railLimits
  omega

theorem absentReg_railLimits : absentReg v (railLimits n) = false := by
  obtain ⟨hlo, hhi, -⟩ := railLimits_bounds hn
  rw [← Bool.not_eq_true]
  simp only [absentReg, Bool.or_eq_true, Bool.and_eq_true, decide_eq_true_eq]
  unfold railLimits at *
  omega

theorem regFields_railLimits : regFields v (railLimits n) = [vmaxField, vminField] := by
  obtain ⟨hlo, hhi, hmod⟩ := railLimits_bounds hn
  have hpresent : ¬(decide (railLimits n % 4 ≠ 0) || absentReg v (railLimits n)) = true := by
    rw [absentReg_railLimits hn, Bool.or_false, decide_eq_true_eq]
    omega
  rw [regFields, if_neg hpresent]
  simp (disch := omega) only [if_neg, if_pos, brakeFields]
  rfl

theorem pairRule_railLimits :
    pairRule (railLimits n) = some ((0, 16), (16, 16), fun vmax vmin => decide (vmin ≤ vmax)) :=
  if_pos (railLimits_bounds hn)

theorem regReset_railLimits : regReset v (railLimits n) = 0 := by
  rw [regReset, regFields_railLimits hn]
  rfl

theorem lockPermitted_vmax (lock : Bool) (cur w : Nat) :
    lockPermitted v lock (railLimits n) cur w (0, 16) = permittedVmax lock cur w := by
  have hdenied : (lockDenied v lock (railLimits n) cur w).any (·.lo == 0) =
      (lock && decide (cutField cur 0 16 < cutField w 0 16)) := by
    rw [lockDenied, regFields_railLimits hn, List.any_filter]
    simp [vmaxField, vminField, Fld.denied]
  rw [lockPermitted, hdenied, apply_ite (cutField · 0 16), permittedVmax]
  cases lock with
  | false => rfl
  | true => simp [min_def_lt]

theorem lockPermitted_vmin (lock : Bool) (cur w : Nat) :
    lockPermitted v lock (railLimits n) cur w (16, 16) = permittedVmin lock cur w := by
  have hdenied : (lockDenied v lock (railLimits n) cur w).any (·.lo == 16) =
      (lock && decide (cutField w 16 16 < cutField cur 16 16)) := by
    rw [lockDenied, regFields_railLimits hn, List.any_filter]
    simp [vmaxField, vminField, Fld.denied]
  rw [lockPermitted, hdenied, apply_ite (cutField · 16 16), permittedVmin]
  cases lock with
  | false => rfl
  | true => simp [max_comm (cutField cur 16 16), max_def_lt]

/-- R733: a write after which VMIN would lie above VMAX is refused both fields. -/
theorem railLimits_denied {lock : Bool} {cur w : Nat} (hcross : permittedVmax lock cur w < permittedVmin lock cur w) :
    vmaxField ∈ deniedFields v lock (railLimits n) cur w ∧ vminField ∈ deniedFields v lock (railLimits n) cur w := by
  have hbroken : decide (lockPermitted v lock (railLimits n) cur w (16, 16) ≤
      lockPermitted v lock (railLimits n) cur w (0, 16)) = false := by
    rw [lockPermitted_vmax hn, lockPermitted_vmin hn]
    exact decide_eq_false hcross.not_ge
  have hdenied {f : Fld} := mem_deniedFields_of_broken (f := f) (pairRule_railLimits hn) hbroken
  exact ⟨hdenied (by simp [regFields_railLimits hn]) (.inl rfl), hdenied (by simp [regFields_railLimits hn]) (.inr rfl)⟩

/-- With both fields refused the register keeps its 32 bits. -/
theorem judgedWord_railLimits {cur : Nat} (hcur : cur < 2 ^ 32) (w : Nat) {no : List Fld} (hmax : vmaxField ∈ no)
    (hmin : vminField ∈ no) : judgedWord v (railLimits n) cur w no = cur := by
  have hsplit : cutField cur 0 16 * 2 ^ 0 + cutField cur 16 16 * 2 ^ 16 = cur := by
    simp only [cutField]
    omega
  rw [judgedWord, regFields_railLimits hn]
  simp only [List.foldl_cons, List.foldl_nil, List.contains_iff_mem, hmax, hmin, if_true, Nat.zero_add]
  exact hsplit

end

/-! ### The write -/

/-- What a write refused both limits leaves: the register put back at the value read, a set-up write for the field bridge,
and SETUP_WRITE_DENIED. -/
def State.refuseLimits (s : State) (n : Nat) (w : Word) : State :=
  let cur := s.regv (railLimits n)
  let regs := regInsert s.sys.variant (railLimits n) (BitVec.ofNat 32 cur) s.regs
  (({ s with regs := regs } : State).withBridge (s.sys.bridgePending || isSetup (railLimits n))).writeDenied
    (railLimits n) w.toNat cur

theorem State.refuseLimits_regs (s : State) (n : Nat) (w : Word) :
    (s.refuseLimits n w).regs =
      regInsert s.sys.variant (railLimits n) (BitVec.ofNat 32 (s.regv (railLimits n))) s.regs := by
  simp [State.refuseLimits, State.writeDenied, State.withBridge]

section
variable {s : State} {n : Nat} (hn : n < s.sys.variant.rails)
include hn

theorem goes_refuseLimits {w : Word} (hlink : s.sys.linkUp = true)
    (hcross : permittedVmax s.sys.lock (s.regv (railLimits n)) w.toNat <
      permittedVmin s.sys.lock (s.regv (railLimits n)) w.toNat) :
    Goes (.registerWrite (railLimits n) w) s (s.refuseLimits n w) := by
  have hbounds := railLimits_bounds hn
  have hcur : s.regv (railLimits n) < 2 ^ 32 := regLookup_lt (by rw [regReset_railLimits hn]; decide) _
  obtain ⟨hmax, hmin⟩ := railLimits_denied hn hcross
  have hword := judgedWord_railLimits hn hcur w.toNat hmax hmin
  have hput : s.putAny (railLimits n) w = s.putReg (railLimits n) w.toNat := by
    rw [State.putAny, regFields_railLimits hn]
    simp (disch := omega) only [if_neg, List.isEmpty_cons, Bool.false_eq_true, if_false]
  show Host.Outcome.next _ = _
  rw [if_pos hlink, hput, State.putReg, hword]
  simp only [List.isEmpty_iff, List.ne_nil_of_mem hmax, if_false]
  rfl

theorem regInsert_regv_railLimits (hcanon : regWf s.sys.variant s.regs = true) :
    regInsert s.sys.variant (railLimits n) (BitVec.ofNat 32 (s.regv (railLimits n))) s.regs = s.regs :=
  regInsert_regLookup hcanon (by rw [regReset_railLimits hn]; decide)

/-- In a canonical register list the refusal changes no register. -/
theorem State.refuseLimits_regv_of_regWf (w : Word) (hcanon : regWf s.sys.variant s.regs = true) :
    (s.refuseLimits n w).regv = s.regv := by
  have hvariant : (s.refuseLimits n w).sys.variant = s.sys.variant := by
    simp [State.refuseLimits, State.writeDenied, State.withBridge]
  funext o
  rw [State.regv, hvariant, State.refuseLimits_regs, regInsert_regv_railLimits hn hcanon, ← State.regv]

theorem State.refuseLimits_rcd_of_regWf (w : Word) (hcanon : regWf s.sys.variant s.regs = true) :
    (s.refuseLimits n w).rcd = (s.emit 0x0024 14 [railLimits n, w.toNat, lo32 (s.regv (railLimits n)), 0]).rcd := by
  have hw : lo32 w.toNat = w.toNat := Nat.mod_eq_of_lt w.isLt
  rw [State.refuseLimits, regInsert_regv_railLimits hn hcanon, State.writeDenied, State.emit_withBridge, hw]
  rfl

end

/-! ### The statement -/

/-- R733 wherever the register list is canonical, as `State.wf` asks: no register changes, and the write is recorded. -/
theorem limitPair_of_regWf {s : State} {n : Nat} {w : Word} (hlink : s.sys.linkUp = true) (hn : n < s.sys.variant.rails)
    (hcanon : regWf s.sys.variant s.regs = true)
    (hcross : permittedVmax s.sys.lock (s.regv (railLimits n)) w.toNat <
      permittedVmin s.sys.lock (s.regv (railLimits n)) w.toNat) :
    ∃ t, Goes (.registerWrite (railLimits n) w) s t ∧ t.regv = s.regv ∧
      t.rcd = (s.emit 0x0024 14 [railLimits n, w.toNat, lo32 (s.regv (railLimits n)), 0]).rcd :=
  ⟨_, goes_refuseLimits hn hlink hcross, s.refuseLimits_regv_of_regWf hn w hcanon, s.refuseLimits_rcd_of_regWf hn w hcanon⟩

/-- A locked device whose rail 0 has a VMAX of 4,000 mV and a VMIN of 500 mV. -/
def lockedLimits : State :=
  { State.reset with sys.linkUp := true, sys.lock := true, regs := [(0xC100, 0x01F40FA0)] }

/-- VMAX 3,000 mV and VMIN 3,500 mV are each tighter, so that the lock alone permits both; together they are refused. -/
theorem limitPair_lockedLimits :
    ∃ t, Goes (.registerWrite 0xC100 0x0DAC0BB8) lockedLimits t ∧ t.regv 0xC100 = 0x01F40FA0 := by
  have hcross : permittedVmax true (lockedLimits.regv (railLimits 0)) (0x0DAC0BB8 : Word).toNat <
      permittedVmin true (lockedLimits.regv (railLimits 0)) (0x0DAC0BB8 : Word).toNat := by decide
  obtain ⟨t, hgoes, hregv, -⟩ := limitPair_of_regWf (s := lockedLimits) (n := 0) rfl (by decide) (by decide) hcross
  exact ⟨t, hgoes, by rw [hregv]; exact regLookup_head ..⟩

/-- Rail 0's limits listed twice: first at their reset value 0, and behind that with a VMAX of 5 mV. -/
def limitsListedTwice : State :=
  { State.reset with sys.linkUp := true, regs := [(0xC100, 0), (0xC100, 5)] }

/-- Refutes O8: the statement asks it of every register list, canonical or not. Where rail 0's limits are listed twice,
VMAX reads 0; a write of VMIN 1 over it is refused, putting the 0 back drops the first entry, and VMAX reads 5. -/
theorem not_limitPair : ¬ Obligations.LimitPair := by
  intro h
  let w : Word := 0x00010000
  have hn : 0 < limitsListedTwice.sys.variant.rails := by decide
  have hcross : permittedVmax limitsListedTwice.sys.lock (limitsListedTwice.regv (railLimits 0)) w.toNat <
      permittedVmin limitsListedTwice.sys.lock (limitsListedTwice.regv (railLimits 0)) w.toNat := by decide
  obtain ⟨t, hgoes, hvmax, -⟩ := h limitsListedTwice 0 w rfl hn hcross
  obtain rfl : limitsListedTwice.refuseLimits 0 w = t :=
    Host.Outcome.next.inj ((goes_refuseLimits hn rfl hcross).symm.trans hgoes)
  have hbefore : limitsListedTwice.regv (0xC100 + 16 * 0) = 0 := regLookup_head ..
  have hregs : (limitsListedTwice.refuseLimits 0 w).regs = [(0xC100, 5)] := by
    rw [State.refuseLimits_regs]
    decide
  have hafter : (limitsListedTwice.refuseLimits 0 w).regv (0xC100 + 16 * 0) = 5 := by
    rw [State.regv, hregs]
    exact regLookup_head ..
  rw [hbefore, hafter] at hvmax
  exact absurd hvmax (by decide)

end Sys2Proof.Machine
end

section
/-! The one latch behind the read-only _LO and _HI pairs (R779): a read of a _LO register writes it, and the _HI register
of each pair the variant has reads it. -/

namespace Sys2Proof.Machine

open Sys2Proof.Claims

/-- The offset after a read-only _LO register of the variant is its _HI register, which reads the latch. -/
theorem readReg_hiHalf {s : State} {lo : Nat} (hlo : (s.hiOf lo).isSome = true)
    (hpresent : absentReg s.sys.variant (lo + 4) = false) : s.readReg (lo + 4) = s.hif.latchHi.toNat := by
  have hpair : 4 ≤ lo + 4 ∧ (s.hiOf (lo + 4 - 4)).isSome = true :=
    ⟨Nat.le_add_left 4 lo, by rwa [Nat.add_sub_cancel]⟩
  unfold State.readReg
  rw [if_neg (ne_true_of_eq_false hpresent), if_pos hpair]

/-- What a read of a read-only _LO register leaves: its upper word latched, and the register's own word answered. -/
def State.loRead (s : State) (off h : Nat) : State :=
  { s with hif.latchHi := BitVec.ofNat 32 h, hif.readData := BitVec.ofNat 32 (s.readReg off) }

theorem State.loRead_latchHi (s : State) (off : Nat) {h : Nat} (hword : h < 2 ^ 32) :
    (s.loRead off h).hif.latchHi.toNat = h :=
  Nat.mod_eq_of_lt hword

theorem goes_loReadLatch_loRead {s : State} {off h : Nat} (hlink : s.sys.linkUp = true) (hlo : s.hiOf off = some h) :
    Goes (.loReadLatch off) s (s.loRead off h) := by
  show execLoReadLatch off s = .next _
  rw [execLoReadLatch, hlo, State.loRead]
  exact if_pos hlink

theorem goes_loReadLatch_self {s : State} {off : Nat} (hno : s.hiOf off = none) : Goes (.loReadLatch off) s s := by
  show execLoReadLatch off s = .next s
  rw [execLoReadLatch, hno]

/-- Settles O7: the latch is written where the offset has an upper word, else the state stays; the reads of the _HI
registers afterwards are those of any state. -/
theorem oneLatch : Obligations.OneLatch := by
  intro s off hlink
  cases hoff : s.hiOf off with
  | none => exact ⟨s, goes_loReadLatch_self hoff, nofun, fun _ => rfl, fun _ => readReg_hiHalf⟩
  | some h =>
    refine ⟨s.loRead off h, goes_loReadLatch_loRead hlink hoff, ?_, nofun, fun _ => readReg_hiHalf⟩
    rintro _ ⟨⟩ hword
    exact s.loRead_latchHi off hword

/-- A linked device whose time is 7 × 2³² + 9 ns and whose wall offset is 5 × 2³² ns. -/
def linkedClock : State :=
  { State.reset with sys.linkUp := true, clk.devTime := 0x700000009, clk.wallOfs := 0x500000000 }

/-- One latch for every pair: after a read of FRM_TIME_LO, FRM_WALL_HI too reads the upper half of the time. -/
theorem oneLatch_linkedClock :
    ∃ t, Goes (.loReadLatch 0x1010) linkedClock t ∧ t.readReg 0x1014 = 7 ∧ t.readReg 0x101C = 7 := by
  have htime : linkedClock.hiOf 0x1010 = some 7 := rfl
  have hlatch := linkedClock.loRead_latchHi 0x1010 (h := 7) (by decide)
  refine ⟨_, goes_loReadLatch_loRead rfl htime, ?_, ?_⟩
  · exact (readReg_hiHalf (lo := 0x1010) rfl (by decide)).trans hlatch
  · exact (readReg_hiHalf (lo := 0x1018) rfl (by decide)).trans hlatch

end Sys2Proof.Machine
end

section
/-! What every command leaves whole: the tables of units at their lengths, the queue, and the register lists. Each operation of
the model is said to keep them once, in the order of the model's files; the few that write the register lists have lemmas of
their own further down. -/

namespace Sys2Proof.Machine

/-- The queue and the unit tables' lengths are as they were. -/
@[simp] abbrev SameShape (s t : State) : Prop :=
  t.pending = s.pending ∧ t.rails.length = s.rails.length ∧ t.phases.length = s.phases.length ∧
  t.sws.length = s.sws.length ∧ t.hif.rings.length = s.hif.rings.length ∧ t.hif.tags.length = s.hif.tags.length

/-- And so are the register lists, as accepted and as in force. -/
@[simp] abbrev SameTables (s t : State) : Prop := SameShape s t ∧ t.regs = s.regs ∧ t.live = s.live

/-- A turn-on takes the rail's configuration into force, and so writes that list alone. -/
@[simp] abbrev SameButLive (s t : State) : Prop := SameShape s t ∧ t.regs = s.regs

theorem SameTables.refl (s : State) : SameTables s s := by simp
theorem SameTables.ite {c : Prop} [Decidable c] {a b t : State} (ha : SameTables t a) (hb : SameTables t b) :
    SameTables t (if c then a else b) := by split <;> assumption
theorem SameTables.trans {a b c : State} (hab : SameTables a b) (hbc : SameTables b c) : SameTables a c := by
  simp_all
theorem SameTables.each {f : State → Nat → State} (h : ∀ s k, SameTables s (f s k)) (l : List Nat) (s : State) :
    SameTables s (s.each l f) :=
  each_inv f (SameTables s) (fun u k hu => hu.trans (h u k)) l s (by simp)
theorem SameTables.foldl {β : Type} {f : State → β → State} (h : ∀ s k, SameTables s (f s k)) (l : List β) (s : State) :
    SameTables s (l.foldl f s) := by
  induction l generalizing s with
  | nil => simp
  | cons x xs ih => exact (h s x).trans (ih _)

section
variable (s : State)

@[simp] theorem each_modRail_tables (l : List Nat) (g : State → Nat → Rail → Rail) :
    SameTables s (s.each l fun s n => s.modRail n (g s n)) := .each (fun _ _ => by simp) _ _
@[simp] theorem each_modPhase_tables (l : List Nat) (g : State → Nat → Phase → Phase) :
    SameTables s (s.each l fun s m => s.modPhase m (g s m)) := .each (fun _ _ => by simp) _ _
@[simp] theorem each_modSw_tables (l : List Nat) (g : State → Nat → Switch → Switch) :
    SameTables s (s.each l fun s n => s.modSw n (g s n)) := .each (fun _ _ => by simp) _ _

/-! ### Rails: shared operations -/

@[simp] theorem State.floorCause_tables (bit : Nat) : SameTables s (s.floorCause bit) := by simp [State.floorCause]
@[simp] theorem State.clearCause_tables (bit : Nat) : SameTables s (s.clearCause bit) := by simp [State.clearCause]
@[simp] theorem State.brakeClip_tables (unit item proposed committed eng : Nat) :
    SameTables s (s.brakeClip unit item proposed committed eng) := by
  simp [State.brakeClip]
@[simp] theorem State.applyCounts_tables (n : Nat) : SameTables s (s.applyCounts n) := by simp [State.applyCounts]
@[simp] theorem State.phasesMid_tables (n : Nat) : SameTables s (s.phasesMid n) := by simp [State.phasesMid]
@[simp] theorem State.clipCount_tables (n c : Nat) : SameTables s (s.clipCount n c).1 := by simp [State.clipCount]
@[simp] theorem State.setCount_tables (n c : Nat) : SameTables s (s.setCount n c) := by simp [State.setCount]
@[simp] theorem State.retireFc_tables (n : Nat) (lead : Bool) (status result : Nat) :
    SameTables s (s.retireFc n lead status result) := by
  unfold State.retireFc
  split
  · simp
  · dsimp only; split <;> simp
@[simp] theorem State.clearWarns_tables (n : Nat) : SameTables s (s.clearWarns n) := by simp [State.clearWarns]
@[simp] theorem State.putTarget_tables (n target rate : Nat) : SameTables s (s.putTarget n target rate) := by
  unfold State.putTarget
  dsimp only
  split <;> simp
@[simp] theorem State.clipTarget_tables (n target rate : Nat) : SameTables s (s.clipTarget n target rate).1 := by
  simp [State.clipTarget]
@[simp] theorem State.loadRailCfg_tables (n : Nat) : SameButLive s (s.loadRailCfg n) := by
  simp [State.loadRailCfg]
@[simp] theorem State.startUnit_tables (n target rate delay : Nat) : SameButLive s (s.startUnit n target rate delay) := by
  unfold State.startUnit
  dsimp only
  split <;> simp
@[simp] theorem State.turnOn_tables (n target delay : Nat) : SameButLive s (s.turnOn n target delay).1 := by
  simp [State.turnOn]
@[simp] theorem State.park_tables (n : Nat) : SameTables s (s.park n) := by simp [State.park]
@[simp] theorem State.endOn_tables (n code : Nat) : SameTables s (s.endOn n code) := by
  cases h : (s.rail n).onSlot <;> cases k : (s.rail n).setSlot <;> simp [State.endOn, h, k]
@[simp] theorem State.dischargePhases_tables (n : Nat) : SameTables s (s.dischargePhases n) := by
  unfold State.dischargePhases
  dsimp only
  split <;> simp
@[simp] theorem State.offUnit_tables (n code : Nat) : SameTables s (s.offUnit n code) := by simp [State.offUnit]
@[simp] theorem State.turnOff_tables (n code : Nat) : SameTables s (s.turnOff n code) := by simp [State.turnOff]
@[simp] theorem State.shortOff_tables (n code : Nat) : SameTables s (s.shortOff n code) := by simp [State.shortOff]

/-! ### Switch channels: shared operations -/

@[simp] theorem State.limitTarget_tables (n target rate : Nat) : SameTables s (s.limitTarget n target rate).1 := by
  simp [State.limitTarget]
@[simp] theorem State.applySetpoint_tables (n target rate : Nat) : SameTables s (s.applySetpoint n target rate).1 := by
  simp [State.applySetpoint]
@[simp] theorem State.cancelRetry_tables (n : Nat) : SameTables s (s.cancelRetry n) := by simp [State.cancelRetry]
@[simp] theorem State.swEnd_tables (n : Nat) (nst : SwState) (code : Nat) : SameTables s (s.swEnd n nst code) := by
  simp [State.swEnd]
@[simp] theorem State.swRamp_tables (n : Nat) : SameTables s (s.swRamp n) := by simp [State.swRamp]
@[simp] theorem State.swTurnOn_tables (n : Nat) (retry prearmed : Bool) :
    SameTables s (s.swTurnOn n retry prearmed) := by
  simp [State.swTurnOn]
@[simp] theorem State.swTurnOff_tables (n code : Nat) : SameTables s (s.swTurnOff n code) := by
  unfold State.swTurnOff; split <;> simp
@[simp] theorem State.swTrip_tables (n m ma : Nat) (t : Option Nat) : SameTables s (s.swTrip n m ma t) := by
  unfold State.swTrip; split <;> simp
@[simp] theorem State.swJudge_tables (n : Nat) : SameTables s (s.swJudge n) := by simp [State.swJudge]

/-! ### Sequencer: shared operations -/

@[simp] theorem State.setPgood_tables (b : Bool) : SameTables s (s.setPgood b) := by simp [State.setPgood]
@[simp] theorem State.faultN_tables : SameTables s s.faultN := by simp [State.faultN]
@[simp] theorem State.resetOuts_tables : SameTables s s.resetOuts := by simp [State.resetOuts]
@[simp] theorem State.supervise_tables : SameTables s s.supervise := by simp [State.supervise]
@[simp] theorem State.seqOff_tables (u : Nat) : SameTables s (s.seqOff u) := by simp [State.seqOff]
@[simp] theorem State.offOwnOne_tables (l : List Nat) : SameTables s (s.offOwnOne l) := by
  induction l generalizing s with
  | nil => exact .refl s
  | cons u us ih => rw [State.offOwnOne]; split <;> simp [ih]
@[simp] theorem State.retirePrearm_tables : SameTables s s.retirePrearm := by simp [State.retirePrearm]
@[simp] theorem State.seqEnd_tables (outcome cause status : Nat) : SameTables s (s.seqEnd outcome cause status) := by
  simp [State.seqEnd]
@[simp] theorem State.dropStart_tables (outcome status : Nat) : SameTables s (s.dropStart outcome status) := by
  unfold State.dropStart
  split
  · dsimp only; split <;> simp
  · simp
@[simp] theorem State.seqStop_tables : SameTables s s.seqStop := by simp [State.seqStop]
@[simp] theorem State.seqRequest_tables (p src : Nat) (slot : Option Nat) : SameTables s (s.seqRequest p src slot) := by
  simp [State.seqRequest]
@[simp] theorem State.offSequence_tables (src : Nat) : SameTables s (s.offSequence src).1 := by
  simp [State.offSequence]
@[simp] theorem State.seqPolicy_tables (cause : Nat) : SameTables s (s.seqPolicy cause) := by
  unfold State.seqPolicy
  dsimp only
  split
  · refine .trans (.trans (b := s.seqEnd 1 cause stDONE) (by simp) (.each (fun s u => ?_) _ _)) (State.offOwnOne_tables _ _)
    split <;> simp
  · simp
@[simp] theorem State.stepFail_tables (cause : Nat) : SameTables s (s.stepFail cause) := by simp [State.stepFail]
@[simp] theorem State.seqNotify_tables (u : Nat) (fault : Bool) : SameTables s (s.seqNotify u fault) := by
  simp [State.seqNotify]
@[simp] theorem State.prearmRecord_tables (u : Nat) (p : Option Nat) : SameTables s (s.prearmRecord u p) := by
  unfold State.prearmRecord; split <;> simp
@[simp] theorem State.stepAct_tables (st : Step) : SameButLive s (s.stepAct st) := by
  unfold State.stepAct; split <;> simp
@[simp] theorem State.startStep_tables (i : Nat) : SameButLive s (s.startStep i) := by
  unfold State.startStep
  dsimp only
  split <;> simp
@[simp] theorem State.seqAdvance_tables : SameButLive s s.seqAdvance := by simp [State.seqAdvance]
@[simp] theorem State.progStart_tables : SameButLive s s.progStart := by unfold State.progStart; split <;> simp
@[simp] theorem State.seqJudge_tables : SameTables s s.seqJudge := by simp [State.seqJudge]
@[simp] theorem State.prearmStep_tables : SameTables s s.prearmStep := by simp [State.prearmStep]

/-! ### Switch channels -/

@[simp] theorem State.swSample_tables (n : Nat) : SameTables s (s.swSample n) := by simp [State.swSample]
@[simp] theorem State.swSeat_tables (n : Nat) : SameTables s (s.swSeat n) := by simp [State.swSeat]
@[simp] theorem State.swModel_tables (n : Nat) : SameTables s (s.swModel n) := by simp [State.swModel]
@[simp] theorem State.swTherm_tables (n : Nat) : SameTables s (s.swTherm n) := by simp [State.swTherm]
@[simp] theorem State.swTimer_tables (n : Nat) : SameTables s (s.swTimer n) := by simp [State.swTimer]
@[simp] theorem State.swI2t_tables (n : Nat) : SameTables s (s.swI2t n) := by simp [State.swI2t]
@[simp] theorem State.swShadow_tables (n : Nat) : SameTables s (s.swShadow n) := by simp [State.swShadow]
@[simp] theorem State.swStep1_tables (n : Nat) : SameTables s (s.swStep1 n) := by simp [State.swStep1]
@[simp] theorem State.swStep3_tables (n : Nat) : SameTables s (s.swStep3 n) := by simp [State.swStep3]
@[simp] theorem State.tripRow_tables (ch m : Nat) (t : Option Nat) (ma : Int) : SameTables s (s.tripRow ch m t ma) := by
  simp [State.tripRow]
@[simp] theorem State.swOnOp_tables (k : Nat) (d : RawDesc) : SameTables s (s.swOnOp k d) := by
  cases h : s.swCheck (descIndex d) <;> simp [State.swOnOp, h]
@[simp] theorem State.swOffOp_tables (k : Nat) (d : RawDesc) : SameTables s (s.swOffOp k d) := by simp [State.swOffOp]
@[simp] theorem State.swClearOp_tables (k : Nat) (d : RawDesc) : SameTables s (s.swClearOp k d) := by
  simp [State.swClearOp]

/-! ### Caps, temperature, compensation -/

@[simp] theorem State.capStage_tables : SameTables s s.capStage := by simp [State.capStage]
@[simp] theorem State.capFrame_tables : SameTables s s.capFrame := by simp [State.capFrame]
@[simp] theorem State.capEpoch_tables : SameTables s s.capEpoch := by simp [State.capEpoch]
@[simp] theorem State.setCapLim_tables (u : Nat) (l : Option Nat) : SameTables s (s.setCapLim u l) := by
  simp [State.setCapLim]
@[simp] theorem State.changeCap_tables (lead : Bool) (mw : Nat) : SameTables s (s.changeCap lead mw) := by
  simp [State.changeCap]
@[simp] theorem State.tsense_tables : SameTables s s.tsense := by simp [State.tsense]
@[simp] theorem State.tdieAverage_tables : SameTables s s.tdieAverage := by simp [State.tdieAverage]
@[simp] theorem State.derate_tables : SameTables s s.derate := by simp [State.derate]
@[simp] theorem State.compensate_tables : SameTables s s.compensate := by unfold State.compensate; split <;> simp

/-! ### Sequencer and its pins -/

@[simp] theorem State.syncClaim_tables : SameTables s s.syncClaim := by simp [State.syncClaim]
@[simp] theorem State.seqRunOp_tables (k : Nat) (d : RawDesc) : SameTables s (s.seqRunOp k d) := by
  unfold State.seqRunOp
  dsimp only
  split <;> simp
@[simp] theorem State.seqPulseOp_tables (k : Nat) (d : RawDesc) : SameTables s (s.seqPulseOp k d) := by
  unfold State.seqPulseOp
  dsimp only
  split <;> simp
@[simp] theorem State.seqFrame_tables : SameButLive s s.seqFrame := by
  unfold State.seqFrame
  simp

/-! ### Gauge: shared operations -/

@[simp] theorem State.maintEnd_tables (c outcome detail : Nat) : SameTables s (s.maintEnd c outcome detail) := by
  simp [State.maintEnd]
@[simp] theorem State.nvStart_tables (trig : Nat) : SameTables s (s.nvStart trig) := by simp [State.nvStart]
@[simp] theorem State.nvTrigger_tables (trig : Nat) : SameTables s (s.nvTrigger trig) := by simp [State.nvTrigger]
@[simp] theorem State.nvShutdown_tables (flushed : Bool) : SameTables s (s.nvShutdown flushed) := by
  unfold State.nvShutdown
  exact .ite (.refl s) (.ite (State.nvTrigger_tables _ _) (by simp))
@[simp] theorem State.learnAbort_tables (cause : Nat) : SameTables s (s.learnAbort cause) := by
  simp [State.learnAbort]
@[simp] theorem State.holdUpdate_tables : SameTables s s.holdUpdate := by simp [State.holdUpdate]
@[simp] theorem State.gaugeEpoch_tables : SameTables s s.gaugeEpoch := by simp [State.gaugeEpoch]
@[simp] theorem State.gaugeFrame_tables : SameTables s s.gaugeFrame := by simp [State.gaugeFrame]

/-! ### Power path: shared operations -/

@[simp] theorem State.pathFaults_tables : SameTables s s.pathFaults := by simp [State.pathFaults]
@[simp] theorem State.convTo_tables (c : ConvSt) : SameTables s (s.convTo c) := by simp [State.convTo]
@[simp] theorem State.batTo_tables (b : BatSt) (cause : Nat) : SameTables s (s.batTo b cause) := by simp [State.batTo]
@[simp] theorem State.toNoFeed_tables : SameTables s s.toNoFeed := by simp [State.toNoFeed]
@[simp] theorem State.batOut_tables (b : BatSt) (cause : Nat) : SameTables s (s.batOut b cause) := by
  simp [State.batOut]
@[simp] theorem State.searchStart_tables (maint : Bool) : SameTables s (s.searchStart maint) := by
  simp [State.searchStart]
@[simp] theorem State.searchEnd_tables (result lim tested : Nat) (sag : Int) :
    SameTables s (s.searchEnd result lim tested sag) := by
  simp [State.searchEnd]
@[simp] theorem State.detEnd_tables (b : BatSt) (cause : Nat) : SameTables s (s.detEnd b cause) := by
  simp [State.detEnd]
@[simp] theorem State.detStart_tables (cause : Nat) : SameTables s (s.detStart cause) := by simp [State.detStart]
@[simp] theorem State.shedOne_tables (u : Nat) : SameTables s (s.shedOne u) := by simp [State.shedOne]
@[simp] theorem State.shedAll_tables (l : List Nat) (reason : Nat) : SameTables s (s.shedAll l reason) := by
  simp [State.shedAll]
@[simp] theorem State.shedAtLoss_tables : SameTables s s.shedAtLoss := by simp [State.shedAtLoss]
@[simp] theorem State.shedAgain_tables : SameTables s s.shedAgain := by simp [State.shedAgain]
@[simp] theorem State.toFeed_tables : SameTables s s.toFeed := by simp [State.toFeed]

/-! ### Feed, battery, charging, search -/

@[simp] theorem State.pathSample_tables : SameTables s s.pathSample := by simp [State.pathSample]
@[simp] theorem State.takeLoss_tables : SameTables s s.takeLoss := by unfold State.takeLoss; split <;> simp
@[simp] theorem State.batWatch_tables : SameTables s s.batWatch := by simp [State.batWatch]
@[simp] theorem State.chgSuspend_tables : SameTables s s.chgSuspend := by simp [State.chgSuspend]
@[simp] theorem State.restoreOne_tables : SameButLive s s.restoreOne := by unfold State.restoreOne; split <;> simp
@[simp] theorem State.pathStep_tables : SameButLive s s.pathStep := by simp [State.pathStep]
@[simp] theorem State.pathFrame_tables : SameTables s s.pathFrame := by
  unfold State.pathFrame
  refine .ite (.refl s) ?_
  extract_lets v _ s1 run cv charging _ s2 atL assist s3
  have h1 : SameTables s s1 := by simp [s1]
  have h2 : SameTables s1 s2 := .ite (by split <;> simp [charging]) (.ite (by simp) (.refl _))
  have h3 : SameTables s2 s3 := by simp [s3]
  exact .ite h1 (h1.trans (h2.trans (h3.trans (by simp))))
@[simp] theorem State.chgSlotEnd_tables (status result : Nat) : SameTables s (s.chgSlotEnd status result) := by
  unfold State.chgSlotEnd; split <;> simp
@[simp] theorem State.chgStartOp_tables (k : Nat) (d : RawDesc) : SameTables s (s.chgStartOp k d) := by
  simp [State.chgStartOp]

/-! ### Battery gauge -/

@[simp] theorem State.spectroBegin_tables (f : Nat) (slot : Option Nat) : SameTables s (s.spectroBegin f slot) := by
  simp [State.spectroBegin]
@[simp] theorem State.nvSave_tables (k : Nat) : SameTables s (s.nvSave k) := by simp [State.nvSave]
@[simp] theorem State.gaugeWake_tables (ms : Nat) : SameTables s (s.gaugeWake ms) := by simp [State.gaugeWake]
@[simp] theorem State.setFullOp_tables (k : Nat) (d : RawDesc) : SameTables s (s.setFullOp k d) := by
  unfold State.setFullOp
  dsimp only
  split <;> simp
@[simp] theorem State.gaugeNew_tables : SameTables s s.gaugeNew := by simp [State.gaugeNew]
@[simp] theorem State.spectroOp_tables (k : Nat) (d : RawDesc) : SameTables s (s.spectroOp k d) := by
  unfold State.spectroOp
  dsimp only
  split <;> simp
@[simp] theorem State.gaugeLoad_tables : SameTables s s.gaugeLoad := by
  unfold State.gaugeLoad
  dsimp only
  split
  · simp
  · split <;> simp

/-! ### Host interface -/

@[simp] theorem State.writeDenied_tables (off v kept : Nat) : SameTables s (s.writeDenied off v kept) := by
  simp [State.writeDenied]
@[simp] theorem State.inject_tables : SameTables s s.inject := by simp [State.inject]
@[simp] theorem State.ringTo_tables (r : Nat) (st : RSt) (source : Nat) : SameTables s (s.ringTo r st source) := by
  simp [State.ringTo]
@[simp] theorem State.ringError_tables (r cause info : Nat) : SameTables s (s.ringError r cause info) := by
  simp [State.ringError]
@[simp] theorem State.ringEnableWith_tables (r : Nat) (g : Ring) (source : Nat) :
    SameTables s (s.ringEnableWith r g source) := by
  simp [State.ringEnableWith]
@[simp] theorem State.ringDisable_tables (r source : Nat) : SameTables s (s.ringDisable r source) := by
  simp [State.ringDisable]
@[simp] theorem State.ringReset_tables (r source : Nat) : SameTables s (s.ringReset r source) := by
  simp [State.ringReset]
@[simp] theorem State.windowCheck_tables : SameTables s (s.windowCheck.1) := by simp [State.windowCheck]
@[simp] theorem State.sqTake_tables (r : Nat) (v : Word) : SameTables s (s.sqTake r v) := by simp [State.sqTake]
@[simp] theorem State.cqTake_tables (r : Nat) (v : Word) : SameTables s (s.cqTake r v) := by simp [State.cqTake]
@[simp] theorem State.doorbell_tables (cq : Bool) (r : Nat) (v : Word) : SameTables s (s.doorbell cq r v) := by
  simp [State.doorbell]
@[simp] theorem State.doorbellsDue_tables : SameTables s s.doorbellsDue := by simp [State.doorbellsDue]
@[simp] theorem State.intakeAs_tables (ring : Nat) (d : RawDesc) (time tick : Nat) (frame : BitVec 32) (tk : Bool) :
    SameTables s (s.intakeAs ring d time tick frame tk) := by
  unfold State.intakeAs; split <;> simp
@[simp] theorem State.cqSignal_tables (q : Nat) : SameTables s (s.cqSignal q) := by simp [State.cqSignal]
@[simp] theorem State.writeCpl_tables (c : Cpl) : SameTables s (s.writeCpl c) := by
  unfold State.writeCpl; split <;> simp
@[simp] theorem State.sendPending_tables : SameTables s s.sendPending := by simp [State.sendPending]
@[simp] theorem State.ringCtrl_tables (r : Nat) (en : Bool) : SameTables s (s.ringCtrl r en) := by
  simp [State.ringCtrl]
@[simp] theorem State.barVoid_tables (bar off size : Nat) (isWrite : Bool) :
    SameTables s (s.barVoid bar off size isWrite) := by
  simp [State.barVoid]

/-! ### Configuration image and banks -/

@[simp] theorem State.loadReg_tables (off w : Nat) : SameShape s (s.loadReg off w) := by simp [State.loadReg]
@[simp] theorem State.loadImage_tables (im : List Byte) : SameShape s (s.loadImage im) := by simp [State.loadImage]

/-! ### Admin and firmware descriptors -/

@[simp] theorem State.writeStart_tables (k : Nat) (fw b : Bool) (bytes : List Byte) :
    SameTables s (s.writeStart k fw b bytes) := by
  simp [State.writeStart]
@[simp] theorem State.cfgWriteOp_tables (k : Nat) (d : RawDesc) (image : List Byte) :
    SameTables s (s.cfgWriteOp k d image) := by
  cases h : imageFault s.sys.variant s.cfg.fwVersion s.sys.signedOnly (image.take (descField d 24 4)) <;>
    simp [State.cfgWriteOp, h]
@[simp] theorem State.setSlotBytes_tables (b : Bool) (bytes : List Byte) : SameTables s (s.setSlotBytes b bytes) := by
  simp [State.setSlotBytes]
@[simp] theorem State.setBankBytes_tables (b : Bool) (bytes : List Byte) : SameTables s (s.setBankBytes b bytes) := by
  simp [State.setBankBytes]
@[simp] theorem State.dropWrite_tables : SameTables s s.dropWrite := by unfold State.dropWrite; split <;> simp
@[simp] theorem State.judgeOther_tables : SameTables s s.judgeOther := by simp [State.judgeOther]
@[simp] theorem State.fwWriteOp_tables (k : Nat) (d : RawDesc) (bank : List Byte) :
    SameTables s (s.fwWriteOp k d bank) := by
  simp [State.fwWriteOp]
@[simp] theorem State.ringToRegs_tables (r : Nat) (h : Ring) : SameShape s (s.ringToRegs r h) := by
  simp [State.ringToRegs]
@[simp] theorem State.ringCreateOp_tables (k : Nat) (d : RawDesc) : SameShape s (s.ringCreateOp k d) := by
  simp [State.ringCreateOp]
@[simp] theorem State.moveInside_tables (n target rate : Nat) : SameTables s (s.moveInside n target rate) := by
  simp [State.moveInside]
@[simp] theorem State.countsInside_tables : SameTables s s.countsInside := by simp [State.countsInside]
@[simp] theorem State.tightenMove_tables (item n : Nat) : SameTables s (s.tightenMove item n) := by
  unfold State.tightenMove; split <;> simp
@[simp] theorem State.setLimit_tables (item n v : Nat) : SameShape s (s.setLimit item n v) := by
  simp [State.setLimit]
@[simp] theorem State.tightenOp_tables (k : Nat) (d : RawDesc) : SameShape s (s.tightenOp k d) := by
  simp [State.tightenOp]

/-! ### Rail regulation -/

@[simp] theorem State.startPulse_tables (n m t : Nat) : SameTables s (s.startPulse n m t) := by
  simp [State.startPulse]
@[simp] theorem State.endPulse_tables (m : Nat) : SameTables s (s.endPulse m) := by simp [State.endPulse]
@[simp] theorem State.trigger_tables (n t : Nat) : SameTables s (s.trigger n t) := by
  unfold State.trigger
  dsimp only
  split <;> simp
@[simp] theorem State.phaseWord_tables (m : Nat) (i : Int) (t : Nat) : SameTables s (s.phaseWord m i t) := by
  unfold State.phaseWord
  extract_lets n s1 r p s2 s3 free parked s4
  have h1 : SameTables s s1 := by simp [s1]
  have h2 : SameTables s1 s2 := by simp [s2]
  have h3 : SameTables s2 s3 := by simp [s3]
  have h4 : SameTables s3 s4 := .ite (by split <;> simp [parked]) (.refl _)
  exact .ite h1 (h1.trans (h2.trans (h3.trans (h4.trans (by simp)))))
@[simp] theorem State.truncate_tables (n : Nat) : SameTables s (s.truncate n) := by simp [State.truncate]
@[simp] theorem State.recall_tables (n : Nat) (errUv : Rat) (t : Nat) : SameTables s (s.recall n errUv t) := by
  simp [State.recall]
@[simp] theorem State.shadowRecall_tables (n : Nat) (errUv : Rat) (t : Nat) :
    SameTables s (s.shadowRecall n errUv t) := by
  simp [State.shadowRecall]
@[simp] theorem State.reached_tables (n : Nat) : SameTables s (s.reached n) := by
  unfold State.reached
  dsimp only
  split <;> simp
@[simp] theorem State.takeVin_tables (n : Nat) : SameTables s (s.takeVin n) := by simp [State.takeVin]
@[simp] theorem State.adjustCf_tables (n : Nat) : SameTables s (s.adjustCf n) := by simp [State.adjustCf]
@[simp] theorem State.adjustVofs_tables (n : Nat) : SameTables s (s.adjustVofs n) := by simp [State.adjustVofs]
@[simp] theorem State.adjustDroop_tables (n : Nat) : SameTables s (s.adjustDroop n) := by simp [State.adjustDroop]
@[simp] theorem State.adjustShare_tables (n : Nat) : SameTables s (s.adjustShare n) := by simp [State.adjustShare]
@[simp] theorem State.adjustBalance_tables (n : Nat) : SameTables s (s.adjustBalance n) := by
  simp [State.adjustBalance]
@[simp] theorem State.adjustTrim_tables (n : Nat) : SameTables s (s.adjustTrim n) := by simp [State.adjustTrim]
@[simp] theorem State.adjustGain_tables (n : Nat) : SameTables s (s.adjustGain n) := by simp [State.adjustGain]
@[simp] theorem State.adjustCount_tables (n : Nat) : SameTables s (s.adjustCount n) := by simp [State.adjustCount]
@[simp] theorem State.checkPeak_tables (n : Nat) : SameTables s (s.checkPeak n) := by simp [State.checkPeak]
@[simp] theorem State.railFrameEnd_tables (n : Nat) : SameTables s (s.railFrameEnd n) := by simp [State.railFrameEnd]
@[simp] theorem State.railSample_tables (n : Nat) : SameTables s (s.railSample n) := by simp [State.railSample]

/-! ### Rail commands and forecasts -/

@[simp] theorem State.railOnOp_tables (k : Nat) (d : RawDesc) : SameButLive s (s.railOnOp k d) := by
  cases h : s.railOnCause (descIndex d) (descField d 24 2) <;> simp [State.railOnOp, h]
@[simp] theorem State.railOffOp_tables (k : Nat) (d : RawDesc) : SameTables s (s.railOffOp k d) := by
  simp [State.railOffOp]
@[simp] theorem State.railSetOp_tables (k : Nat) (d : RawDesc) : SameTables s (s.railSetOp k d) := by
  simp [State.railSetOp]
@[simp] theorem State.specStart_tables (n : Nat) (lead : Bool) : SameTables s (s.specStart n lead) := by
  unfold State.specStart; split <;> simp
@[simp] theorem State.putForecast_tables (n : Nat) (lead : Bool) (e : Fc) : SameTables s (s.putForecast n lead e) := by
  unfold State.putForecast
  cases (s.rail n).entry lead with
  | none => simp
  | some o => cases h : o.slot <;> simp [h]
@[simp] theorem State.forecastOp_tables (k : Nat) (d : RawDesc) : SameTables s (s.forecastOp k d) := by
  simp [State.forecastOp]
@[simp] theorem State.confirmFc_tables (n : Nat) (lead : Bool) : SameTables s (s.confirmFc n lead) := by
  unfold State.confirmFc
  split
  · simp
  next e _ => cases e.slot <;> simp

/-! ### Rail protection -/

@[simp] theorem State.timerStart_tables (n kind : Nat) (started : Bool) (value level : Int) :
    SameTables s (s.timerStart n kind started value level) := by
  simp [State.timerStart]
@[simp] theorem State.railStep1_tables (n : Nat) : SameTables s (s.railStep1 n) := by simp [State.railStep1]
@[simp] theorem State.warn_tables (n kind : Nat) (now set clr : Bool) (value level : Int) :
    SameTables s (s.warn n kind now set clr value level).1 := by
  simp [State.warn]
@[simp] theorem State.railStep2_tables (n : Nat) : SameTables s (s.railStep2 n) := by simp [State.railStep2]
@[simp] theorem State.railStep3_tables (n : Nat) : SameTables s (s.railStep3 n) := by
  refine SameTables.ite (by simp) ?_
  split <;> simp
@[simp] theorem State.failedDown_tables (n cause : Nat) : SameTables s (s.failedDown n cause) := by
  simp [State.failedDown]
@[simp] theorem State.faultAct_tables (n : Nat) (causes : List Nat) : SameTables s (s.faultAct n causes) := by
  simp [State.faultAct]
@[simp] theorem State.railClearOp_tables (k : Nat) (d : RawDesc) : SameTables s (s.railClearOp k d) := by
  simp [State.railClearOp]

/-! ### Event recorder and trace -/

@[simp] theorem State.suppressedRecord_tables (b : Bucket) : SameTables s (s.suppressedRecord b) := by
  simp [State.suppressedRecord]
@[simp] theorem State.drainPend_tables (k : Nat) : SameTables s (s.drainPend k) := by
  induction k generalizing s with
  | zero => exact .refl s
  | succ k ih => rw [State.drainPend]; split <;> simp [ih]
@[simp] theorem State.recEpoch_tables : SameTables s s.recEpoch := by
  unfold State.recEpoch
  refine .trans ?_ (.foldl (fun s b => ?_) _ _)
  · simp
  · split <;> simp
@[simp] theorem State.program_tables (k : Nat) : SameTables s (s.program k) := by
  unfold State.program
  dsimp only
  split <;> simp
@[simp] theorem State.lostRecords_tables : SameTables s s.lostRecords := by simp [State.lostRecords]
@[simp] theorem State.flushAll_tables : SameTables s s.flushAll := by simp [State.flushAll]
@[simp] theorem State.recReadOp_tables (k : Nat) (d : RawDesc) : SameTables s (s.recReadOp k d) := by
  simp [State.recReadOp]
@[simp] theorem State.logHead_tables : SameTables s s.logHead := by simp [State.logHead]
@[simp] theorem State.admitHeld_tables : SameTables s s.admitHeld := by simp [State.admitHeld]
@[simp] theorem State.admitFloor_tables : SameTables s s.admitFloor := by simp [State.admitFloor]
@[simp] theorem State.traceBegin_tables : SameTables s s.traceBegin := by simp [State.traceBegin]
@[simp] theorem State.traceEntry_tables : SameTables s s.traceEntry := by simp [State.traceEntry]
@[simp] theorem State.traceResume_tables : SameTables s s.traceResume := by simp [State.traceResume]
@[simp] theorem State.traceAbandon_tables : SameTables s s.traceAbandon := by simp [State.traceAbandon]
@[simp] theorem State.recTriggerOp_tables (k : Nat) (d : RawDesc) : SameTables s (s.recTriggerOp k d) := by
  unfold State.recTriggerOp
  dsimp only
  split <;> simp

/-! ### Maintenance -/

@[simp] theorem State.maintBegin_tables (c arg : Nat) : SameTables s (s.maintBegin c arg) := by
  unfold State.maintBegin; split <;> simp
@[simp] theorem State.maintStartOp_tables (k : Nat) (d : RawDesc) : SameTables s (s.maintStartOp k d) := by
  unfold State.maintStartOp
  dsimp only
  split
  · simp
  · cases s.maintForbids (descField d 24 1) <;> simp
@[simp] theorem State.maintCut_tables (c outcome : Nat) : SameTables s (s.maintCut c outcome) := by
  unfold State.maintCut; split <;> simp
@[simp] theorem State.maintFailAll_tables : SameTables s s.maintFailAll := by simp [State.maintFailAll]
@[simp] theorem State.maintStopOp_tables (k : Nat) (d : RawDesc) : SameTables s (s.maintStopOp k d) := by
  simp [State.maintStopOp]
@[simp] theorem State.askWarm_tables (cause : Nat) : SameTables s (s.askWarm cause) := by simp [State.askWarm]
@[simp] theorem State.testClear_tables : SameShape s s.testClear := by simp [State.testClear]
@[simp] theorem State.testLockTo_tables (b : Bool) (cause : Nat) : SameTables s (s.testLockTo b cause) := by
  simp [State.testLockTo]

/-! ### Waybill -/

@[simp] theorem State.waySnap_tables : SameTables s s.waySnap := by simp [State.waySnap]
@[simp] theorem State.wayTo_tables (st cause : Nat) : SameTables s (s.wayTo st cause) := by simp [State.wayTo]
@[simp] theorem State.waySkip_tables (reason : Nat) : SameTables s (s.waySkip reason) := by
  unfold State.waySkip; split <;> simp
@[simp] theorem State.wayBegin_tables : SameTables s s.wayBegin := by simp [State.wayBegin]
@[simp] theorem State.wayBuild_tables : SameTables s s.wayBuild := by simp [State.wayBuild]
@[simp] theorem State.wayWrite_tables (g : Nat) (b : List Byte) : SameTables s (s.wayWrite g b) := by
  simp [State.wayWrite]

/-! ### Drayline -/

@[simp] theorem State.modNode_tables (n : Nat) (f : Node → Node) : SameTables s (s.modNode n f) := by
  simp [State.modNode]
@[simp] theorem State.countRx_tables (h : DrayHdr) : SameTables s (s.countRx h) := by simp [State.countRx]
@[simp] theorem State.dropStale_tables (h : DrayHdr) (reason : Nat) : SameTables s (s.dropStale h reason) := by
  simp [State.dropStale]
@[simp] theorem State.keepTrack_tables (h : DrayHdr) : SameTables s (s.keepTrack h) := by simp [State.keepTrack]
@[simp] theorem State.joinRecord_tables (port node session event : Nat) :
    SameTables s (s.joinRecord port node session event) := by
  simp [State.joinRecord]
@[simp] theorem State.retireLead_tables : SameTables s s.retireLead := by simp [State.retireLead]
@[simp] theorem State.alignTo_tables (st : AlignState) : SameTables s (s.alignTo st) := by simp [State.alignTo]
@[simp] theorem State.alignLockRecord_tables : SameTables s s.alignLockRecord := by simp [State.alignLockRecord]
@[simp] theorem State.alignSample_tables (leader own : Int) : SameTables s (s.alignSample leader own) := by
  unfold State.alignSample
  refine .ite (by simp) ?_
  exact .ite (.trans (by simp) (State.alignTo_tables _ _)) (by simp)
@[simp] theorem State.beaconIn_tables (h : DrayHdr) (prevSfd : Nat) (joined : BitVec 8) (stamp : Nat) :
    SameTables s (s.beaconIn h prevSfd joined stamp) := by
  unfold State.beaconIn
  dsimp only
  split <;> simp
@[simp] theorem State.conflictIn_tables (h : DrayHdr) : SameTables s (s.conflictIn h) := by simp [State.conflictIn]
@[simp] theorem State.nodeAcks_tables (n : Nat) (p : DrayUp) : SameTables s (s.nodeAcks n p) := by
  unfold State.nodeAcks
  refine .trans ?_ (.foldl (fun s q => ?_) _ _)
  · simp
  · split <;> simp
@[simp] theorem State.upIn_tables (h : DrayHdr) (p : DrayUp) : SameTables s (s.upIn h p) := by
  unfold State.upIn
  extract_lets n new was s1 s2 s3 e _ s4 s5
  have h3 : SameTables s s3 := by simp [s3, s2, s1]
  have h4 : SameTables s3 s4 := by
    unfold s4
    split <;> simp
  exact h3.trans (h4.trans (by simp [s5]))
@[simp] theorem State.upward_tables (h : DrayHdr) (p : DrayUp) (f : State → State) (hf : ∀ s, SameTables s (f s)) :
    SameTables s (s.upward h p f) := by
  simp only [SameTables, SameShape, and_assoc, forall_and] at hf
  simp [State.upward, hf]
@[simp] theorem State.alarmRaise_tables (bits : Nat) : SameTables s (s.alarmRaise bits) := by simp [State.alarmRaise]
@[simp] theorem State.putFrame_tables (f : DraySent) : SameTables s (s.putFrame f) := by simp [State.putFrame]
@[simp] theorem State.sendDown_tables (type dst : Nat) (payload : List Byte) :
    SameTables s (s.sendDown type dst payload) := by
  simp [State.sendDown]
@[simp] theorem State.sendUp_tables (type subject event : Nat) (summary : List Byte) (subjEpoch : Nat) :
    SameTables s (s.sendUp type subject event summary subjEpoch) := by
  simp [State.sendUp]
@[simp] theorem State.sendItem_tables (q : DrayQ) : SameTables s (s.sendItem q) := by
  cases q with
  | st stage slot t => cases slot <;> simp [State.sendItem]
  | fc => simp [State.sendItem]
@[simp] theorem State.burstDown_tables (sfd : Nat) : SameTables s (s.burstDown sfd) := by
  unfold State.burstDown
  dsimp only
  split <;> simp
@[simp] theorem State.frameUp_tables : SameTables s s.frameUp := by
  unfold State.frameUp
  dsimp only
  split
  · simp
  · split
    · split <;> simp
    · simp
@[simp] theorem State.drayFrame_tables : SameTables s s.drayFrame := by
  unfold State.drayFrame
  extract_lets bits new s1 down _ s2 late gone _ s3 s4 _ s5
  have h3 : SameTables s s3 := by simp [s3, s2, s1]
  have h4 : SameTables s3 s4 := .foldl (fun s q => by split <;> simp) _ _
  exact h3.trans (h4.trans (by simp [s5]))
@[simp] theorem State.skipPort_tables (port : Nat) : SameTables s (s.skipPort port) := by simp [State.skipPort]
@[simp] theorem State.drayEpoch_tables : SameTables s s.drayEpoch := by simp [State.drayEpoch]

/-! ### The frame's work -/

@[simp] theorem State.checkIpeak_tables (n : Nat) : SameTables s (s.checkIpeak n) := by simp [State.checkIpeak]
@[simp] theorem State.outputsStep_tables : SameTables s s.outputsStep := by simp [State.outputsStep]
@[simp] theorem State.ctlEnd_tables : SameTables s s.ctlEnd := by simp [State.ctlEnd]
@[simp] theorem State.ctlSteps_tables (sws : Bool) : SameButLive s (s.ctlSteps sws) := by simp [State.ctlSteps]
@[simp] theorem State.floorSteps_tables (sws : Bool) : SameButLive s (s.floorSteps sws) := by simp [State.floorSteps]
@[simp] theorem State.clockFrame_tables : SameTables s s.clockFrame := by simp [State.clockFrame]
@[simp] theorem State.wallTake_tables : SameTables s s.wallTake := by simp [State.wallTake]
@[simp] theorem State.intakeFrame_tables : SameTables s s.intakeFrame := by simp [State.intakeFrame]
@[simp] theorem State.testFrame_tables : SameTables s s.testFrame := by simp [State.testFrame]
@[simp] theorem State.takeLive_tables : SameShape s s.takeLive := by simp [State.takeLive]
@[simp] theorem State.houseSample_tables : SameTables s s.houseSample := by simp [State.houseSample]
@[simp] theorem State.epochAverages_tables : SameTables s s.epochAverages := by simp [State.epochAverages]
@[simp] theorem State.railSummaries_tables (n : Nat) : SameTables s (s.railSummaries n) := by
  simp [State.railSummaries]
@[simp] theorem State.specSummary_tables : SameTables s s.specSummary := by simp [State.specSummary]
@[simp] theorem State.swSummary_tables (n : Nat) : SameTables s (s.swSummary n) := by simp [State.swSummary]
@[simp] theorem State.otherSummaries_tables : SameTables s s.otherSummaries := by simp [State.otherSummaries]
@[simp] theorem State.holdEpoch_tables : SameTables s s.holdEpoch := by
  unfold State.holdEpoch
  refine .ite (.refl s) ?_
  extract_lets est _ s1 low
  have h1 : SameTables s s1 := by simp [s1]
  exact .ite (h1.trans (by split <;> simp)) h1

/-! ### Safe floor: what it does to the units -/

@[simp] theorem State.floorEnds_tables (n : Nat) : SameTables s (s.floorEnds n) := by
  cases h : (s.rail n).onSlot <;> cases k : (s.rail n).setSlot <;> simp [State.floorEnds, h, k]
@[simp] theorem State.floorRailAt_tables (n : Nat) : SameTables s (s.floorRailAt n) := by simp [State.floorRailAt]
@[simp] theorem State.floorSwAt_tables (n : Nat) : SameTables s (s.floorSwAt n) := by simp [State.floorSwAt]
@[simp] theorem State.capStop_tables : SameTables s s.capStop := by simp [State.capStop]
@[simp] theorem State.floorSeq_tables : SameTables s s.floorSeq := by simp [State.floorSeq]
@[simp] theorem State.floorPath_tables : SameTables s s.floorPath := by simp [State.floorPath]
@[simp] theorem State.floorLists_tables : SameTables s s.floorLists := by simp [State.floorLists]
@[simp] theorem State.floorUnits_tables : SameTables s s.floorUnits := by simp [State.floorUnits]
@[simp] theorem State.floorWork_tables : SameTables s s.floorWork := by simp [State.floorWork]
@[simp] theorem State.floorLeave_tables : SameTables s s.floorLeave := by simp [State.floorLeave]

/-! ### Tandem pair -/

@[simp] theorem State.tdmTo_tables (st : TState) (cause : Nat) : SameTables s (s.tdmTo st cause) := by
  simp [State.tdmTo]
@[simp] theorem State.shadowEnd_tables : SameTables s s.shadowEnd := by simp [State.shadowEnd]
@[simp] theorem State.misRecord_tables (outcome : Nat) : SameTables s (s.misRecord outcome) := by
  simp [State.misRecord]
@[simp] theorem State.forgetSlots_tables : SameTables s s.forgetSlots := by simp [State.forgetSlots]
@[simp] theorem State.outputsOff_tables : SameTables s s.outputsOff := by simp [State.outputsOff]
@[simp] theorem State.standDown_tables : SameTables s s.standDown := by simp [State.standDown]
@[simp] theorem State.faulty_tables (cause : Nat) : SameTables s (s.faulty cause) := by simp [State.faulty]
@[simp] theorem State.startJoin_tables : SameTables s s.startJoin := by simp [State.startJoin]
@[simp] theorem State.yieldNow_tables : SameTables s s.yieldNow := by simp [State.yieldNow]
@[simp] theorem State.blockFrame_tables : SameTables s s.blockFrame := by simp [State.blockFrame]
@[simp] theorem State.stbyFrame_tables : SameTables s s.stbyFrame := by
  refine SameTables.ite ?_ (by simp)
  dsimp only
  split <;> simp
@[simp] theorem State.install_tables (c : Carried) (mask : BitVec 16) : SameTables s (s.install c mask) := by
  simp [State.install]
@[simp] theorem State.blockTags_tables (b : StateBlock) : SameTables s (s.blockTags b) := by simp [State.blockTags]
@[simp] theorem State.blockCqs_tables (b : StateBlock) : SameTables s (s.blockCqs b) :=
  .foldl (fun _ _ => by simp) _ _
@[simp] theorem State.recompute_tables (prev : Option Sample) (b : StateBlock) : SameButLive s (s.recompute prev b) := by
  unfold State.recompute; split <;> simp
@[simp] theorem State.unequal_tables (b : StateBlock) (mask : BitVec 16) : SameTables s (s.unequal b mask) := by
  simp [State.unequal]
@[simp] theorem State.equal_tables : SameTables s s.equal := by simp [State.equal]
@[simp] theorem State.compare_tables (b : StateBlock) : SameTables s (s.compare b) := by simp [State.compare]
@[simp] theorem State.blockData_tables (b : StateBlock) : SameTables s (s.blockData b) := by
  unfold State.blockData
  dsimp only
  split <;> simp
@[simp] theorem State.blockIn_tables (b : StateBlock) : SameButLive s (s.blockIn b) := by simp [State.blockIn]
@[simp] theorem State.stbyFaults_tables (b : StatusBlock) : SameTables s (s.stbyFaults b) := by
  cases h : b.phaseFault <;> cases k : b.swTrip <;> simp [State.stbyFaults, h, k]
@[simp] theorem State.linkLoss_tables (cause lane : Nat) : SameTables s (s.linkLoss cause lane) := by
  unfold State.linkLoss
  dsimp only
  split <;> simp
@[simp] theorem State.takeRings_tables (b : StateBlock) : SameTables s (s.takeRings b) :=
  .each (fun _ _ => by simp) _ _
@[simp] theorem State.takeRail_tables (n : Nat) : SameTables s (s.takeRail n) := by simp [State.takeRail]
@[simp] theorem State.takeSw_tables (b : StateBlock) (n : Nat) : SameTables s (s.takeSw b n) := by simp [State.takeSw]
@[simp] theorem State.drillEnd_tables (outcome : Nat) : SameTables s (s.drillEnd outcome) := by simp [State.drillEnd]
@[simp] theorem State.drillTake_tables (yieldCause : Nat) : SameTables s (s.drillTake yieldCause) := by
  simp [State.drillTake]
@[simp] theorem State.joinRecordOut_tables (outcome : Nat) : SameTables s (s.joinRecordOut outcome) := by
  simp [State.joinRecordOut]
@[simp] theorem State.keptDoorbells_tables : SameTables s s.keptDoorbells := by simp [State.keptDoorbells]
@[simp] theorem State.tdmBegin_tables : SameTables s s.tdmBegin := by simp [State.tdmBegin]
@[simp] theorem State.drillFrame_tables : SameTables s s.drillFrame := by simp [State.drillFrame]

/-! ### Safe floor and what leads to it -/

@[simp] theorem State.floorRest_tables : SameButLive s s.floorRest := by simp [State.floorRest]
@[simp] theorem State.linkBack_tables : SameTables s s.linkBack := by simp [State.linkBack]
@[simp] theorem State.thirdOverrun_tables (e first : Nat) : SameTables s (s.thirdOverrun e first) := by
  simp [State.thirdOverrun]
@[simp] theorem State.overrun_tables (e slice cycles : Nat) (dbl : Bool) :
    SameTables s (s.overrun e slice cycles dbl) := by
  unfold State.overrun
  refine .ite ?_ (.refl s)
  dsimp only
  split <;> simp

/-! ### Reference clock -/

@[simp] theorem State.xtalEpoch_tables : SameTables s s.xtalEpoch := by simp [State.xtalEpoch]

/-! ### Resets and supplies' loss -/

@[simp] theorem State.crossFlush_tables : SameTables s s.crossFlush := by simp [State.crossFlush]

/-! ### Boot, readiness, locks, hibernate -/

@[simp] theorem State.bankReject_tables (b : Nat) (bytes : List Byte) : SameTables s (s.bankReject b bytes) := by
  simp [State.bankReject]
@[simp] theorem State.bankTries_tables : SameTables s s.bankTries := by simp [State.bankTries]
@[simp] theorem State.slotReject_tables (slot : Nat) (im : List Byte) : SameTables s (s.slotReject slot im) := by
  unfold State.slotReject; split <;> simp
@[simp] theorem State.tdmSettle_tables : SameTables s s.tdmSettle := by simp [State.tdmSettle]
@[simp] theorem State.bringUp_tables (f : Nat) : SameTables s (s.bringUp f) := by
  unfold State.bringUp
  split
  · simp
  · simp
  · split
    · simp
    · dsimp only; split <;> simp
  · simp
  · simp
  · simp
@[simp] theorem State.hibernateOp_tables (k : Nat) : SameTables s (s.hibernateOp k) := by
  unfold State.hibernateOp; split <;> simp
@[simp] theorem State.wakeUp_tables (src ns : Nat) : SameTables s (s.wakeUp src ns) := by simp [State.wakeUp]

/-! ### Register writes -/

@[simp] theorem State.putReg_tables (off w : Nat) : SameShape s (s.putReg off w) := by simp [State.putReg]
@[simp] theorem State.putRing_tables (off w : Nat) : SameShape s (s.putRing off w) := by simp [State.putRing]
@[simp] theorem State.putTest_tables (off w : Nat) : SameShape s (s.putTest off w) := by simp [State.putTest]
@[simp] theorem State.putMsix_tables (a : Nat) (w : Word) : SameTables s (s.putMsix a w) := by
  unfold State.putMsix; split <;> simp
@[simp] theorem State.putAny_tables (off : Nat) (w : Word) : SameShape s (s.putAny off w) := by simp [State.putAny]

/-! ### Frame and epoch boundary -/

@[simp] theorem State.frameEnd_tables : SameTables s s.frameEnd := by simp [State.frameEnd]
@[simp] theorem State.openFrame_tables : SameTables s s.openFrame := by simp [State.openFrame]
@[simp] theorem State.domains_tables : SameTables s s.domains := by simp [State.domains]
@[simp] theorem State.liveTighten_tables (old : State) : SameTables s (s.liveTighten old) := by
  simp [State.liveTighten]
@[simp] theorem State.regsLive_tables : SameShape s s.regsLive := by simp [State.regsLive]
@[simp] theorem State.frameOpen_tables : SameShape s s.frameOpen := by simp [State.frameOpen]
@[simp] theorem State.frameSteps_tables : SameButLive s s.frameSteps := by simp [State.frameSteps]
@[simp] theorem State.eightMissed_tables : SameTables s s.eightMissed := by simp [State.eightMissed]
@[simp] theorem State.drillEpoch_tables : SameTables s s.drillEpoch := by simp [State.drillEpoch]
@[simp] theorem State.digestEpoch_tables : SameTables s s.digestEpoch := by simp [State.digestEpoch]
@[simp] theorem State.epochControl_tables : SameTables s s.epochControl := by simp [State.epochControl]
@[simp] theorem State.epochSummaries_tables : SameTables s s.epochSummaries := by simp [State.epochSummaries]
@[simp] theorem State.epochWork_tables : SameTables s s.epochWork := by simp [State.epochWork]
end
end Sys2Proof.Machine
end

section
/-! What no command changes of the part itself: the variant, and but for ROLLBACK_ADVANCE (R729) the anti-rollback counter
with its advances left. Most operations leave all of `sys`; the lemmas here are about those that write a part of it. -/

namespace Sys2Proof.Machine

/-- The variant, the anti-rollback counter and the advances left are as they were. -/
@[simp] abbrev SameIdentity (s t : State) : Prop :=
  t.sys.variant = s.sys.variant ∧ t.sys.rollback = s.sys.rollback ∧ t.sys.rollbackLeft = s.sys.rollbackLeft

@[simp] theorem ite_rollback (c : Prop) [Decidable c] (a b : Sys) :
    (if c then a else b).rollback = if c then a.rollback else b.rollback := by split <;> rfl
@[simp] theorem ite_rollbackLeft (c : Prop) [Decidable c] (a b : Sys) :
    (if c then a else b).rollbackLeft = if c then a.rollbackLeft else b.rollbackLeft := by split <;> rfl
theorem SameIdentity.of_sys {s t : State} (h : t.sys = s.sys) : SameIdentity s t := by simp [h]
theorem SameIdentity.ite {c : Prop} [Decidable c] {a b t : State} (ha : SameIdentity t a) (hb : SameIdentity t b) :
    SameIdentity t (if c then a else b) := by split <;> assumption

/-- Of a served descriptor's operation only `f` may write `sys`. -/
theorem applyDesc_identity {op k : Nat} {fn : RawDesc → Option Nat} {f : RawDesc → State → State}
    (h : ∀ d s, SameIdentity s (f d s)) (s : State) : SameIdentity s (s.applyDesc op k fn f) := by
  simp only [SameIdentity, forall_and] at h
  have hrest : SameIdentity s (s.applyRest op k f) := by
    unfold State.applyRest
    dsimp only
    repeat' split
    all_goals simp [h]
  unfold State.applyDesc
  dsimp only
  repeat' split
  all_goals simpa using hrest

section
variable (s : State)

@[simp] theorem State.loadImage_identity (im : List Byte) : SameIdentity s (s.loadImage im) := by
  simp [State.loadImage]
@[simp] theorem State.askWarm_identity (cause : Nat) : SameIdentity s (s.askWarm cause) := by simp [State.askWarm]
@[simp] theorem State.drayEpoch_identity : SameIdentity s s.drayEpoch := by simp [State.drayEpoch]
@[simp] theorem State.houseSample_identity : SameIdentity s s.houseSample := by simp [State.houseSample]
@[simp] theorem State.forgetSlots_identity : SameIdentity s s.forgetSlots := by simp [State.forgetSlots]
@[simp] theorem State.standDown_identity : SameIdentity s s.standDown := by simp [State.standDown]
@[simp] theorem State.faulty_identity (cause : Nat) : SameIdentity s (s.faulty cause) := by simp [State.faulty]
@[simp] theorem State.yieldNow_identity : SameIdentity s s.yieldNow := by simp [State.yieldNow]
@[simp] theorem State.blockFrame_identity : SameIdentity s s.blockFrame := by simp [State.blockFrame]
@[simp] theorem State.unequal_identity (b : StateBlock) (mask : BitVec 16) : SameIdentity s (s.unequal b mask) := by
  simp [State.unequal]
@[simp] theorem State.compare_identity (b : StateBlock) : SameIdentity s (s.compare b) := by simp [State.compare]
@[simp] theorem State.blockIn_identity (b : StateBlock) : SameIdentity s (s.blockIn b) := by simp [State.blockIn]
@[simp] theorem State.linkLoss_identity (cause lane : Nat) : SameIdentity s (s.linkLoss cause lane) := by
  unfold State.linkLoss
  dsimp only
  split <;> simp
@[simp] theorem State.tdmBegin_identity : SameIdentity s s.tdmBegin := by simp [State.tdmBegin]
@[simp] theorem State.crossFlush_identity : SameIdentity s s.crossFlush := by simp [State.crossFlush]
@[simp] theorem State.bringUp_identity (f : Nat) : SameIdentity s (s.bringUp f) := by
  unfold State.bringUp
  split
  · simp
  · simp
  · split
    · simp
    · dsimp only; split <;> simp
  · simp
  · simp
  · simp
@[simp] theorem State.hibernateOp_identity (k : Nat) : SameIdentity s (s.hibernateOp k) := by
  unfold State.hibernateOp; split <;> simp
@[simp] theorem State.wakeUp_identity (src ns : Nat) : SameIdentity s (s.wakeUp src ns) := by simp [State.wakeUp]
@[simp] theorem State.putReg_identity (off w : Nat) : SameIdentity s (s.putReg off w) := by simp [State.putReg]
@[simp] theorem State.putRing_identity (off w : Nat) : SameIdentity s (s.putRing off w) := by simp [State.putRing]
@[simp] theorem State.putTest_identity (off w : Nat) : SameIdentity s (s.putTest off w) := by simp [State.putTest]
@[simp] theorem State.putAny_identity (off : Nat) (w : Word) : SameIdentity s (s.putAny off w) := by
  simp [State.putAny]
@[simp] theorem State.frameEnd_identity : SameIdentity s s.frameEnd := by simp [State.frameEnd]
@[simp] theorem State.openFrame_identity : SameIdentity s s.openFrame := by simp [State.openFrame]
@[simp] theorem State.domains_identity : SameIdentity s s.domains := by simp [State.domains]
@[simp] theorem State.frameOpen_identity : SameIdentity s s.frameOpen := by simp [State.frameOpen]
@[simp] theorem State.digestEpoch_identity : SameIdentity s s.digestEpoch := by simp [State.digestEpoch]
@[simp] theorem State.epochWork_identity : SameIdentity s s.epochWork := by simp [State.epochWork]
@[simp] theorem State.cutWrites_sys : s.cutWrites.sys = s.sys := by
  unfold State.cutWrites
  dsimp only
  repeat' split
  all_goals simp
@[simp] theorem State.rebooted_identity : SameIdentity s s.rebooted := by simp [State.rebooted]
@[simp] theorem State.colded_identity : SameIdentity s s.colded := by simp [State.colded]
@[simp] theorem State.lockUp_identity (source : Nat) : SameIdentity s (s.lockUp source) := by simp [State.lockUp]
@[simp] theorem State.ctrlWrite_identity (w : Word) : SameIdentity s (s.ctrlWrite w) := by simp [State.ctrlWrite]
end

end Sys2Proof.Machine
end

section
/-! The register lists stay canonical: in rising order of offset, with no register listed at its reset value. The operations
that write them are the writes of registers, the load of the image, a turn-on, which takes the rail's configuration into
force, and the frame boundary, which takes what was accepted into force. -/

namespace Sys2Proof.Machine

/-! ### The list -/

theorem regWf_iff {v : Variant} {l : List (Nat × Word)} :
    regWf v l = true ↔ l.Pairwise (fun p q => p.1 < q.1) ∧ ∀ p ∈ l, p.2.toNat ≠ regReset v p.1 := by
  induction l with
  | nil => simp [regWf]
  | cons p rest ih =>
    cases rest with
    | nil => simp [regWf]
    | cons q rest' =>
      rw [regWf, Bool.and_eq_true, ih, Bool.and_eq_true, bne_iff_ne, decide_eq_true_eq, List.pairwise_cons (a := p),
        List.forall_mem_cons (a := p), List.forall_mem_cons (a := q) (l := rest') (p := fun e => p.1 < e.1)]
      constructor
      · rintro ⟨⟨hp, hlt⟩, hsorted, hreset⟩
        exact ⟨⟨⟨hlt, fun e he => hlt.trans ((List.pairwise_cons.1 hsorted).1 e he)⟩, hsorted⟩, hp, hreset⟩
      · rintro ⟨⟨⟨hlt, -⟩, hsorted⟩, hp, hreset⟩
        exact ⟨⟨hp, hlt⟩, hsorted, hreset⟩

theorem regWf_filter {v : Variant} {l : List (Nat × Word)} (h : regWf v l = true) (keep : Nat × Word → Bool) :
    regWf v (l.filter keep) = true := by
  obtain ⟨hsorted, hreset⟩ := regWf_iff.1 h
  exact regWf_iff.2 ⟨hsorted.filter keep, fun p hp => hreset p (List.mem_of_mem_filter hp)⟩

theorem mem_regInsert {v : Variant} {off : Nat} {w : Word} {l : List (Nat × Word)} {p : Nat × Word}
    (h : p ∈ regInsert v off w l) : (p = (off, w) ∧ w.toNat ≠ regReset v off) ∨ p ∈ l := by
  induction l with
  | nil =>
    rw [regInsert] at h
    split at h
    · simp at h
    · next hw => exact .inl ⟨by simpa using h, hw⟩
  | cons e rest ih =>
    rw [regInsert] at h
    split at h
    · split at h <;> simp_all
    · split at h
      · next heq =>
        split at h
        · simp [h]
        · next hw =>
          rcases List.mem_cons.1 h with rfl | h
          · exact .inl ⟨by rw [heq], hw⟩
          · simp [h]
      · rcases List.mem_cons.1 h with rfl | h
        · simp
        · exact (ih h).imp_right (List.mem_cons_of_mem _)

theorem regInsert_wf {v : Variant} {l : List (Nat × Word)} (h : regWf v l = true) (off : Nat) (w : Word) :
    regWf v (regInsert v off w l) = true := by
  obtain ⟨hsorted, hreset⟩ := regWf_iff.1 h
  refine regWf_iff.2 ⟨?_, fun p hp => ?_⟩
  · clear h hreset
    induction l with
    | nil => rw [regInsert]; split <;> simp
    | cons e rest ih =>
      obtain ⟨hhead, hrest⟩ := List.pairwise_cons.1 hsorted
      rw [regInsert]
      split
      · next hlt =>
        split
        · exact hsorted
        · exact List.pairwise_cons.2 ⟨List.forall_mem_cons.2 ⟨hlt, fun q hq => hlt.trans (hhead q hq)⟩, hsorted⟩
      · split
        · next heq =>
          split
          · exact hrest
          · exact List.pairwise_cons.2 ⟨fun q hq => heq ▸ hhead q hq, hrest⟩
        · next hge hne =>
          refine List.pairwise_cons.2 ⟨fun q hq => ?_, ih hrest⟩
          rcases mem_regInsert hq with ⟨rfl, -⟩ | hq
          · show e.1 < off
            omega
          · exact hhead q hq
  · rcases mem_regInsert hp with ⟨rfl, hw⟩ | hp
    · exact hw
    · exact hreset p hp

theorem mem_mergeRegs {fuel : Nat} {a b : List (Nat × Word)} {p : Nat × Word} (h : p ∈ mergeRegs fuel a b) :
    p ∈ a ∨ p ∈ b := by
  induction fuel generalizing a b with
  | zero => simp [mergeRegs] at h
  | succ f ih =>
    cases a with
    | nil => exact .inr (by simpa [mergeRegs] using h)
    | cons x a =>
      cases b with
      | nil => exact .inl (by simpa [mergeRegs] using h)
      | cons y b =>
        rw [mergeRegs] at h
        split at h
        all_goals
          rcases List.mem_cons.1 h with rfl | h
          · simp
          · rcases ih h with h | h <;> simp_all

theorem mergeRegs_pairwise {fuel : Nat} {a b : List (Nat × Word)} (ha : a.Pairwise (fun p q => p.1 < q.1))
    (hb : b.Pairwise (fun p q => p.1 < q.1)) (hdisjoint : ∀ p ∈ a, ∀ q ∈ b, p.1 ≠ q.1) :
    (mergeRegs fuel a b).Pairwise (fun p q => p.1 < q.1) := by
  induction fuel generalizing a b with
  | zero => simp [mergeRegs]
  | succ f ih =>
    cases a with
    | nil => simpa [mergeRegs] using hb
    | cons x a =>
      cases b with
      | nil => simpa [mergeRegs] using ha
      | cons y b =>
        obtain ⟨hx, ha'⟩ := List.pairwise_cons.1 ha
        obtain ⟨hy, hb'⟩ := List.pairwise_cons.1 hb
        have hne : x.1 ≠ y.1 := hdisjoint x (by simp) y (by simp)
        rw [mergeRegs]
        split
        · next hlt =>
          refine List.pairwise_cons.2 ⟨fun q hq => ?_, ih ha' hb fun p hp => hdisjoint p (by simp [hp])⟩
          rcases mem_mergeRegs hq with hq | hq
          · exact hx q hq
          · rcases List.mem_cons.1 hq with rfl | hq
            · exact hlt
            · exact hlt.trans (hy q hq)
        · next hge =>
          have hlt : y.1 < x.1 := by omega
          refine List.pairwise_cons.2 ⟨fun q hq => ?_, ih ha hb' fun p hp q hq => hdisjoint p hp q (by simp [hq])⟩
          rcases mem_mergeRegs hq with hq | hq
          · rcases List.mem_cons.1 hq with rfl | hq
            · exact hlt
            · exact hlt.trans (hx q hq)
          · exact hy q hq

/-- What takes effect later stands apart from what is in force from the next frame, so that the two lists merge. -/
theorem mergeRegs_wf {v : Variant} {regs live : List (Nat × Word)} (hregs : regWf v regs = true)
    (hlive : regWf v live = true) (fuel : Nat) :
    regWf v (mergeRegs fuel (regs.filter fun r => !liveLater r.1) (live.filter fun r => liveLater r.1)) = true := by
  obtain ⟨hnow, hnowReset⟩ := regWf_iff.1 (regWf_filter hregs fun r => !liveLater r.1)
  obtain ⟨hlater, hlaterReset⟩ := regWf_iff.1 (regWf_filter hlive fun r => liveLater r.1)
  refine regWf_iff.2 ⟨mergeRegs_pairwise hnow hlater fun p hp q hq heq => ?_, fun p hp => ?_⟩
  · have hp := (List.mem_filter.1 hp).2
    have hq := (List.mem_filter.1 hq).2
    simp_all
  · exact (mem_mergeRegs hp).elim (hnowReset p) (hlaterReset p)

@[simp] theorem regWf_ite (v : Variant) (c : Prop) [Decidable c] (a b : List (Nat × Word)) :
    regWf v (if c then a else b) = if c then regWf v a else regWf v b := by split <;> rfl

/-! ### The operations that write it -/

section
variable {v : Variant} {s : State} (hv : s.sys.variant = v)
include hv

@[simp] theorem State.loadReg_regsWf (hregs : regWf v s.regs = true) (off w : Nat) :
    regWf v (s.loadReg off w).regs = true := by
  subst hv
  exact regInsert_wf hregs _ _
@[simp] theorem State.loadReg_liveWf (hlive : regWf v s.live = true) (off w : Nat) :
    regWf v (s.loadReg off w).live = true := by
  subst hv
  exact regInsert_wf hlive _ _
@[simp] theorem State.putReg_regsWf (hregs : regWf v s.regs = true) (off w : Nat) :
    regWf v (s.putReg off w).regs = true := by
  subst hv
  have := regInsert_wf hregs off
  simp [State.putReg, this]
@[simp] theorem State.loadRailCfg_liveWf (hlive : regWf v s.live = true) (n : Nat) :
    regWf v (s.loadRailCfg n).live = true := by
  subst hv
  exact regInsert_wf (regInsert_wf (regInsert_wf hlive _ _) _ _) _ _
@[simp] theorem State.takeLive_liveWf (hregs : regWf v s.regs = true) (hlive : regWf v s.live = true) :
    regWf v s.takeLive.live = true := mergeRegs_wf hregs hlive _
end

/-! ### Turn-ons and what leads to them -/

/-- The step keeps the variant and, with it, a canonical list of the registers in force. -/
def LiveWfStep {β : Type} (f : State → β → State) : Prop :=
  ∀ (v : Variant) (s : State) (b : β), s.sys.variant = v → regWf v s.live = true →
    (f s b).sys.variant = v ∧ regWf v (f s b).live = true

theorem LiveWfStep.each {f : State → Nat → State} (hf : LiveWfStep f) {v : Variant} {s : State} (hv : s.sys.variant = v)
    (hlive : regWf v s.live = true) (l : List Nat) : regWf v (s.each l f).live = true :=
  (each_inv f (fun s => s.sys.variant = v ∧ regWf v s.live = true) (fun s k h => hf v s k h.1 h.2) l s ⟨hv, hlive⟩).2

section
variable {v : Variant} {s : State} (hv : s.sys.variant = v) (hlive : regWf v s.live = true)
include hv hlive

@[simp] theorem State.startUnit_liveWf (n target rate delay : Nat) :
    regWf v (s.startUnit n target rate delay).live = true := by
  unfold State.startUnit
  dsimp only
  split <;> simp [hv, hlive]
@[simp] theorem State.turnOn_liveWf (n target delay : Nat) : regWf v (s.turnOn n target delay).1.live = true := by
  unfold State.turnOn
  refine LiveWfStep.each (fun v s u hv hlive => ?_) (by simp [hv]) (by simp [hlive]) _
  simp [hv, hlive]
@[simp] theorem State.stepAct_liveWf (st : Step) : regWf v (s.stepAct st).live = true := by
  unfold State.stepAct
  split <;> simp [hv, hlive]
@[simp] theorem State.startStep_liveWf (i : Nat) : regWf v (s.startStep i).live = true := by
  unfold State.startStep
  dsimp only
  split <;> simp [hv, hlive]
@[simp] theorem State.seqAdvance_liveWf : regWf v s.seqAdvance.live = true := by
  simp [State.seqAdvance, hv, hlive]
@[simp] theorem State.progStart_liveWf : regWf v s.progStart.live = true := by
  unfold State.progStart
  split <;> simp [hv, hlive]
@[simp] theorem State.restoreOne_liveWf : regWf v s.restoreOne.live = true := by
  unfold State.restoreOne
  split <;> simp [hv, hlive]
@[simp] theorem State.railOnOp_liveWf (k : Nat) (d : RawDesc) : regWf v (s.railOnOp k d).live = true := by
  cases h : s.railOnCause (descIndex d) (descField d 24 2) <;> simp [State.railOnOp, h, hv, hlive]
@[simp] theorem State.pathStep_liveWf : regWf v s.pathStep.live = true := by simp [State.pathStep, hv, hlive]
@[simp] theorem State.seqFrame_liveWf : regWf v s.seqFrame.live = true := by simp [State.seqFrame, hv, hlive]
@[simp] theorem State.ctlSteps_liveWf (sws : Bool) : regWf v (s.ctlSteps sws).live = true := by
  refine State.seqFrame_liveWf (by simp [hv]) ?_
  simp [hv, hlive]
@[simp] theorem State.floorSteps_liveWf (sws : Bool) : regWf v (s.floorSteps sws).live = true := by
  refine State.seqFrame_liveWf (by simp [hv]) ?_
  simp [hv, hlive]
/-- `s₃`: the descriptors taken in; `s₄`: in the floor or out of it; `s₆`: after the frame's steps. -/
@[simp] theorem State.recompute_liveWf (prev : Option Sample) (b : StateBlock) : regWf v (s.recompute prev b).live = true := by
  unfold State.recompute
  extract_lets
  rename_i s₁ _ s₂ s₃ s₄ _ s₅ s₆ _
  have hsys₃ : s₃.sys.variant = v := by simp [s₃, s₂, s₁]; split <;> simp [hv]
  have hlive₃ : regWf v s₃.live = true := by simp [s₃, s₂, s₁]; split <;> simp [hlive]
  have hsys₄ : s₄.sys.variant = v := by simp [s₄, hsys₃]
  have hlive₄ : regWf v s₄.live = true := by simp [s₄, hlive₃]
  have hlive₆ : regWf v s₆.live = true := by simp [s₆, s₅, hsys₄, hlive₄]
  exact hlive₆
@[simp] theorem State.floorRest_liveWf : regWf v s.floorRest.live = true := by simp [State.floorRest, hv, hlive]
@[simp] theorem State.frameSteps_liveWf : regWf v s.frameSteps.live = true := by simp [State.frameSteps, hv, hlive]
/-- `s₃`: the block recomputed; `s₅`: the takeover noted. -/
@[simp] theorem State.blockIn_liveWf (b : StateBlock) : regWf v (s.blockIn b).live = true := by
  unfold State.blockIn
  extract_lets
  rename_i s₁ s₂ _ s₃ s₄ _ s₅ s₆ s₇ _
  have hlive₃ : regWf v s₃.live = true := by simp [s₃, s₂, s₁, hv, hlive]
  have hlive₅ : regWf v s₅.live = true := by simp [s₅, s₄, hlive₃]
  simp [s₇, s₆, hlive₅]
end

/-! ### Writes and loads of registers -/

@[simp] theorem State.putAny_live (s : State) (off : Nat) (w : Word) : (s.putAny off w).live = s.live := by
  simp [State.putAny, State.putRing, State.putTest, State.putReg]
@[simp] theorem State.regsLive_regs (s : State) : s.regsLive.regs = s.regs := by simp [State.regsLive, State.takeLive]
@[simp] theorem State.frameOpen_regs (s : State) : s.frameOpen.regs = s.regs := by simp [State.frameOpen]

section
variable {v : Variant} {s : State} (hv : s.sys.variant = v)
include hv

@[simp] theorem State.putRing_regsWf (hregs : regWf v s.regs = true) (off w : Nat) : regWf v (s.putRing off w).regs = true := by
  simp [State.putRing, hv, hregs]
@[simp] theorem State.putTest_regsWf (hregs : regWf v s.regs = true) (off w : Nat) : regWf v (s.putTest off w).regs = true := by
  simp [State.putTest, hv, hregs]
@[simp] theorem State.putAny_regsWf (hregs : regWf v s.regs = true) (off : Nat) (w : Word) :
    regWf v (s.putAny off w).regs = true := by
  simp [State.putAny, hv, hregs]
@[simp] theorem State.ringToRegs_regsWf (hregs : regWf v s.regs = true) (r : Nat) (h : Ring) :
    regWf v (s.ringToRegs r h).regs = true := by
  unfold State.ringToRegs
  iterate 4 refine State.loadReg_regsWf (by simp [hv]) ?_ _ _
  exact hregs
@[simp] theorem State.ringToRegs_liveWf (hlive : regWf v s.live = true) (r : Nat) (h : Ring) :
    regWf v (s.ringToRegs r h).live = true := by
  unfold State.ringToRegs
  iterate 4 refine State.loadReg_liveWf (by simp [hv]) ?_ _ _
  exact hlive
@[simp] theorem State.setLimit_regsWf (hregs : regWf v s.regs = true) (item n w : Nat) :
    regWf v (s.setLimit item n w).regs = true := by
  simp [State.setLimit, hv, hregs]
@[simp] theorem State.setLimit_liveWf (hlive : regWf v s.live = true) (item n w : Nat) :
    regWf v (s.setLimit item n w).live = true := by
  simp [State.setLimit, hv, hlive]
@[simp] theorem State.ringCreateOp_regsWf (hregs : regWf v s.regs = true) (k : Nat) (d : RawDesc) :
    regWf v (s.ringCreateOp k d).regs = true := by
  simp [State.ringCreateOp, hv, hregs]
@[simp] theorem State.ringCreateOp_liveWf (hlive : regWf v s.live = true) (k : Nat) (d : RawDesc) :
    regWf v (s.ringCreateOp k d).live = true := by
  simp [State.ringCreateOp, hv, hlive]
@[simp] theorem State.tightenOp_regsWf (hregs : regWf v s.regs = true) (k : Nat) (d : RawDesc) :
    regWf v (s.tightenOp k d).regs = true := by
  simp [State.tightenOp, hv, hregs]
@[simp] theorem State.tightenOp_liveWf (hlive : regWf v s.live = true) (k : Nat) (d : RawDesc) :
    regWf v (s.tightenOp k d).live = true := by
  simp [State.tightenOp, hv, hlive]
@[simp] theorem State.testClear_regsWf (hregs : regWf v s.regs = true) : regWf v s.testClear.regs = true :=
  regWf_filter hregs _
@[simp] theorem State.testClear_liveWf (hlive : regWf v s.live = true) : regWf v s.testClear.live = true :=
  regWf_filter hlive _
@[simp] theorem State.endpointClear_regsWf (hregs : regWf v s.regs = true) : regWf v s.endpointClear.regs = true := by
  simpa [State.endpointClear] using regWf_filter hregs _
@[simp] theorem State.endpointClear_liveWf (hlive : regWf v s.live = true) : regWf v s.endpointClear.live = true := by
  simpa [State.endpointClear] using regWf_filter hlive _
/-- A list of register loads, as an image's sections give it. -/
theorem foldl_loadReg_wf (hregs : regWf v s.regs = true) (hlive : regWf v s.live = true) (l : List (Nat × Nat)) :
    let t := l.foldl (fun s p => s.loadReg p.1 p.2) s
    regWf v t.regs = true ∧ regWf v t.live = true := by
  induction l generalizing s with
  | nil => exact ⟨hregs, hlive⟩
  | cons p rest ih => exact ih hv (State.loadReg_regsWf hv hregs _ _) (State.loadReg_liveWf hv hlive _ _)
theorem State.loadImage_wf (hregs : regWf v s.regs = true) (hlive : regWf v s.live = true) (im : List Byte) :
    regWf v (s.loadImage im).regs = true ∧ regWf v (s.loadImage im).live = true :=
  foldl_loadReg_wf (by simp [hv]) (by simpa using hregs) (by simpa using hlive) _
@[simp] theorem State.regsLive_liveWf (hregs : regWf v s.regs = true) (hlive : regWf v s.live = true) :
    regWf v s.regsLive.live = true := by
  simp [State.regsLive, hv, hregs, hlive]
@[simp] theorem State.frameOpen_liveWf (hregs : regWf v s.regs = true) (hlive : regWf v s.live = true) :
    regWf v s.frameOpen.live = true := by
  simp [State.frameOpen, hv, hregs, hlive]
end

end Sys2Proof.Machine
end

section
/-! What every row keeps, whatever the state: the queue, the tables' lengths, the canonical form of the register lists, and
the anti-rollback counter's direction. One lemma says so of each row, from what the operations leave; three obligations are
its consequences. -/

namespace Sys2Proof.Machine

open Sys2Proof.Claims

/-- The outcome is a next state, and that state has the property. -/
def Answers (P : State → Prop) (o : Host.Outcome State Fault Refusal) : Prop := ∃ t, o = .next t ∧ P t

@[simp] theorem answers_next (P : State → Prop) (t : State) : Answers P (.next t) ↔ P t := by simp [Answers]
@[simp] theorem answers_ite (P : State → Prop) (c : Prop) [Decidable c] (a b : Host.Outcome State Fault Refusal) :
    Answers P (if c then a else b) ↔ if c then Answers P a else Answers P b := by split <;> rfl
theorem Answers.next {P : State → Prop} {t : State} (h : P t) : Answers P (.next t) := ⟨t, rfl, h⟩
theorem Answers.ite {P : State → Prop} {c : Prop} [Decidable c] {a b : Host.Outcome State Fault Refusal}
    (ha : Answers P a) (hb : Answers P b) : Answers P (if c then a else b) := by split <;> assumption

/-- Both register lists are in canonical form. -/
def State.canon (s : State) : Prop := regWf s.sys.variant s.regs = true ∧ regWf s.sys.variant s.live = true

/-- What every row keeps. -/
structure Kept (s t : State) : Prop where
  pending : t.pending = s.pending
  shape : s.shape → t.shape
  canon : s.canon → t.canon
  rollback : s.cfg.fwVersion < 2 ^ 64 →
    s.sys.rollback.toNat ≤ t.sys.rollback.toNat ∧ t.sys.rollbackLeft ≤ s.sys.rollbackLeft

@[simp] theorem kept_iff (s t : State) : Kept s t ↔ t.pending = s.pending ∧
    (s.rails.length = 16 ∧ s.phases.length = 32 ∧ s.sws.length = 24 ∧ s.hif.rings.length = 64 ∧ s.hif.tags.length = 128 →
      t.rails.length = 16 ∧ t.phases.length = 32 ∧ t.sws.length = 24 ∧ t.hif.rings.length = 64 ∧ t.hif.tags.length = 128) ∧
    (regWf s.sys.variant s.regs = true ∧ regWf s.sys.variant s.live = true →
      regWf t.sys.variant t.regs = true ∧ regWf t.sys.variant t.live = true) ∧ (s.cfg.fwVersion < 2 ^ 64 →
      s.sys.rollback.toNat ≤ t.sys.rollback.toNat ∧ t.sys.rollbackLeft ≤ s.sys.rollbackLeft) :=
  ⟨fun ⟨h1, h2, h3, h4⟩ => ⟨h1, h2, h3, h4⟩, fun ⟨h1, h2, h3, h4⟩ => ⟨h1, h2, h3, h4⟩⟩

theorem Kept.refl (s : State) : Kept s s := by simp
/-- A row that leaves tables, register lists and the part's identity alone keeps everything. -/
theorem Kept.of_same {s t : State} (htables : SameTables s t) (hidentity : SameIdentity s t) : Kept s t := by
  simp_all
theorem Kept.trans {a b c : State} (hab : Kept a b) (htables : SameTables b c) (hidentity : SameIdentity b c) : Kept a c := by
  simp_all
theorem Kept.ite {c : Prop} [Decidable c] {s a b : State} (ha : Kept s a) (hb : Kept s b) : Kept s (if c then a else b) := by
  split <;> assumption
theorem Kept.emit {s t : State} (h : Kept s t) {code src : Nat} {ps : List Nat} : Kept s (t.emit code src ps) :=
  h.trans (by simp) (by simp)
theorem Kept.wakeUp {s t : State} (h : Kept s t) {src ns : Nat} : Kept s (t.wakeUp src ns) := h.trans (by simp) (by simp)
/-- The same where the branch taken tells what is kept. -/
theorem Kept.dite {c : Prop} [Decidable c] {s a b : State} (ha : c → Kept s a) (hb : ¬c → Kept s b) :
    Kept s (if c then a else b) := by
  split
  next h => exact ha h
  next h => exact hb h

@[simp] theorem State.lockUp_tables (s : State) (source : Nat) : SameTables s (s.lockUp source) := by simp [State.lockUp]
@[simp] theorem State.ctrlWrite_tables (s : State) (w : Word) : SameTables s (s.ctrlWrite w) := by simp [State.ctrlWrite]
/-- A descriptor row either runs its operation on the state as it stands, or leaves tables and `sys` alone. -/
theorem applyDesc_cases {P : State → Prop} {op k : Nat} {fn : RawDesc → Option Nat} {f : RawDesc → State → State} {s : State}
    (hrun : P (f (s.tag k).desc s)) (hrefused : ∀ t, SameTables s t → t.sys = s.sys → P t) : P (s.applyDesc op k fn f) := by
  have hreject (st r : Nat) : P (s.reject k st r) := hrefused _ (by simp) (by simp)
  have habort (st r : Nat) : P (s.complete k st r) := hrefused _ (by simp) (by simp)
  have hsame : P s := hrefused _ (by simp) (by simp)
  have hrest : P (s.applyRest op k f) := by
    unfold State.applyRest
    dsimp only
    repeat' split
    all_goals simp only [hreject, hrun]
  unfold State.applyDesc
  dsimp only
  repeat' split
  all_goals simp only [hreject, hrest, habort, hsame]
theorem applyDesc_kept {op k : Nat} {fn : RawDesc → Option Nat} {f : RawDesc → State → State} {s : State}
    (hrun : ∀ d, Kept s (f d s)) : Answers (Kept s) (.next (s.applyDesc op k fn f)) :=
  .next (applyDesc_cases (hrun _) fun _ htables hsys => .of_same htables (.of_sys hsys))

section
variable {s : State}

/-! ### Switch channels -/

@[simp] theorem execRampComplete_kept (ch : Nat) : Answers (Kept s) (execRampComplete ch s) := by
  simp [execRampComplete]
@[simp] theorem execRampTimeout_kept (ch : Nat) : Answers (Kept s) (execRampTimeout ch s) := by simp [execRampTimeout]
@[simp] theorem execSwitchShort_kept (ch : Nat) (ma : Int) (t : Nat) : Answers (Kept s) (execSwitchShort ch ma t s) := by
  simp [execSwitchShort]
@[simp] theorem execSwFaultTimerExpiry_kept (ch : Nat) : Answers (Kept s) (execSwFaultTimerExpiry ch s) := by
  simp [execSwFaultTimerExpiry]
@[simp] theorem execSwPumpTrip_kept (ch : Nat) : Answers (Kept s) (execSwPumpTrip ch s) := by simp [execSwPumpTrip]
@[simp] theorem execBrakeI2tTrip_kept (ch : Nat) : Answers (Kept s) (execBrakeI2tTrip ch s) := by
  simp [execBrakeI2tTrip]
@[simp] theorem execSwRetry_kept (ch : Nat) : Answers (Kept s) (execSwRetry ch s) := by simp [execSwRetry]
@[simp] theorem execSwRetryCountReset_kept (ch : Nat) : Answers (Kept s) (execSwRetryCountReset ch s) := by
  simp [execSwRetryCountReset]
@[simp] theorem execSeatQualified_kept (ch : Nat) : Answers (Kept s) (execSeatQualified ch s) := by
  simp [execSeatQualified]
@[simp] theorem execSeatLoss_kept (ch : Nat) : Answers (Kept s) (execSeatLoss ch s) := by simp [execSeatLoss]
@[simp] theorem execSwOn_kept (slot : Nat) : Answers (Kept s) (execSwOn slot s) := by simp [execSwOn]
@[simp] theorem execSwOff_kept (slot : Nat) : Answers (Kept s) (execSwOff slot s) := by simp [execSwOff]
@[simp] theorem execSwClear_kept (slot : Nat) : Answers (Kept s) (execSwClear slot s) := by simp [execSwClear]

/-! ### Caps, temperature, compensation -/

@[simp] theorem execCapReduce_kept : Answers (Kept s) (execCapReduce s) := by simp [execCapReduce]
@[simp] theorem execCapRaise_kept : Answers (Kept s) (execCapRaise s) := by simp [execCapRaise]
@[simp] theorem execCapSet_kept (slot : Nat) : Answers (Kept s) (execCapSet slot s) := by simp [execCapSet]
@[simp] theorem execTsenseFailed_kept : Answers (Kept s) (execTsenseFailed s) := by simp [execTsenseFailed]
@[simp] theorem execTsenseRecover_kept : Answers (Kept s) (execTsenseRecover s) := by simp [execTsenseRecover]

/-! ### Sequencer and its pins -/

@[simp] theorem execSyncRelease_kept : Answers (Kept s) (execSyncRelease s) := by simp [execSyncRelease]
@[simp] theorem execSyncRefresh_kept : Answers (Kept s) (execSyncRefresh s) := by simp [execSyncRefresh]
@[simp] theorem execHoldSegmentEnd_kept (lowUs : Nat) : Answers (Kept s) (execHoldSegmentEnd lowUs s) := by
  simp [execHoldSegmentEnd]
@[simp] theorem execSyncAdvance_kept : Answers (Kept s) (execSyncAdvance s) := by simp [execSyncAdvance]
@[simp] theorem execSyncHome_kept (lowUs : Nat) : Answers (Kept s) (execSyncHome lowUs s) := by simp [execSyncHome]
@[simp] theorem execSyncInvalid_kept (lowUs : Nat) : Answers (Kept s) (execSyncInvalid lowUs s) := by
  simp [execSyncInvalid]
@[simp] theorem execSyncAbortBurst_kept : Answers (Kept s) (execSyncAbortBurst s) := by simp [execSyncAbortBurst]
@[simp] theorem execHomePulseEnd_kept : Answers (Kept s) (execHomePulseEnd s) := by simp [execHomePulseEnd]
@[simp] theorem execPgoodRelease_kept : Answers (Kept s) (execPgoodRelease s) := by simp [execPgoodRelease]
@[simp] theorem execMrNAssert_kept : Answers (Kept s) (execMrNAssert s) := by simp [execMrNAssert]
@[simp] theorem execMrNEnd_kept : Answers (Kept s) (execMrNEnd s) := by simp [execMrNEnd]
@[simp] theorem execPbPress_kept (ms : Nat) : Answers (Kept s) (execPbPress ms s) := by simp [execPbPress]
@[simp] theorem execLongPress_kept (ms : Nat) : Answers (Kept s) (execLongPress ms s) := by simp [execLongPress]
@[simp] theorem execResetPulseEnd_kept (slot : Nat) : Answers (Kept s) (execResetPulseEnd slot s) := by
  unfold execResetPulseEnd; split <;> simp
@[simp] theorem execSeqRun_kept (slot : Nat) : Answers (Kept s) (execSeqRun slot s) := by simp [execSeqRun]
@[simp] theorem execSeqAbort_kept (slot : Nat) : Answers (Kept s) (execSeqAbort slot s) := by simp [execSeqAbort]
@[simp] theorem execSeqResetPulse_kept (slot : Nat) : Answers (Kept s) (execSeqResetPulse slot s) := by
  simp [execSeqResetPulse]
@[simp] theorem execSeqFaultAck_kept (slot : Nat) : Answers (Kept s) (execSeqFaultAck slot s) := by
  simp [execSeqFaultAck]

/-! ### Feed, battery, charging, search -/

@[simp] theorem execFeedLoss_kept (cause feedMv t : Nat) : Answers (Kept s) (execFeedLoss cause feedMv t s) := by
  simp [execFeedLoss]
@[simp] theorem execConverterBoost_kept : Answers (Kept s) (execConverterBoost s) := by simp [execConverterBoost]
@[simp] theorem execHandoverEnd_kept : Answers (Kept s) (execHandoverEnd s) := by simp [execHandoverEnd]
@[simp] theorem execFeedQualified_kept : Answers (Kept s) (execFeedQualified s) := by
  refine .ite ?_ (.next (.refl s))
  split <;> simp
@[simp] theorem execHandbackEnd_kept : Answers (Kept s) (execHandbackEnd s) := by simp [execHandbackEnd]
@[simp] theorem execReserveReached_kept : Answers (Kept s) (execReserveReached s) := by simp [execReserveReached]
@[simp] theorem execBatCutoff_kept : Answers (Kept s) (execBatCutoff s) := by simp [execBatCutoff]
@[simp] theorem execBatPresent_kept : Answers (Kept s) (execBatPresent s) := by simp [execBatPresent]
@[simp] theorem execBatMissing_kept : Answers (Kept s) (execBatMissing s) := by simp [execBatMissing]
@[simp] theorem execPrechargeEnd_kept (reached : Bool) : Answers (Kept s) (execPrechargeEnd reached s) := by
  simp [execPrechargeEnd]
@[simp] theorem execDetectionPulseEnd_kept : Answers (Kept s) (execDetectionPulseEnd s) := by
  simp [execDetectionPulseEnd]
@[simp] theorem execPeriodicPulse_kept : Answers (Kept s) (execPeriodicPulse s) := by simp [execPeriodicPulse]
@[simp] theorem execChgForcedStop_kept : Answers (Kept s) (execChgForcedStop s) := by simp [execChgForcedStop]
@[simp] theorem execChgStart_kept (slot : Nat) : Answers (Kept s) (execChgStart slot s) := by simp [execChgStart]
@[simp] theorem execChgStop_kept (slot : Nat) : Answers (Kept s) (execChgStop slot s) := by simp [execChgStop]
@[simp] theorem execPathClear_kept (slot : Nat) : Answers (Kept s) (execPathClear slot s) := by simp [execPathClear]
@[simp] theorem execBatIsolate_kept (slot : Nat) : Answers (Kept s) (execBatIsolate slot s) := by simp [execBatIsolate]
@[simp] theorem execBatReconnect_kept (slot : Nat) : Answers (Kept s) (execBatReconnect slot s) := by
  simp [execBatReconnect]
@[simp] theorem execSearchDwellEnd_kept (feedMv : Nat) (feedMa : Int) (lastMv : Nat) (convMa : Int) :
    Answers (Kept s) (execSearchDwellEnd feedMv feedMa lastMv convMa s) := by simp [execSearchDwellEnd]
@[simp] theorem execSearchPeriod_kept : Answers (Kept s) (execSearchPeriod s) := by simp [execSearchPeriod]

/-! ### Battery gauge -/

@[simp] theorem execGaugeSample_kept (ma : Int) : Answers (Kept s) (execGaugeSample ma s) := by simp [execGaugeSample]
@[simp] theorem execEmptyConfirmed_kept : Answers (Kept s) (execEmptyConfirmed s) := by simp [execEmptyConfirmed]
@[simp] theorem execOcvCorrect_kept : Answers (Kept s) (execOcvCorrect s) := by simp [execOcvCorrect]
@[simp] theorem execSpectroStart_kept : Answers (Kept s) (execSpectroStart s) := by simp [execSpectroStart]
@[simp] theorem execSpectroResult_kept (r x : Int) : Answers (Kept s) (execSpectroResult r x s) := by
  refine .ite (.next ?_) (.next (.refl s))
  cases s.gauge.spSlot <;> simp
@[simp] theorem execNvWrite_kept (ok : Bool) : Answers (Kept s) (execNvWrite ok s) := by
  unfold execNvWrite
  split
  · exact .next (.refl s)
  · refine .next ?_
    dsimp only
    split <;> simp
@[simp] theorem execNvWritePeriodic_kept : Answers (Kept s) (execNvWritePeriodic s) := by simp [execNvWritePeriodic]
@[simp] theorem execGaugeSetFull_kept (slot : Nat) : Answers (Kept s) (execGaugeSetFull slot s) := by
  simp [execGaugeSetFull]
@[simp] theorem execGaugeSave_kept (slot : Nat) : Answers (Kept s) (execGaugeSave slot s) := by simp [execGaugeSave]
@[simp] theorem execGaugeNewBattery_kept (slot : Nat) : Answers (Kept s) (execGaugeNewBattery slot s) := by
  simp [execGaugeNewBattery]
@[simp] theorem execGaugeSpectro_kept (slot : Nat) : Answers (Kept s) (execGaugeSpectro slot s) := by
  simp [execGaugeSpectro]

/-! ### Host interface -/

@[simp] theorem execSqDoorbell_kept (ring : Nat) (v : Word) : Answers (Kept s) (execSqDoorbell ring v s) := by
  simp [execSqDoorbell]
@[simp] theorem execCqDoorbell_kept (ring : Nat) (v : Word) : Answers (Kept s) (execCqDoorbell ring v s) := by
  simp [execCqDoorbell]
@[simp] theorem execDescriptorIntake_kept (ring : Nat) (d : RawDesc) : Answers (Kept s) (execDescriptorIntake ring d s) := by
  simp [execDescriptorIntake]
@[simp] theorem execDeadlineMissed_kept (slot : Nat) : Answers (Kept s) (execDeadlineMissed slot s) := by
  simp [execDeadlineMissed]
@[simp] theorem execCompletionWrite_kept : Answers (Kept s) (execCompletionWrite s) := by
  refine .ite ?_ (.next (.refl s))
  split <;> simp
@[simp] theorem execCoalTimeout_kept (ring : Nat) : Answers (Kept s) (execCoalTimeout ring s) := by
  simp [execCoalTimeout]
@[simp] theorem execMsixUnmask_kept (vec : Nat) : Answers (Kept s) (execMsixUnmask vec s) := by simp [execMsixUnmask]
@[simp] theorem execBusMasterChange_kept (bme d3 msix fmask : Bool) :
    Answers (Kept s) (execBusMasterChange bme d3 msix fmask s) := by simp [execBusMasterChange]
@[simp] theorem execDmaReadFail_kept (ring : Nat) (addr : Nat) : Answers (Kept s) (execDmaReadFail ring addr s) := by
  simp [execDmaReadFail]
@[simp] theorem execRingEnable_kept (ring : Nat) (w : Word) : Answers (Kept s) (execRingEnable ring w s) := by
  simp [execRingEnable]
@[simp] theorem execRingCtrlReset_kept (ring : Nat) : Answers (Kept s) (execRingCtrlReset ring s) := by
  simp [execRingCtrlReset]
@[simp] theorem execDmaWindowWrite_kept (off : Nat) (w : Word) : Answers (Kept s) (execDmaWindowWrite off w s) := by
  simp [execDmaWindowWrite]
@[simp] theorem execBarAccessVoid_kept (bar off size : Nat) (isWrite : Bool) :
    Answers (Kept s) (execBarAccessVoid bar off size isWrite s) := by simp [execBarAccessVoid]

/-! ### Admin and firmware descriptors -/

@[simp] theorem execNop_kept (slot : Nat) : Answers (Kept s) (execNop slot s) := by simp [execNop]
@[simp] theorem execWallSet_kept (slot : Nat) : Answers (Kept s) (execWallSet slot s) := by simp [execWallSet]
@[simp] theorem execCfgWrite_kept (slot : Nat) (image : List Byte) : Answers (Kept s) (execCfgWrite slot image s) := by
  simp [execCfgWrite]
@[simp] theorem execCfgWriteComplete_kept (ok : Bool) : Answers (Kept s) (execCfgWriteComplete ok s) := by
  unfold execCfgWriteComplete; split <;> simp
@[simp] theorem execFwWrite_kept (slot : Nat) (bank : List Byte) : Answers (Kept s) (execFwWrite slot bank s) := by
  simp [execFwWrite]
@[simp] theorem execFwWriteComplete_kept : Answers (Kept s) (execFwWriteComplete s) := by
  unfold execFwWriteComplete; split <;> simp
@[simp] theorem execRingDelete_kept (slot : Nat) : Answers (Kept s) (execRingDelete slot s) := by simp [execRingDelete]
@[simp] theorem execResetRing_kept (slot : Nat) : Answers (Kept s) (execResetRing slot s) := by simp [execResetRing]
@[simp] theorem execDmaWindowSet_kept (slot : Nat) : Answers (Kept s) (execDmaWindowSet slot s) := by
  simp [execDmaWindowSet]

/-! ### Rail regulation -/

@[simp] theorem execCurrentStreamWord_kept (ch : StreamCh) (good : Bool) (value : Int) (tPs : Nat) :
    Answers (Kept s) (execCurrentStreamWord ch good value tPs s) := by cases ch <;> simp [execCurrentStreamWord]
@[simp] theorem execOnTimeExpiry_kept (phase tPs : Nat) : Answers (Kept s) (execOnTimeExpiry phase tPs s) := by
  unfold execOnTimeExpiry
  dsimp only
  split <;> simp
@[simp] theorem execFastErrorWord_kept (rail : Nat) (uv : Int) (t : Nat) :
    Answers (Kept s) (execFastErrorWord rail uv t s) := by simp [execFastErrorWord]
@[simp] theorem execReferenceUpdate_kept (rail : Nat) : Answers (Kept s) (execReferenceUpdate rail s) := by
  simp [execReferenceUpdate]
@[simp] theorem execPhaseShed_kept (rail : Nat) : Answers (Kept s) (execPhaseShed rail s) := by
  refine .ite ?_ (.next (.refl s))
  split <;> simp
@[simp] theorem execRecallHoldEnd_kept (rail : Nat) : Answers (Kept s) (execRecallHoldEnd rail s) := by
  simp [execRecallHoldEnd]

/-! ### Rail commands and forecasts -/

@[simp] theorem execRailOff_kept (slot : Nat) : Answers (Kept s) (execRailOff slot s) := by simp [execRailOff]
@[simp] theorem execRailSetVoltage_kept (slot : Nat) : Answers (Kept s) (execRailSetVoltage slot s) := by
  simp [execRailSetVoltage]
@[simp] theorem execRailQuery_kept (slot : Nat) : Answers (Kept s) (execRailQuery slot s) := by simp [execRailQuery]
@[simp] theorem execPgmaskEnd_kept (rail : Nat) : Answers (Kept s) (execPgmaskEnd rail s) := by
  unfold execPgmaskEnd
  dsimp only
  split <;> simp
@[simp] theorem execSpeculationStart_kept (rail : Nat) (leader : Bool) :
    Answers (Kept s) (execSpeculationStart rail leader s) := by simp [execSpeculationStart]
@[simp] theorem execBiasEnd_kept (rail : Nat) (leader : Bool) : Answers (Kept s) (execBiasEnd rail leader s) := by
  unfold execBiasEnd; split <;> simp
@[simp] theorem execForecastRetire_kept (rail : Nat) (leader : Bool) :
    Answers (Kept s) (execForecastRetire rail leader s) := by unfold execForecastRetire; split <;> simp
@[simp] theorem execForecastPost_kept (slot : Nat) : Answers (Kept s) (execForecastPost slot s) := by
  simp [execForecastPost]
@[simp] theorem execForecastCancel_kept (slot : Nat) : Answers (Kept s) (execForecastCancel slot s) := by
  simp [execForecastCancel]

/-! ### Rail protection -/

@[simp] theorem execRailFault_kept (rail : Nat) : Answers (Kept s) (execRailFault rail s) := by simp [execRailFault]
@[simp] theorem execSsShort_kept (rail : Nat) : Answers (Kept s) (execSsShort rail s) := by simp [execSsShort]
@[simp] theorem execPhaseLatch_kept (phase : Nat) : Answers (Kept s) (execPhaseLatch phase s) := by
  simp [execPhaseLatch]
@[simp] theorem execOvCrowbar_kept (rail peakMv t : Nat) : Answers (Kept s) (execOvCrowbar rail peakMv t s) := by
  simp [execOvCrowbar]
@[simp] theorem execCrowbarHoldEnd_kept (rail : Nat) : Answers (Kept s) (execCrowbarHoldEnd rail s) := by
  simp [execCrowbarHoldEnd]
@[simp] theorem execRetryCountReset_kept (rail : Nat) : Answers (Kept s) (execRetryCountReset rail s) := by
  simp [execRetryCountReset]
@[simp] theorem execDischargeEnd_kept (rail : Nat) : Answers (Kept s) (execDischargeEnd rail s) := by
  simp [execDischargeEnd]
@[simp] theorem execDischargeTimeout_kept (rail : Nat) : Answers (Kept s) (execDischargeTimeout rail s) := by
  simp [execDischargeTimeout]
@[simp] theorem execRailClear_kept (slot : Nat) : Answers (Kept s) (execRailClear slot s) := by simp [execRailClear]

/-! ### Event recorder and trace -/

@[simp] theorem execTokenRefill_kept (code : Nat) : Answers (Kept s) (execTokenRefill code s) := by
  simp [execTokenRefill]
@[simp] theorem execFlashPageWrite_kept : Answers (Kept s) (execFlashPageWrite s) := by simp [execFlashPageWrite]
@[simp] theorem execPartialPageFlush_kept : Answers (Kept s) (execPartialPageFlush s) := by
  unfold execPartialPageFlush; split <;> simp
@[simp] theorem execStagingFlushed_kept : Answers (Kept s) (execStagingFlushed s) := by simp [execStagingFlushed]
@[simp] theorem execRecCursorWrite_kept (w : Word) : Answers (Kept s) (execRecCursorWrite w s) := by
  simp [execRecCursorWrite]
@[simp] theorem execRecSnap_kept : Answers (Kept s) (execRecSnap s) := by simp [execRecSnap]
@[simp] theorem execWindowFetchDone_kept : Answers (Kept s) (execWindowFetchDone s) := by simp [execWindowFetchDone]
@[simp] theorem execRecRead_kept (slot : Nat) : Answers (Kept s) (execRecRead slot s) := by simp [execRecRead]
@[simp] theorem execTraceFreeze_kept : Answers (Kept s) (execTraceFreeze s) := by
  unfold execTraceFreeze; split <;> simp
@[simp] theorem execEraseAheadComplete_kept : Answers (Kept s) (execEraseAheadComplete s) := by
  simp [execEraseAheadComplete]
@[simp] theorem execTraceWritten_kept (ok : Bool) (ms : Nat) : Answers (Kept s) (execTraceWritten ok ms s) := by
  unfold execTraceWritten; split <;> simp
@[simp] theorem execRecTrigger_kept (slot : Nat) : Answers (Kept s) (execRecTrigger slot s) := by simp [execRecTrigger]

/-! ### Maintenance -/

@[simp] theorem execMaintStart_kept (slot : Nat) : Answers (Kept s) (execMaintStart slot s) := by simp [execMaintStart]
@[simp] theorem execMaintStop_kept (slot : Nat) : Answers (Kept s) (execMaintStop slot s) := by simp [execMaintStop]
@[simp] theorem execSelftestChannel_kept (result : SelfTest) : Answers (Kept s) (execSelftestChannel result s) := by
  refine .ite ?_ (.next (.refl s))
  split
  · simp
  · cases result <;> simp
@[simp] theorem execAdcCalConverter_kept (conv : Nat) (offset : Option Int) :
    Answers (Kept s) (execAdcCalConverter conv offset s) := by cases offset <;> simp [execAdcCalConverter]
@[simp] theorem execLogCompactSector_kept : Answers (Kept s) (execLogCompactSector s) := by simp [execLogCompactSector]
@[simp] theorem execSafePoint_kept : Answers (Kept s) (execSafePoint s) := by simp [execSafePoint]
@[simp] theorem execSwapWaitExpiry_kept : Answers (Kept s) (execSwapWaitExpiry s) := by simp [execSwapWaitExpiry]
@[simp] theorem execDryrunStep_kept : Answers (Kept s) (execDryrunStep s) := by simp [execDryrunStep]
@[simp] theorem execTestUnlock_kept (w : Word) : Answers (Kept s) (execTestUnlock w s) := by simp [execTestUnlock]
@[simp] theorem execTestLock_kept (w : Word) : Answers (Kept s) (execTestLock w s) := by simp [execTestLock]

/-! ### Status words and reads -/

@[simp] theorem execLoReadLatch_kept (off : Nat) : Answers (Kept s) (execLoReadLatch off s) := by
  unfold execLoReadLatch; split <;> simp

/-! ### Waybill -/

@[simp] theorem execWaybillWrite_kept : Answers (Kept s) (execWaybillWrite s) := by
  unfold execWaybillWrite; split <;> simp

/-! ### Drayline -/

@[simp] theorem execBeacon_kept (h : DrayHdr) (prevSfd leaderState : Nat) (joined flags : BitVec 8) (stamp : Nat) :
    Answers (Kept s) (execBeacon h prevSfd leaderState joined flags stamp s) := by simp [execBeacon]
@[simp] theorem execAlignLock_kept : Answers (Kept s) (execAlignLock s) := by simp [execAlignLock]
@[simp] theorem execHoldover_kept : Answers (Kept s) (execHoldover s) := by simp [execHoldover]
@[simp] theorem execCap_kept (h : DrayHdr) (caps : List Nat) : Answers (Kept s) (execCap h caps s) := by simp [execCap]
@[simp] theorem execForecast_kept (h : DrayHdr) (t : Nat) (di : Int) (rise window rail : Nat) :
    Answers (Kept s) (execForecast h t di rise window rail s) := by simp [execForecast]
@[simp] theorem execAck_kept (h : DrayHdr) (entries : List (Nat × Nat)) : Answers (Kept s) (execAck h entries s) := by
  simp [execAck]
@[simp] theorem execReport_kept (h : DrayHdr) (p : DrayUp) : Answers (Kept s) (execReport h p s) := by
  simp [execReport]
@[simp] theorem execStage_kept (h : DrayHdr) (stage : Nat) (up : Option DrayUp) :
    Answers (Kept s) (execStage h stage up s) := by cases up <;> simp [execStage]
@[simp] theorem execAlarm_kept (h : DrayHdr) (p : DrayUp) : Answers (Kept s) (execAlarm h p s) := by simp [execAlarm]
@[simp] theorem execIdConflictClear_kept (n : Nat) : Answers (Kept s) (execIdConflictClear n s) := by
  simp [execIdConflictClear]
@[simp] theorem execDrayUplinkLoss_kept : Answers (Kept s) (execDrayUplinkLoss s) := by simp [execDrayUplinkLoss]
@[simp] theorem execDrayCrcDiscard_kept (port : Nat) : Answers (Kept s) (execDrayCrcDiscard port s) := by
  simp [execDrayCrcDiscard]
@[simp] theorem execDrayTransmit_kept (port sfd : Nat) : Answers (Kept s) (execDrayTransmit port sfd s) := by
  simp [execDrayTransmit]
@[simp] theorem execDrayCap_kept (slot : Nat) : Answers (Kept s) (execDrayCap slot s) := by simp [execDrayCap]
@[simp] theorem execDrayForecast_kept (slot : Nat) : Answers (Kept s) (execDrayForecast slot s) := by
  simp [execDrayForecast]
@[simp] theorem execDrayStage_kept (slot : Nat) : Answers (Kept s) (execDrayStage slot s) := by simp [execDrayStage]

/-! ### Tandem pair -/

@[simp] theorem execStatusBlockReceived_kept (b : StatusBlock) : Answers (Kept s) (execStatusBlockReceived b s) := by
  simp [execStatusBlockReceived]
@[simp] theorem execTdmLinkDown_kept (cause lane : Nat) : Answers (Kept s) (execTdmLinkDown cause lane s) := by
  simp [execTdmLinkDown]
@[simp] theorem execBlockMissing_kept (crc : Bool) : Answers (Kept s) (execBlockMissing crc s) := by
  simp [execBlockMissing]
@[simp] theorem execTdmLinkUp_kept (peerSideB : Bool) (peerState : Nat) :
    Answers (Kept s) (execTdmLinkUp peerSideB peerState s) := by simp [execTdmLinkUp]
@[simp] theorem execSoloHoldEnd_kept : Answers (Kept s) (execSoloHoldEnd s) := by simp [execSoloHoldEnd]
@[simp] theorem execTakeover_kept : Answers (Kept s) (execTakeover s) := by unfold execTakeover; split <;> simp
@[simp] theorem execOrphan_kept : Answers (Kept s) (execOrphan s) := by unfold execOrphan; split <;> simp
@[simp] theorem execMismatchUnresolved_kept : Answers (Kept s) (execMismatchUnresolved s) := by
  simp [execMismatchUnresolved]
@[simp] theorem execTdmJoin_kept : Answers (Kept s) (execTdmJoin s) := by simp [execTdmJoin]
@[simp] theorem execJoinTimeout_kept : Answers (Kept s) (execJoinTimeout s) := by simp [execJoinTimeout]
@[simp] theorem execAutoJoin_kept : Answers (Kept s) (execAutoJoin s) := by unfold execAutoJoin; split <;> simp
@[simp] theorem execDrillHoldEnd_kept : Answers (Kept s) (execDrillHoldEnd s) := by simp [execDrillHoldEnd]
@[simp] theorem execTdmPromote_kept (w : Word) : Answers (Kept s) (execTdmPromote w s) := by simp [execTdmPromote]
@[simp] theorem execTdmRetire_kept (slot : Nat) : Answers (Kept s) (execTdmRetire slot s) := by simp [execTdmRetire]
@[simp] theorem execTdmRejoin_kept (slot : Nat) : Answers (Kept s) (execTdmRejoin slot s) := by simp [execTdmRejoin]

/-! ### Safe floor and what leads to it -/

@[simp] theorem execExitFloor_kept (slot : Nat) : Answers (Kept s) (execExitFloor slot s) := by simp [execExitFloor]
@[simp] theorem execEngineReload_kept (e : Nat) (ok : Bool) : Answers (Kept s) (execEngineReload e ok s) := by
  simp [execEngineReload]
@[simp] theorem execHostLinkLoss_kept : Answers (Kept s) (execHostLinkLoss s) := by simp [execHostLinkLoss]
@[simp] theorem execFrameOverrun_kept (e slice cycles : Nat) : Answers (Kept s) (execFrameOverrun e slice cycles s) := by
  simp [execFrameOverrun]
@[simp] theorem execBackgroundOverrun_kept (e cycles : Nat) : Answers (Kept s) (execBackgroundOverrun e cycles s) := by
  simp [execBackgroundOverrun]
@[simp] theorem execSingleBitError_kept : Answers (Kept s) (execSingleBitError s) := by simp [execSingleBitError]
@[simp] theorem execDoubleBitError_kept (region : SramRegion) : Answers (Kept s) (execDoubleBitError region s) := by
  refine .ite ?_ (.next (.refl s))
  cases region <;> simp
@[simp] theorem execScrubComplete_kept (ok : Bool) : Answers (Kept s) (execScrubComplete ok s) := by
  simp [execScrubComplete]

/-! ### Reference clock -/

@[simp] theorem execXtalFail_kept (relockNs : Nat) : Answers (Kept s) (execXtalFail relockNs s) := by
  simp [execXtalFail]
@[simp] theorem execXtalRestored_kept : Answers (Kept s) (execXtalRestored s) := by simp [execXtalRestored]
@[simp] theorem execDomainStall_kept (dom ns off : Nat) : Answers (Kept s) (execDomainStall dom ns off s) := by
  simp [execDomainStall]

/-! ### Resets and supplies' loss -/

@[simp] theorem execFieldMainReset_kept : Answers (Kept s) (execFieldMainReset s) := by simp [execFieldMainReset]
@[simp] theorem execPcieLinkUp_kept : Answers (Kept s) (execPcieLinkUp s) := by simp [execPcieLinkUp]
@[simp] theorem execPcieConfigReady_kept : Answers (Kept s) (execPcieConfigReady s) := by simp [execPcieConfigReady]
@[simp] theorem execVaonLoss_kept (mv : Nat) : Answers (Kept s) (execVaonLoss mv s) := by simp [execVaonLoss]

/-! ### Boot, readiness, locks, hibernate -/

@[simp] theorem execAlwaysOnStart_kept : Answers (Kept s) (execAlwaysOnStart s) := by simp [execAlwaysOnStart]
@[simp] theorem execVaonRise_kept : Answers (Kept s) (execVaonRise s) := by simp [execVaonRise]
@[simp] theorem execV33Good_kept : Answers (Kept s) (execV33Good s) := by simp [execV33Good]
@[simp] theorem execStrapLatch_kept (role1 role0 side : Bool) : Answers (Kept s) (execStrapLatch role1 role0 side s) := by
  simp [execStrapLatch]
@[simp] theorem execV18Good_kept : Answers (Kept s) (execV18Good s) := by simp [execV18Good]
@[simp] theorem execCoreStartRetry_kept (vcoreMv : Nat) : Answers (Kept s) (execCoreStartRetry vcoreMv s) := by
  simp [execCoreStartRetry]
@[simp] theorem execBootStart_kept (refSrc pageUs : Nat) (eraseSuspend : Bool) (t : Nat) :
    Answers (Kept s) (execBootStart refSrc pageUs eraseSuspend t s) := by
  refine .ite ?_ (.next (.refl s))
  dsimp only
  split <;> simp
@[simp] theorem execFunctionReady_kept (f : Nat) : Answers (Kept s) (execFunctionReady f s) := by
  simp [execFunctionReady]
@[simp] theorem execFuncFail_kept (f cause : Nat) : Answers (Kept s) (execFuncFail f cause s) := by simp [execFuncFail]
@[simp] theorem execAutoProgStart_kept : Answers (Kept s) (execAutoProgStart s) := by simp [execAutoProgStart]
@[simp] theorem execHibH1_kept : Answers (Kept s) (execHibH1 s) := by
  refine .ite ?_ (.next (.refl s))
  split <;> simp
@[simp] theorem execWakePin_kept (ns : Nat) : Answers (Kept s) (execWakePin ns s) := by
  cases h : s.sys.hib <;> simp [execWakePin, h]
@[simp] theorem execCurrentWakeSample_kept (ma : Int) (ns : Nat) : Answers (Kept s) (execCurrentWakeSample ma ns s) := by
  simp [execCurrentWakeSample]

/-! ### Register writes -/

@[simp] theorem execFieldForward_kept : Answers (Kept s) (execFieldForward s) := by simp [execFieldForward]
@[simp] theorem execFieldBridgeFlushClear_kept : Answers (Kept s) (execFieldBridgeFlushClear s) := by
  simp [execFieldBridgeFlushClear]
@[simp] theorem execHifEventClear_kept (w : Word) : Answers (Kept s) (execHifEventClear w s) := by
  simp [execHifEventClear]

/-! ### Frame and epoch boundary -/

@[simp] theorem execOutputMissed_kept : Answers (Kept s) (execOutputMissed s) := by simp [execOutputMissed]
@[simp] theorem execEpochBoundary_kept : Answers (Kept s) (execEpochBoundary s) := by simp [execEpochBoundary]

/-! ### Rows with more than one outcome -/

@[simp] theorem execRollbackAdvance_kept (w : Word) : Answers (Kept s) (execRollbackAdvance w s) := by
  refine .ite (.next (.emit (.dite (fun hact => ?_) fun _ => .refl s))) (.next (.refl s))
  have habove : s.sys.rollback.toNat < s.cfg.fwVersion := by simp_all
  simp +contextual [Nat.mod_eq_of_lt, habove.le]
@[simp] theorem execRingCreate_kept (slot : Nat) : Answers (Kept s) (execRingCreate slot s) :=
  applyDesc_kept fun d => by simp +contextual
@[simp] theorem execBrakeTighten_kept (slot : Nat) : Answers (Kept s) (execBrakeTighten slot s) :=
  applyDesc_kept fun d => by simp +contextual
@[simp] theorem execRailOn_kept (slot : Nat) : Answers (Kept s) (execRailOn slot s) :=
  applyDesc_kept fun d => by simp +contextual
@[simp] theorem execRecTraceRead_kept (slot : Nat) : Answers (Kept s) (execRecTraceRead slot s) :=
  applyDesc_kept fun d => by dsimp only; split <;> simp
@[simp] theorem execHibernate_kept (slot : Nat) : Answers (Kept s) (execHibernate slot s) :=
  applyDesc_kept fun d => by simp
theorem State.blockIn_kept {u : State} (htables : SameTables s u) (hidentity : SameIdentity s u) (b : StateBlock) :
    Kept s (u.blockIn b) := by
  have hlive (hcanon : regWf s.sys.variant s.live = true) : regWf s.sys.variant (u.blockIn b).live = true :=
    State.blockIn_liveWf (by simp_all) (by simp_all) b
  have hsame : SameButLive s (u.blockIn b) := by simp_all
  have hsys : SameIdentity s (u.blockIn b) := by simp_all
  simp_all
@[simp] theorem execStateBlockReceived_kept (b : StateBlock) : Answers (Kept s) (execStateBlockReceived b s) := by
  refine .ite (.next ?_) (.next (.refl s))
  refine .ite (State.blockIn_kept (.ite ?_ (.ite ?_ ?_)) (.ite ?_ (.ite ?_ ?_)) b) (.of_same ?_ ?_)
  all_goals simp
@[simp] theorem execPcieReset_kept : Answers (Kept s) (execPcieReset s) := by
  refine .ite (.next ⟨?_, ?_, ?_, ?_⟩) (.next (.refl s))
  · simp [State.endpointClear]
  · simp +contextual [State.shape, State.endpointClear]
  · simp +contextual [State.canon]
  · simp
@[simp] theorem execCfgImageLoad_kept (bootUs : Nat) : Answers (Kept s) (execCfgImageLoad bootUs s) := by
  refine .ite (.next ?_) (.next (.refl s))
  dsimp only
  split
  · next im _ =>
    have hload (hcanon : s.canon) := State.loadImage_wf (s := (s.slotReject 0 s.cfg.slotA).slotReject 1 s.cfg.slotB)
      (v := s.sys.variant) (by simp) (by simpa using hcanon.1) (by simpa using hcanon.2) im
    refine ⟨by simp, by simp [State.shape], fun hcanon => ?_, by simp⟩
    simpa [State.canon] using hload hcanon
  · simp
@[simp] theorem execStepQualified_kept : Answers (Kept s) (execStepQualified s) := by simp +contextual [execStepQualified]
@[simp] theorem execStepTimeout_kept : Answers (Kept s) (execStepTimeout s) := by simp +contextual [execStepTimeout]
@[simp] theorem execRailRetry_kept (rail : Nat) : Answers (Kept s) (execRailRetry rail s) := by
  simp +contextual [execRailRetry]
@[simp] theorem execBenchLow_kept : Answers (Kept s) (execBenchLow s) := by simp +contextual [execBenchLow]
@[simp] theorem execFloorExit_kept : Answers (Kept s) (execFloorExit s) := by simp +contextual [execFloorExit]
@[simp] theorem execRegisterWrite_kept (off : Nat) (w : Word) : Answers (Kept s) (execRegisterWrite off w s) := by
  simp +contextual [execRegisterWrite]
@[simp] theorem execFrameBoundary_kept (x : Sample) : Answers (Kept s) (execFrameBoundary x s) := by
  simp +contextual [execFrameBoundary]
@[simp] theorem execSampleMissed_kept : Answers (Kept s) (execSampleMissed s) := by simp +contextual [execSampleMissed]
@[simp] theorem execNodeLoss_kept (node : Nat) : Answers (Kept s) (execNodeLoss node s) := by
  refine .ite (.next ?_) (.next (.refl s))
  refine .of_same (.trans (.trans ?_ (.foldl (fun s q => by split <;> simp) _ _)) (State.alarmRaise_tables _ _)) (.of_sys ?_)
  · simp
  · rw [State.alarmRaise_sys, foldl_sys]
    · simp
    · intro s q
      split <;> simp
@[simp] theorem execFloorEnter_kept : Answers (Kept s) (execFloorEnter s) := by
  refine .ite (.next ?_) (.next (.refl s))
  dsimp only
  split <;> simp +contextual
@[simp] theorem execAutolock_kept : Answers (Kept s) (execAutolock s) := by unfold execAutolock; split <;> simp
@[simp] theorem execNohostLock_kept : Answers (Kept s) (execNohostLock s) := by simp [execNohostLock]
@[simp] theorem execSetupLock_kept : Answers (Kept s) (execSetupLock s) := by simp [execSetupLock]
@[simp] theorem execWarmResetRequest_kept (w : Word) : Answers (Kept s) (execWarmResetRequest w s) := by
  simp [execWarmResetRequest]
@[simp] theorem execColdResetRequest_kept (w : Word) : Answers (Kept s) (execColdResetRequest w s) := by
  simp [execColdResetRequest]

/-! ### Resets -/

@[simp] theorem State.cutWrites_tables (s : State) : SameTables s s.cutWrites := by
  unfold State.cutWrites
  dsimp only
  repeat' split
  all_goals simp
@[simp] theorem State.testClear_shape (s : State) : SameShape s s.testClear := by simp [State.testClear]
/-- A warm reset or a wake starts from the reset state's registers. -/
theorem State.rebooted_kept (s : State) : Kept s s.rebooted := by
  simp +contextual [State.rebooted, regWf]
theorem State.colded_kept (s : State) : Kept s s.colded := by
  simp [State.colded, regWf]
@[simp] theorem execWarmReset_kept : Answers (Kept s) (execWarmReset s) := by
  unfold execWarmReset
  split
  · refine .ite (.next ?_) (.next (.refl s))
    simp +contextual [State.rebooted, regWf]
  · exact .next (.refl s)
@[simp] theorem execColdReset_kept (n : Nat) : Answers (Kept s) (execColdReset n s) := by
  unfold execColdReset
  split
  · simp [State.colded, regWf]
  · simp [State.colded, regWf]
  · simp [State.colded, regWf]
  · simp
@[simp] theorem execHibHandoff_kept : Answers (Kept s) (execHibHandoff s) := by
  refine .ite (.next ?_) (.next (.refl s))
  dsimp only
  split
  · refine .wakeUp ?_
    simp +contextual [State.rebooted, regWf]
  · simp +contextual [State.rebooted, regWf]
end

/-! ### Every row -/

open Sys2Proof.Claims
/-- Every row keeps the queue, the tables, the register lists' form and the counter's direction. -/
theorem exec_kept (c : Instr) (s : State) : Answers (Kept s) (exec c s) := by
  cases c <;> simp [exec]

/-- Settles O4: `Kept` names the queue and the tables. -/
theorem everyCommandCompletes : Obligations.EveryCommandCompletes := by
  intro c s hshape
  obtain ⟨t, hexec, hkept⟩ := exec_kept c s
  exact ⟨t, hexec, hkept.pending, hkept.shape hshape⟩

/-- Settles O5: a step is a row on the state with the queue's rest, and a row keeps tables and register lists. -/
theorem stepKeepsWellFormed : Obligations.StepKeepsWellFormed := by
  intro s t ⟨hshape, hcanon⟩ hstep
  unfold step at hstep
  split at hstep
  · cases hstep
    exact ⟨hshape, hcanon⟩
  · next c rest _ =>
    obtain ⟨u, hexec, hkept⟩ := exec_kept c { s with pending := rest }
    cases hexec.symm.trans hstep
    exact ⟨hkept.shape hshape, hkept.canon hcanon⟩

/-- Settles O11: each row keeps the counter's direction. -/
theorem rollbackStands : Obligations.RollbackStands := by
  intro c s t hversion hexec
  obtain ⟨u, hexec', hkept⟩ := exec_kept c s
  cases hexec.symm.trans hexec'
  exact hkept.rollback hversion
end Sys2Proof.Machine
end

section
/-! The queue's step, the state after a cold reset, and the rows of power-up. -/

namespace Sys2Proof.Machine

open Sys2Proof.Claims

/-- Settles O1: with a command waiting, and with none. -/
theorem stepTakesFront : Obligations.StepTakesFront := by
  refine ⟨fun s c rest h => ?_, fun s h => ?_⟩
  · simp [step, h]
  · simp [step, h]

/-- Settles O2: the reset state is that of the fields' defaults. -/
theorem resetValues : Obligations.ResetValues := by
  simp [Obligations.ResetValues, State.reset, Rail.isOn]

/-- Settles O3: the tables are as long as their defaults, and both register lists are empty. -/
theorem resetWellFormed : Obligations.ResetWellFormed := by
  simp [Obligations.ResetWellFormed, State.wf, State.shape, State.reset, regWf]

/-! ### Supplies and straps -/

/-- A state is another with some fields replaced where every other field is the same. -/
theorem State.eq_iff {s t : State} : t = s ↔
    (t.sys = s.sys ∧ t.clk = s.clk ∧ t.cfg = s.cfg ∧ t.regs = s.regs ∧ t.live = s.live ∧ t.rails = s.rails ∧
      t.phases = s.phases ∧ t.sws = s.sws ∧ t.seq = s.seq ∧ t.path = s.path ∧ t.gauge = s.gauge) ∧
    (t.tdm = s.tdm ∧ t.hif = s.hif ∧ t.way = s.way ∧ t.dray = s.dray ∧ t.rcd = s.rcd ∧ t.brake = s.brake ∧
      t.cap = s.cap ∧ t.maint = s.maint ∧ t.smp = s.smp ∧ t.freeCtr = s.freeCtr ∧ t.pending = s.pending) := by
  cases s
  cases t
  simp [and_assoc]

theorem alwaysOnStart_holds : alwaysOnStart := fun s hoff => ⟨_, rfl, by simp [hoff]⟩
theorem vaonRise_holds : vaonRise := fun s haon => by
  refine ⟨_, rfl, ?_⟩
  by_cases hasleep : s.sys.hib = .asleep
  · rw [if_neg (by simp [hasleep]), if_pos hasleep, ← haon]
  · rw [if_pos ⟨haon, hasleep⟩, if_neg hasleep]
theorem v33Good_holds : v33Good := fun s hv33 => ⟨_, rfl, by simp [hv33]⟩
theorem v18Good_holds : v18Good := fun s hv18 => ⟨_, rfl, by simp [hv18]⟩
/-- R107: the role the two straps spell is `r0 + 2·r1`. -/
theorem strapLatch_holds : strapLatch := by
  intro s r1 r0 side hv18 hfresh
  refine ⟨_, if_pos ⟨hv18, hfresh⟩, ?_⟩
  cases r1 <;> cases r0 <;> cases s.sys.variant.hasDown <;> simp [bit1, State.eq_iff]
/-- R115: the third failure is the last. -/
theorem coreStartRetry_holds : coreStartRetry := by
  intro s mv hcore
  refine ⟨_, if_pos hcore, ?_⟩
  by_cases hlast : 2 ≤ s.sys.coreTries
  · have : ¬s.sys.coreTries < 2 := by omega
    simp [*]
  · simp [*]

/-- Settles O56, one row each. -/
theorem powerUp : Obligations.PowerUp :=
  ⟨alwaysOnStart_holds, vaonRise_holds, v33Good_holds, strapLatch_holds, v18Good_holds, coreStartRetry_holds⟩

end Sys2Proof.Machine
end

section
/-! The parts of the state each operation of the model leaves alone, said once per operation and in the order of the model's
files: with these every row's last clause is a matter of `simp`. The queue, the tables' lengths and the register lists are
in the lemmas on `SameTables`, and `sys` in those on `sys`. -/

namespace Sys2Proof.Machine

open Sys2Proof.Claims

/-- Every part of the state outside the tables' lengths, `sys`, the queue and the register lists is as it was, but for those
named by the argument `True`. -/
@[simp] abbrev Frame (s t : State) (clk : Prop := t.clk = s.clk) (cfg : Prop := t.cfg = s.cfg) (rails : Prop := t.rails = s.rails) (phases : Prop := t.phases = s.phases) (sws : Prop := t.sws = s.sws) (seq : Prop := t.seq = s.seq) (path : Prop := t.path = s.path) (gauge : Prop := t.gauge = s.gauge) (tdm : Prop := t.tdm = s.tdm) (hif : Prop := t.hif = s.hif) (way : Prop := t.way = s.way) (dray : Prop := t.dray = s.dray) (rcd : Prop := t.rcd = s.rcd) (brake : Prop := t.brake = s.brake) (cap : Prop := t.cap = s.cap) (maint : Prop := t.maint = s.maint) (smp : Prop := t.smp = s.smp) (freeCtr : Prop := t.freeCtr = s.freeCtr) : Prop :=
  clk ∧ cfg ∧ rails ∧ phases ∧ sws ∧ seq ∧ path ∧ gauge ∧ tdm ∧ hif ∧ way ∧ dray ∧ rcd ∧ brake ∧ cap ∧ maint ∧ smp ∧ freeCtr

/-- The host interface but for what a decided completion writes. -/
def Hif.rest (h : Hif) : Hif :=
  { h with tags := [], decided := [], decLog := [], discarded := 0, runIds := [], repeats := [] }

@[simp] theorem Hif.rest_update (h : Hif) (tags : List Tag) (decided : List Cpl) (decLog : List (Nat × Nat))
    (discarded : Nat) (runIds : List RunId) (repeats : List (Nat × Nat)) :
    Hif.rest { h with tags, decided, decLog, discarded, runIds, repeats } = h.rest := rfl
@[simp] theorem Hif.rest_ite (c : Prop) [Decidable c] (a b : Hif) :
    (if c then a else b).rest = if c then a.rest else b.rest := by split <;> rfl
@[simp] theorem foldl_hif_rest {β : Type} (f : State → β → State) (h : ∀ s k, (f s k).hif.rest = s.hif.rest) (l : List β)
    (s : State) : (l.foldl f s).hif.rest = s.hif.rest := foldl_keep (·.hif.rest) f h l s
@[simp] theorem each_hif_rest (f : State → Nat → State) (h : ∀ s k, (f s k).hif.rest = s.hif.rest) (l : List Nat)
    (s : State) : (s.each l f).hif.rest = s.hif.rest := foldl_keep (·.hif.rest) f h l s

/-- The same, where completions may have been decided. -/
@[simp] abbrev FrameEnds (s t : State) (clk : Prop := t.clk = s.clk) (cfg : Prop := t.cfg = s.cfg) (rails : Prop := t.rails = s.rails) (phases : Prop := t.phases = s.phases) (sws : Prop := t.sws = s.sws) (seq : Prop := t.seq = s.seq) (path : Prop := t.path = s.path) (gauge : Prop := t.gauge = s.gauge) (tdm : Prop := t.tdm = s.tdm) (hif : Prop := t.hif.rest = s.hif.rest) (way : Prop := t.way = s.way) (dray : Prop := t.dray = s.dray) (rcd : Prop := t.rcd = s.rcd) (brake : Prop := t.brake = s.brake) (cap : Prop := t.cap = s.cap) (maint : Prop := t.maint = s.maint) (smp : Prop := t.smp = s.smp) (freeCtr : Prop := t.freeCtr = s.freeCtr) : Prop :=
  clk ∧ cfg ∧ rails ∧ phases ∧ sws ∧ seq ∧ path ∧ gauge ∧ tdm ∧ hif ∧ way ∧ dray ∧ rcd ∧ brake ∧ cap ∧ maint ∧ smp ∧ freeCtr

theorem onlyEnds_iff {s t : State} : OnlyEnds s t ↔ t.hif.rest = s.hif.rest := by
  unfold OnlyEnds
  cases t.hif
  cases s.hif
  simp [Hif.rest]

theorem foldl_frameEnds {β : Type} {f : State → β → State} (h : ∀ s q, FrameEnds s (f s q)) (l : List β) (s : State) :
    FrameEnds s (l.foldl f s) := by
  simp only [FrameEnds, forall_and] at h
  simp [h]

section
variable (s : State)
@[simp] theorem each_modRail_frame (l : List Nat) (g : State → Nat → Rail → Rail) :
    Frame s (s.each l fun s n => s.modRail n (g s n)) (rails := True) ∧ (s.each l fun s n => s.modRail n (g s n)).live = s.live :=
  ⟨⟨each_clk _ (fun _ _ => by simp) _ _, each_cfg _ (fun _ _ => by simp) _ _, trivial, each_phases _ (fun _ _ => by simp) _ _, each_sws _ (fun _ _ => by simp) _ _, each_seq _ (fun _ _ => by simp) _ _, each_path _ (fun _ _ => by simp) _ _, each_gauge _ (fun _ _ => by simp) _ _, each_tdm _ (fun _ _ => by simp) _ _, each_hif _ (fun _ _ => by simp) _ _, each_way _ (fun _ _ => by simp) _ _, each_dray _ (fun _ _ => by simp) _ _, each_rcd _ (fun _ _ => by simp) _ _, each_brake _ (fun _ _ => by simp) _ _, each_cap _ (fun _ _ => by simp) _ _, each_maint _ (fun _ _ => by simp) _ _, each_smp _ (fun _ _ => by simp) _ _, each_freeCtr _ (fun _ _ => by simp) _ _⟩, each_live _ (fun _ _ => by simp) _ _⟩
@[simp] theorem each_modPhase_frame (l : List Nat) (g : State → Nat → Phase → Phase) :
    Frame s (s.each l fun s n => s.modPhase n (g s n)) (phases := True) ∧ (s.each l fun s n => s.modPhase n (g s n)).live = s.live :=
  ⟨⟨each_clk _ (fun _ _ => by simp) _ _, each_cfg _ (fun _ _ => by simp) _ _, each_rails _ (fun _ _ => by simp) _ _, trivial, each_sws _ (fun _ _ => by simp) _ _, each_seq _ (fun _ _ => by simp) _ _, each_path _ (fun _ _ => by simp) _ _, each_gauge _ (fun _ _ => by simp) _ _, each_tdm _ (fun _ _ => by simp) _ _, each_hif _ (fun _ _ => by simp) _ _, each_way _ (fun _ _ => by simp) _ _, each_dray _ (fun _ _ => by simp) _ _, each_rcd _ (fun _ _ => by simp) _ _, each_brake _ (fun _ _ => by simp) _ _, each_cap _ (fun _ _ => by simp) _ _, each_maint _ (fun _ _ => by simp) _ _, each_smp _ (fun _ _ => by simp) _ _, each_freeCtr _ (fun _ _ => by simp) _ _⟩, each_live _ (fun _ _ => by simp) _ _⟩
@[simp] theorem each_modSw_frame (l : List Nat) (g : State → Nat → Switch → Switch) :
    Frame s (s.each l fun s n => s.modSw n (g s n)) (sws := True) ∧ (s.each l fun s n => s.modSw n (g s n)).live = s.live :=
  ⟨⟨each_clk _ (fun _ _ => by simp) _ _, each_cfg _ (fun _ _ => by simp) _ _, each_rails _ (fun _ _ => by simp) _ _, each_phases _ (fun _ _ => by simp) _ _, trivial, each_seq _ (fun _ _ => by simp) _ _, each_path _ (fun _ _ => by simp) _ _, each_gauge _ (fun _ _ => by simp) _ _, each_tdm _ (fun _ _ => by simp) _ _, each_hif _ (fun _ _ => by simp) _ _, each_way _ (fun _ _ => by simp) _ _, each_dray _ (fun _ _ => by simp) _ _, each_rcd _ (fun _ _ => by simp) _ _, each_brake _ (fun _ _ => by simp) _ _, each_cap _ (fun _ _ => by simp) _ _, each_maint _ (fun _ _ => by simp) _ _, each_smp _ (fun _ _ => by simp) _ _, each_freeCtr _ (fun _ _ => by simp) _ _⟩, each_live _ (fun _ _ => by simp) _ _⟩
@[simp] theorem State.modTag_rest (k : Nat) (f : Tag → Tag) : (s.modTag k f).hif.rest = s.hif.rest := by simp [State.modTag]
@[simp] theorem State.hold_rest (k : Nat) : (s.hold k).hif.rest = s.hif.rest := by simp [State.hold]
@[simp] theorem State.completeOne_rest (k status result : Nat) :
    (s.completeOne k status result).hif.rest = s.hif.rest := by simp [State.completeOne]
@[simp] theorem State.complete_rest (k status result : Nat) : (s.complete k status result).hif.rest = s.hif.rest := by
  simp [State.complete]
@[simp] theorem State.completeAll_rest (ks : List Nat) (status result : Nat) :
    (s.completeAll ks status result).hif.rest = s.hif.rest := by simp [State.completeAll]
@[simp] theorem State.reject_rest (k status result : Nat) : (s.reject k status result).hif.rest = s.hif.rest := by
  simp [State.reject]
@[simp] theorem State.completeRepeat_rest (k : Nat) (r : RunId) : (s.completeRepeat k r).hif.rest = s.hif.rest := by
  simp [State.completeRepeat]
@[simp] theorem State.keepRun_rest (op rid target k : Nat) : (s.keepRun op rid target k).hif.rest = s.hif.rest := by
  simp [State.keepRun]
end

end Sys2Proof.Machine
end

section
/-! What each operation of the model leaves alone of the state's parts, said once per operation and in the order of the
model's files. -/

namespace Sys2Proof.Machine

open Sys2Proof.Claims

section
variable (s : State)

/-! ### Rails: shared operations -/

@[simp] theorem State.floorCause_frame (bit : Nat) : Frame s (s.floorCause bit) (brake := True) := by
  simp [State.floorCause]
@[simp] theorem State.clearCause_frame (bit : Nat) : Frame s (s.clearCause bit) (rcd := True) (brake := True) := by
  simp [State.clearCause]
@[simp] theorem State.brakeClip_frame (unit item proposed committed eng :
    Nat) : Frame s (s.brakeClip unit item proposed committed eng) (rcd := True) (brake := True) := by
  simp [State.brakeClip]
@[simp] theorem State.applyCounts_frame (n : Nat) : Frame s (s.applyCounts n) (phases := True) := by
  simp [State.applyCounts]
@[simp] theorem State.phasesMid_frame (n : Nat) : Frame s (s.phasesMid n) (phases := True) := by simp [State.phasesMid]
@[simp] theorem State.clipCount_frame (n c : Nat) : Frame s (s.clipCount n c).1 (rcd := True) (brake := True) := by
  simp [State.clipCount]
@[simp] theorem State.setCount_frame (n c :
    Nat) : Frame s (s.setCount n c) (rails := True) (phases := True) (rcd := True) (brake := True) := by
  simp [State.setCount]
@[simp] theorem State.retireFc_frame (n :
    Nat) (lead : Bool) (status result : Nat) : FrameEnds s (s.retireFc n lead status result) (rails := True) (phases :=
      True) := by
  unfold State.retireFc
  split
  · simp
  · dsimp only; split <;> simp
@[simp] theorem State.clearWarns_frame (n : Nat) : Frame s (s.clearWarns n) (rails := True) (rcd := True) := by
  simp [State.clearWarns]
@[simp] theorem State.putTarget_frame (n target rate :
    Nat) : FrameEnds s (s.putTarget n target rate) (rails := True) (rcd := True) := by
  unfold State.putTarget
  dsimp only
  split <;> simp
@[simp] theorem State.clipTarget_frame (n target rate :
    Nat) : Frame s (s.clipTarget n target rate).1 (rcd := True) (brake := True) := by
  simp [State.clipTarget]
@[simp] theorem State.loadRailCfg_frame (n : Nat) : Frame s (s.loadRailCfg n) := by simp [State.loadRailCfg]
@[simp] theorem State.startUnit_frame (n target rate delay :
    Nat) : FrameEnds s (s.startUnit n target rate delay) (rails := True) (phases := True) (rcd := True) (brake := True)
      := by
  unfold State.startUnit
  dsimp only
  split <;> simp
@[simp] theorem State.turnOn_frame (n target delay :
    Nat) : FrameEnds s (s.turnOn n target delay).1 (rails := True) (phases := True) (rcd := True) (brake := True) := by
  simp [State.turnOn]
@[simp] theorem State.park_frame (n : Nat) : FrameEnds s (s.park n) (rails := True) (phases := True) := by
  simp [State.park]
@[simp] theorem State.endOn_frame (n code :
    Nat) : FrameEnds s (s.endOn n code) (rails := True) (phases := True) (rcd := True) := by
    cases h : (s.rail n).onSlot <;> cases k : (s.rail n).setSlot <;> simp [State.endOn, h, k]
@[simp] theorem State.dischargePhases_frame (n : Nat) : Frame s (s.dischargePhases n) (phases := True) := by
  unfold State.dischargePhases
  dsimp only
  split <;> simp
@[simp] theorem State.offUnit_frame (n code :
    Nat) : FrameEnds s (s.offUnit n code) (rails := True) (phases := True) (rcd := True) := by
  simp [State.offUnit]
@[simp] theorem State.turnOff_frame (n code :
    Nat) : FrameEnds s (s.turnOff n code) (rails := True) (phases := True) (rcd := True) := by
  simp [State.turnOff]
@[simp] theorem State.shortOff_frame (n code :
    Nat) : FrameEnds s (s.shortOff n code) (rails := True) (phases := True) (rcd := True) := by
  simp [State.shortOff]

/-! ### Switch channels: shared operations -/

@[simp] theorem State.limitTarget_frame (n target rate :
    Nat) : Frame s (s.limitTarget n target rate).1 (rcd := True) := by
  simp [State.limitTarget]
@[simp] theorem State.applySetpoint_frame (n target rate :
    Nat) : FrameEnds s (s.applySetpoint n target rate).1 (rails := True) (rcd := True) := by
  simp [State.applySetpoint]
@[simp] theorem State.cancelRetry_frame (n : Nat) : Frame s (s.cancelRetry n) (rails := True) := by
  simp [State.cancelRetry]
@[simp] theorem State.swEnd_frame (n :
    Nat) (nst : SwState) (code : Nat) : FrameEnds s (s.swEnd n nst code) (sws := True) := by
  simp [State.swEnd]
@[simp] theorem State.swRamp_frame (n : Nat) : Frame s (s.swRamp n) (sws := True) := by simp [State.swRamp]
@[simp] theorem State.swTurnOn_frame (n :
    Nat) (retry prearmed : Bool) : FrameEnds s (s.swTurnOn n retry prearmed) (sws := True) := by
  simp [State.swTurnOn]
@[simp] theorem State.swTurnOff_frame (n code : Nat) : FrameEnds s (s.swTurnOff n code) (sws := True) := by
    unfold State.swTurnOff; split <;> simp
@[simp] theorem State.swTrip_frame (n m ma :
    Nat) (t : Option Nat) : FrameEnds s (s.swTrip n m ma t) (sws := True) (tdm := True) (rcd := True) := by
    unfold State.swTrip; split <;> simp
@[simp] theorem State.swJudge_frame (n : Nat) : FrameEnds s (s.swJudge n) (sws := True) := by simp [State.swJudge]

/-! ### Sequencer: shared operations -/

@[simp] theorem State.setPgood_frame (b : Bool) : Frame s (s.setPgood b) (seq := True) (rcd := True) := by
  simp [State.setPgood]
@[simp] theorem State.faultN_frame : Frame s s.faultN (seq := True) (rcd := True) := by simp [State.faultN]
@[simp] theorem State.resetOuts_frame : Frame s s.resetOuts (seq := True) := by simp [State.resetOuts]
@[simp] theorem State.supervise_frame : Frame s s.supervise (seq := True) (rcd := True) := by simp [State.supervise]
@[simp] theorem State.seqOff_frame (u :
    Nat) : FrameEnds s (s.seqOff u) (rails := True) (phases := True) (sws := True) (rcd := True) := by
  simp [State.seqOff]
@[simp] theorem State.offOwnOne_frame (l :
    List Nat) : FrameEnds s (s.offOwnOne l) (rails := True) (phases := True) (sws := True) (seq := True) (rcd := True)
      := by
  induction l generalizing s with
  | nil => simp [State.offOwnOne]
  | cons u us ih => rw [State.offOwnOne]; split <;> simp [ih]
@[simp] theorem State.retirePrearm_frame : Frame s s.retirePrearm (rails := True) (sws := True) := by
  simp [State.retirePrearm]
@[simp] theorem State.seqEnd_frame (outcome cause status :
    Nat) : FrameEnds s (s.seqEnd outcome cause status) (rails := True) (sws := True) (seq := True) (rcd := True) := by
  simp [State.seqEnd]
@[simp] theorem State.dropStart_frame (outcome status :
    Nat) : FrameEnds s (s.dropStart outcome status) (seq := True) (rcd := True) := by
  unfold State.dropStart
  split
  · dsimp only; split <;> simp
  · simp
@[simp] theorem State.seqStop_frame :
    FrameEnds s s.seqStop (rails := True) (sws := True) (seq := True) (rcd := True) := by
  simp [State.seqStop]
@[simp] theorem State.seqRequest_frame (p src :
    Nat) (slot : Option Nat) : FrameEnds s (s.seqRequest p src slot) (rails := True) (sws := True) (seq := True) (rcd
      := True) := by
  simp [State.seqRequest]
@[simp] theorem State.offSequence_frame (src :
    Nat) : FrameEnds s (s.offSequence src).1 (rails := True) (phases := True) (sws := True) (seq := True) (rcd := True)
      := by
  simp [State.offSequence]
@[simp] theorem State.seqPolicy_frame (cause :
    Nat) : FrameEnds s (s.seqPolicy cause) (rails := True) (phases := True) (sws := True) (seq := True) (rcd := True)
      := by
  simp [State.seqPolicy]
@[simp] theorem State.stepFail_frame (cause :
    Nat) : FrameEnds s (s.stepFail cause) (rails := True) (phases := True) (sws := True) (seq := True) (rcd := True) :=
      by
  simp [State.stepFail]
@[simp] theorem State.seqNotify_frame (u :
    Nat) (fault : Bool) : FrameEnds s (s.seqNotify u fault) (rails := True) (phases := True) (sws := True) (seq :=
      True) (rcd := True) := by
  simp [State.seqNotify]
@[simp] theorem State.prearmRecord_frame (u : Nat) (p : Option Nat) : Frame s (s.prearmRecord u p) (rcd := True) := by
    unfold State.prearmRecord; split <;> simp
@[simp] theorem State.stepAct_frame (st :
    Step) : FrameEnds s (s.stepAct st) (rails := True) (phases := True) (sws := True) (seq := True) (dray := True) (rcd
      := True) (brake := True) := by
    unfold State.stepAct; split <;> simp
@[simp] theorem State.startStep_frame (i :
    Nat) : FrameEnds s (s.startStep i) (rails := True) (phases := True) (sws := True) (seq := True) (dray := True) (rcd
      := True) (brake := True) := by
  unfold State.startStep
  dsimp only
  split <;> simp
@[simp] theorem State.seqAdvance_frame :
    FrameEnds s s.seqAdvance (rails := True) (phases := True) (sws := True) (seq := True) (dray := True) (rcd := True)
      (brake := True) := by
  simp [State.seqAdvance]
@[simp] theorem State.progStart_frame :
    FrameEnds s s.progStart (rails := True) (phases := True) (sws := True) (seq := True) (dray := True) (rcd := True)
      (brake := True) := by
    unfold State.progStart; split <;> simp
@[simp] theorem State.seqJudge_frame : Frame s s.seqJudge (seq := True) := by simp [State.seqJudge]
@[simp] theorem State.prearmStep_frame : Frame s s.prearmStep (rails := True) (sws := True) := by
  simp [State.prearmStep]

/-! ### Switch channels -/

@[simp] theorem State.swSample_frame (n : Nat) : FrameEnds s (s.swSample n) (sws := True) := by simp [State.swSample]
@[simp] theorem State.swSeat_frame (n : Nat) : Frame s (s.swSeat n) (sws := True) := by simp [State.swSeat]
@[simp] theorem State.swModel_frame (n : Nat) : Frame s (s.swModel n) (sws := True) := by simp [State.swModel]
@[simp] theorem State.swTherm_frame (n : Nat) : Frame s (s.swTherm n) (sws := True) (rcd := True) := by
  simp [State.swTherm]
@[simp] theorem State.swTimer_frame (n : Nat) : Frame s (s.swTimer n) (sws := True) := by simp [State.swTimer]
@[simp] theorem State.swI2t_frame (n : Nat) : Frame s (s.swI2t n) (sws := True) := by simp [State.swI2t]
@[simp] theorem State.swShadow_frame (n : Nat) : Frame s (s.swShadow n) (sws := True) := by simp [State.swShadow]
@[simp] theorem State.swStep1_frame (n :
    Nat) : FrameEnds s (s.swStep1 n) (rails := True) (phases := True) (sws := True) (seq := True) (tdm := True) (rcd :=
      True) := by
  simp [State.swStep1]
@[simp] theorem State.swStep3_frame (n : Nat) : FrameEnds s (s.swStep3 n) (sws := True) := by simp [State.swStep3]
@[simp] theorem State.tripRow_frame (ch m :
    Nat) (t : Option Nat) (ma : Int) : FrameEnds s (s.tripRow ch m t ma) (rails := True) (phases := True) (sws := True)
      (seq := True) (tdm := True) (rcd := True) := by
  simp [State.tripRow]
@[simp] theorem State.swOnOp_frame (k :
    Nat) (d : RawDesc) : FrameEnds s (s.swOnOp k d) (sws := True) (rcd := True) := by
    cases h : s.swCheck (descIndex d) <;> simp [State.swOnOp, h]
@[simp] theorem State.swOffOp_frame (k :
    Nat) (d : RawDesc) : FrameEnds s (s.swOffOp k d) (rails := True) (phases := True) (sws := True) (seq := True) (rcd
      := True) := by
  simp [State.swOffOp]
@[simp] theorem State.swClearOp_frame (k :
    Nat) (d : RawDesc) : FrameEnds s (s.swClearOp k d) (sws := True) (rcd := True) := by
  simp [State.swClearOp]

/-! ### Caps, temperature, compensation -/

@[simp] theorem State.capStage_frame : Frame s s.capStage (rcd := True) (cap := True) := by simp [State.capStage]
@[simp] theorem State.capFrame_frame : Frame s s.capFrame (rcd := True) (cap := True) := by simp [State.capFrame]
@[simp] theorem State.capEpoch_frame : Frame s s.capEpoch (cap := True) := by simp [State.capEpoch]
@[simp] theorem State.setCapLim_frame (u :
    Nat) (l : Option Nat) : Frame s (s.setCapLim u l) (rails := True) (sws := True) := by
  simp [State.setCapLim]
@[simp] theorem State.changeCap_frame (lead :
    Bool) (mw : Nat) : Frame s (s.changeCap lead mw) (rcd := True) (cap := True) := by
  simp [State.changeCap]
@[simp] theorem State.tsense_frame : Frame s s.tsense (cap := True) := by simp [State.tsense]
@[simp] theorem State.tdieAverage_frame : Frame s s.tdieAverage (cap := True) := by simp [State.tdieAverage]
@[simp] theorem State.derate_frame : Frame s s.derate (rcd := True) (cap := True) := by simp [State.derate]
@[simp] theorem State.compensate_frame : Frame s s.compensate (cap := True) := by
    unfold State.compensate; split <;> simp

/-! ### Sequencer and its pins -/

@[simp] theorem State.syncClaim_frame : Frame s s.syncClaim (seq := True) := by simp [State.syncClaim]
@[simp] theorem State.seqRunOp_frame (k :
    Nat) (d : RawDesc) : FrameEnds s (s.seqRunOp k d) (rails := True) (sws := True) (seq := True) (rcd := True) := by
  unfold State.seqRunOp
  dsimp only
  split <;> simp
@[simp] theorem State.seqPulseOp_frame (k :
    Nat) (d : RawDesc) : FrameEnds s (s.seqPulseOp k d) (seq := True) (rcd := True) := by
  unfold State.seqPulseOp
  dsimp only
  split <;> simp
@[simp] theorem State.seqFrame_frame :
    FrameEnds s s.seqFrame (rails := True) (phases := True) (sws := True) (seq := True) (dray := True) (rcd := True)
      (brake := True) := by
  simp [State.seqFrame]

/-! ### Gauge: shared operations -/

@[simp] theorem State.maintEnd_frame (c outcome detail :
    Nat) : FrameEnds s (s.maintEnd c outcome detail) (rcd := True) (maint := True) := by
  simp [State.maintEnd]
@[simp] theorem State.nvStart_frame (trig : Nat) : Frame s (s.nvStart trig) (gauge := True) := by simp [State.nvStart]
@[simp] theorem State.nvTrigger_frame (trig : Nat) : Frame s (s.nvTrigger trig) (gauge := True) := by
  simp [State.nvTrigger]
@[simp] theorem State.learnAbort_frame (cause :
    Nat) : FrameEnds s (s.learnAbort cause) (gauge := True) (rcd := True) (maint := True) := by
  simp [State.learnAbort]
@[simp] theorem State.holdUpdate_frame : Frame s s.holdUpdate (gauge := True) (rcd := True) := by
  simp [State.holdUpdate]
@[simp] theorem State.gaugeEpoch_frame : FrameEnds s s.gaugeEpoch (gauge := True) (rcd := True) (maint := True) := by
  simp [State.gaugeEpoch]
@[simp] theorem State.gaugeFrame_frame : Frame s s.gaugeFrame (gauge := True) := by simp [State.gaugeFrame]

/-! ### Power path: shared operations -/

@[simp] theorem State.pathFaults_frame : Frame s s.pathFaults (path := True) := by simp [State.pathFaults]
@[simp] theorem State.convTo_frame (c : ConvSt) : Frame s (s.convTo c) (path := True) (rcd := True) := by
  simp [State.convTo]
@[simp] theorem State.batTo_frame (b :
    BatSt) (cause : Nat) : FrameEnds s (s.batTo b cause) (path := True) (gauge := True) (rcd := True) (maint := True)
      := by
  simp [State.batTo]
@[simp] theorem State.toNoFeed_frame : Frame s s.toNoFeed (path := True) (rcd := True) := by simp [State.toNoFeed]
@[simp] theorem State.batOut_frame (b :
    BatSt) (cause : Nat) : FrameEnds s (s.batOut b cause) (path := True) (gauge := True) (rcd := True) (maint := True)
      := by
  simp [State.batOut]
@[simp] theorem State.searchStart_frame (maint : Bool) : Frame s (s.searchStart maint) (path := True) := by
  simp [State.searchStart]
@[simp] theorem State.searchEnd_frame (result lim tested :
    Nat) (sag : Int) : FrameEnds s (s.searchEnd result lim tested sag) (path := True) (rcd := True) (maint := True) :=
      by
  simp [State.searchEnd]
@[simp] theorem State.detEnd_frame (b :
    BatSt) (cause : Nat) : FrameEnds s (s.detEnd b cause) (path := True) (gauge := True) (rcd := True) (maint := True)
      := by
  simp [State.detEnd]
@[simp] theorem State.detStart_frame (cause :
    Nat) : FrameEnds s (s.detStart cause) (path := True) (gauge := True) (rcd := True) (maint := True) := by
  simp [State.detStart]
@[simp] theorem State.shedOne_frame (u :
    Nat) : FrameEnds s (s.shedOne u) (rails := True) (phases := True) (sws := True) (seq := True) (path := True) (rcd
      := True) := by
  simp [State.shedOne]
@[simp] theorem State.shedAll_frame (l :
    List Nat) (reason : Nat) : FrameEnds s (s.shedAll l reason) (rails := True) (phases := True) (sws := True) (seq :=
      True) (path := True) (rcd := True) := by
  simp [State.shedAll]
@[simp] theorem State.shedAtLoss_frame :
    FrameEnds s s.shedAtLoss (rails := True) (phases := True) (sws := True) (seq := True) (path := True) (rcd := True)
      := by
  simp [State.shedAtLoss]
@[simp] theorem State.shedAgain_frame :
    FrameEnds s s.shedAgain (rails := True) (phases := True) (sws := True) (seq := True) (path := True) (rcd := True)
      := by
  simp [State.shedAgain]
@[simp] theorem State.toFeed_frame :
    FrameEnds s s.toFeed (path := True) (gauge := True) (rcd := True) (brake := True) (maint := True) := by
  simp [State.toFeed]

/-! ### Feed, battery, charging, search -/

@[simp] theorem State.pathSample_frame : Frame s s.pathSample (path := True) := by simp [State.pathSample]
@[simp] theorem State.takeLoss_frame :
    FrameEnds s s.takeLoss (rails := True) (phases := True) (sws := True) (seq := True) (path := True) (rcd := True) :=
      by
    unfold State.takeLoss; split <;> simp
@[simp] theorem State.batWatch_frame :
    FrameEnds s s.batWatch (path := True) (gauge := True) (rcd := True) (maint := True) := by
  simp [State.batWatch]
@[simp] theorem State.chgSuspend_frame : Frame s s.chgSuspend (path := True) := by simp [State.chgSuspend]
@[simp] theorem State.restoreOne_frame :
    FrameEnds s s.restoreOne (rails := True) (phases := True) (sws := True) (path := True) (rcd := True) (brake :=
      True) := by
    unfold State.restoreOne; split <;> simp
@[simp] theorem State.pathStep_frame :
    FrameEnds s s.pathStep (rails := True) (phases := True) (sws := True) (seq := True) (path := True) (gauge := True)
      (rcd := True) (brake := True) (maint := True) := by
  simp [State.pathStep]
@[simp] theorem State.chgSlotEnd_frame (status result :
    Nat) : FrameEnds s (s.chgSlotEnd status result) (path := True) := by
    unfold State.chgSlotEnd; split <;> simp
@[simp] theorem State.chgStartOp_frame (k :
    Nat) (d : RawDesc) : FrameEnds s (s.chgStartOp k d) (path := True) (rcd := True) (maint := True) := by
  simp [State.chgStartOp]

/-! ### Battery gauge -/

@[simp] theorem State.spectroBegin_frame (f :
    Nat) (slot : Option Nat) : Frame s (s.spectroBegin f slot) (gauge := True) := by
  simp [State.spectroBegin]
@[simp] theorem State.nvSave_frame (k : Nat) : FrameEnds s (s.nvSave k) (gauge := True) := by simp [State.nvSave]
@[simp] theorem State.gaugeWake_frame (ms :
    Nat) : FrameEnds s (s.gaugeWake ms) (gauge := True) (rcd := True) (maint := True) := by
  simp [State.gaugeWake]
@[simp] theorem State.setFullOp_frame (k :
    Nat) (d : RawDesc) : FrameEnds s (s.setFullOp k d) (gauge := True) (rcd := True) := by
  unfold State.setFullOp
  dsimp only
  split <;> simp
@[simp] theorem State.gaugeNew_frame : Frame s s.gaugeNew (gauge := True) := by simp [State.gaugeNew]
@[simp] theorem State.spectroOp_frame (k :
    Nat) (d : RawDesc) : FrameEnds s (s.spectroOp k d) (gauge := True) (rcd := True) := by
  unfold State.spectroOp
  dsimp only
  split <;> simp
@[simp] theorem State.gaugeLoad_frame : Frame s s.gaugeLoad (gauge := True) (rcd := True) := by
  generalize ht : s.gaugeLoad = t
  unfold State.gaugeLoad at ht
  dsimp only at ht
  repeat' split at ht
  all_goals
    subst ht
    simp

/-! ### Host interface -/

@[simp] theorem State.writeDenied_frame (off v kept : Nat) : Frame s (s.writeDenied off v kept) (rcd := True) := by
  simp [State.writeDenied]
@[simp] theorem State.inject_frame : Frame s s.inject (maint := True) (freeCtr := True) := by simp [State.inject]
@[simp] theorem State.ringTo_frame (r :
    Nat) (st : RSt) (source : Nat) : Frame s (s.ringTo r st source) (hif := True) (rcd := True) := by
  simp [State.ringTo]
@[simp] theorem State.ringError_frame (r cause info :
    Nat) : Frame s (s.ringError r cause info) (hif := True) (rcd := True) := by
  simp [State.ringError]
@[simp] theorem State.ringEnableWith_frame (r :
    Nat) (g : Ring) (source : Nat) : Frame s (s.ringEnableWith r g source) (hif := True) (rcd := True) := by
  simp [State.ringEnableWith]
@[simp] theorem State.ringDisable_frame (r source :
    Nat) : Frame s (s.ringDisable r source) (hif := True) (rcd := True) := by
  simp [State.ringDisable]
@[simp] theorem State.ringReset_frame (r source :
    Nat) : Frame s (s.ringReset r source) (hif := True) (rcd := True) := by
  simp [State.ringReset]
@[simp] theorem State.windowCheck_frame : Frame s (s.windowCheck.1) (hif := True) (rcd := True) := by
  simp [State.windowCheck]
@[simp] theorem State.sqTake_frame (r : Nat) (v : Word) : Frame s (s.sqTake r v) (hif := True) (rcd := True) := by
  simp [State.sqTake]
@[simp] theorem State.cqTake_frame (r : Nat) (v : Word) : Frame s (s.cqTake r v) (hif := True) (rcd := True) := by
  simp [State.cqTake]
@[simp] theorem State.doorbell_frame (cq :
    Bool) (r : Nat) (v : Word) : Frame s (s.doorbell cq r v) (hif := True) (rcd := True) (maint := True) (freeCtr :=
      True) := by
  simp [State.doorbell]
@[simp] theorem State.doorbellsDue_frame : Frame s s.doorbellsDue (hif := True) (rcd := True) (maint := True) := by
  simp [State.doorbellsDue]
@[simp] theorem State.intakeAs_frame (ring :
    Nat) (d : RawDesc) (time tick : Nat) (frame : BitVec 32) (tk : Bool) : Frame s (s.intakeAs ring d time tick frame
      tk) (hif := True) (rcd := True) := by
    unfold State.intakeAs; split <;> simp
@[simp] theorem State.cqSignal_frame (q : Nat) : Frame s (s.cqSignal q) (hif := True) := by simp [State.cqSignal]
@[simp] theorem State.writeCpl_frame (c : Cpl) : Frame s (s.writeCpl c) (hif := True) := by
    unfold State.writeCpl; split <;> simp
@[simp] theorem State.sendPending_frame : Frame s s.sendPending (hif := True) := by simp [State.sendPending]
@[simp] theorem State.ringCtrl_frame (r : Nat) (en : Bool) : Frame s (s.ringCtrl r en) (hif := True) (rcd := True) := by
  simp [State.ringCtrl]
@[simp] theorem State.barVoid_frame (bar off size :
    Nat) (isWrite : Bool) : Frame s (s.barVoid bar off size isWrite) (rcd := True) := by
  simp [State.barVoid]

/-! ### Configuration image and banks -/

@[simp] theorem State.loadReg_frame (off w : Nat) : Frame s (s.loadReg off w) := by simp [State.loadReg]
@[simp] theorem State.loadImage_frame (im :
    List Byte) : Frame s (s.loadImage im) (cfg := True) (rails := True) (phases := True) (sws := True) := by
  simp [State.loadImage]

/-! ### Admin and firmware descriptors -/

@[simp] theorem State.writeStart_frame (k :
    Nat) (fw b : Bool) (bytes : List Byte) : FrameEnds s (s.writeStart k fw b bytes) (cfg := True) := by
  simp [State.writeStart]
@[simp] theorem State.cfgWriteOp_frame (k :
    Nat) (d : RawDesc) (image : List Byte) : FrameEnds s (s.cfgWriteOp k d image) (cfg := True) (rcd := True) := by
  cases h : imageFault s.sys.variant s.cfg.fwVersion s.sys.signedOnly (image.take (descField d 24 4)) <;>
    simp [State.cfgWriteOp, h]
@[simp] theorem State.setSlotBytes_frame (b :
    Bool) (bytes : List Byte) : Frame s (s.setSlotBytes b bytes) (cfg := True) := by
  simp [State.setSlotBytes]
@[simp] theorem State.setBankBytes_frame (b :
    Bool) (bytes : List Byte) : Frame s (s.setBankBytes b bytes) (cfg := True) := by
  simp [State.setBankBytes]
@[simp] theorem State.dropWrite_frame : Frame s s.dropWrite (cfg := True) (freeCtr := True) := by
    unfold State.dropWrite; split <;> simp
@[simp] theorem State.judgeOther_frame : Frame s s.judgeOther (cfg := True) := by simp [State.judgeOther]
@[simp] theorem State.fwWriteOp_frame (k :
    Nat) (d : RawDesc) (bank : List Byte) : FrameEnds s (s.fwWriteOp k d bank) (cfg := True) (rcd := True) := by
  simp [State.fwWriteOp]
@[simp] theorem State.ringToRegs_frame (r : Nat) (h : Ring) : Frame s (s.ringToRegs r h) := by simp [State.ringToRegs]
@[simp] theorem State.ringCreateOp_frame (k :
    Nat) (d : RawDesc) : Frame s (s.ringCreateOp k d) (hif := True) (rcd := True) := by
  simp [State.ringCreateOp]
@[simp] theorem State.moveInside_frame (n target rate :
    Nat) : FrameEnds s (s.moveInside n target rate) (rails := True) (rcd := True) := by
  simp [State.moveInside]
@[simp] theorem State.countsInside_frame :
    Frame s s.countsInside (rails := True) (phases := True) (rcd := True) (brake := True) := by
  simp [State.countsInside]
@[simp] theorem State.tightenMove_frame (item n :
    Nat) : FrameEnds s (s.tightenMove item n) (rails := True) (phases := True) (sws := True) (rcd := True) (brake :=
      True) := by
    unfold State.tightenMove; split <;> simp
@[simp] theorem State.setLimit_frame (item n v : Nat) : Frame s (s.setLimit item n v) := by simp [State.setLimit]
@[simp] theorem State.tightenOp_frame (k :
    Nat) (d : RawDesc) : FrameEnds s (s.tightenOp k d) (rails := True) (phases := True) (sws := True) (rcd := True)
      (brake := True) := by
  simp [State.tightenOp]

/-! ### Rail regulation -/

@[simp] theorem State.startPulse_frame (n m t :
    Nat) : Frame s (s.startPulse n m t) (rails := True) (phases := True) := by
  simp [State.startPulse]
@[simp] theorem State.endPulse_frame (m : Nat) : Frame s (s.endPulse m) (phases := True) := by simp [State.endPulse]
@[simp] theorem State.trigger_frame (n t : Nat) : Frame s (s.trigger n t) (rails := True) (phases := True) := by
  unfold State.trigger
  dsimp only
  split <;> simp
@[simp] theorem State.phaseWord_frame (m : Nat) (i : Int) (t : Nat) :
    Frame s (s.phaseWord m i t) (rails := True) (phases := True) := by
  generalize hu : s.phaseWord m i t = u
  unfold State.phaseWord at hu
  extract_lets n s₁ r p s₂ s₃ free parked s₄ at hu
  have hparked : Frame s₃ s₄ (rails := True) (phases := True) := by
    generalize hw : s₄ = w
    unfold s₄ at hw
    repeat' split at hw
    all_goals
      subst hw
      simp [parked]
  split at hu <;> subst hu <;> simp [hparked, s₃, s₂, s₁]
@[simp] theorem State.truncate_frame (n : Nat) : Frame s (s.truncate n) (phases := True) := by simp [State.truncate]
@[simp] theorem State.recall_frame (n :
    Nat) (errUv : Rat) (t : Nat) : Frame s (s.recall n errUv t) (rails := True) (phases := True) (rcd := True) := by
  simp [State.recall]
@[simp] theorem State.shadowRecall_frame (n :
    Nat) (errUv : Rat) (t : Nat) : Frame s (s.shadowRecall n errUv t) (tdm := True) (rcd := True) := by
  simp [State.shadowRecall]
@[simp] theorem State.reached_frame (n : Nat) : FrameEnds s (s.reached n) (rails := True) := by
  unfold State.reached
  dsimp only
  split <;> simp
@[simp] theorem State.takeVin_frame (n : Nat) : Frame s (s.takeVin n) (rails := True) (rcd := True) := by
  simp [State.takeVin]
@[simp] theorem State.adjustCf_frame (n :
    Nat) : Frame s (s.adjustCf n) (rails := True) (rcd := True) (freeCtr := True) := by
  simp [State.adjustCf]
@[simp] theorem State.adjustVofs_frame (n : Nat) : Frame s (s.adjustVofs n) (rails := True) := by
  simp [State.adjustVofs]
@[simp] theorem State.adjustDroop_frame (n : Nat) : Frame s (s.adjustDroop n) (rails := True) (rcd := True) := by
  simp [State.adjustDroop]
@[simp] theorem State.adjustShare_frame (n : Nat) : Frame s (s.adjustShare n) (rails := True) := by
  simp [State.adjustShare]
@[simp] theorem State.adjustBalance_frame (n : Nat) : Frame s (s.adjustBalance n) (phases := True) := by
  simp [State.adjustBalance]
@[simp] theorem State.adjustTrim_frame (n : Nat) : Frame s (s.adjustTrim n) (rails := True) := by
  simp [State.adjustTrim]
@[simp] theorem State.adjustGain_frame (n : Nat) : Frame s (s.adjustGain n) (rails := True) (rcd := True) := by
  simp [State.adjustGain]
@[simp] theorem State.adjustCount_frame (n :
    Nat) : Frame s (s.adjustCount n) (rails := True) (phases := True) (rcd := True) (brake := True) := by
  simp [State.adjustCount]
@[simp] theorem State.checkPeak_frame (n : Nat) : Frame s (s.checkPeak n) (rcd := True) (brake := True) := by
  simp [State.checkPeak]
@[simp] theorem State.railFrameEnd_frame (n :
    Nat) : Frame s (s.railFrameEnd n) (rails := True) (phases := True) (rcd := True) (brake := True) (freeCtr := True)
      := by
  simp [State.railFrameEnd]
@[simp] theorem State.railSample_frame (n : Nat) : Frame s (s.railSample n) (rails := True) (phases := True) := by
  simp [State.railSample]

/-! ### Rail commands and forecasts -/

@[simp] theorem State.railOnOp_frame (k :
    Nat) (d : RawDesc) : FrameEnds s (s.railOnOp k d) (rails := True) (phases := True) (rcd := True) (brake := True) :=
      by
    cases h : s.railOnCause (descIndex d) (descField d 24 2) <;> simp [State.railOnOp, h]
@[simp] theorem State.railOffOp_frame (k :
    Nat) (d : RawDesc) : FrameEnds s (s.railOffOp k d) (rails := True) (phases := True) (sws := True) (seq := True)
      (rcd := True) := by
  simp [State.railOffOp]
@[simp] theorem State.railSetOp_frame (k :
    Nat) (d : RawDesc) : FrameEnds s (s.railSetOp k d) (rails := True) (rcd := True) := by
  simp [State.railSetOp]
@[simp] theorem State.specStart_frame (n :
    Nat) (lead : Bool) : Frame s (s.specStart n lead) (rails := True) (phases := True) := by
    unfold State.specStart; split <;> simp
@[simp] theorem State.putForecast_frame (n :
    Nat) (lead : Bool) (e : Fc) : FrameEnds s (s.putForecast n lead e) (rails := True) (phases := True) := by
  unfold State.putForecast
  cases (s.rail n).entry lead with
  | none => simp
  | some o => cases h : o.slot <;> simp [h]
@[simp] theorem State.forecastOp_frame (k :
    Nat) (d : RawDesc) : FrameEnds s (s.forecastOp k d) (rails := True) (phases := True) (rcd := True) := by
  simp [State.forecastOp]
@[simp] theorem State.confirmFc_frame (n :
    Nat) (lead : Bool) : FrameEnds s (s.confirmFc n lead) (rails := True) (phases := True) (rcd := True) (brake :=
      True) := by
  unfold State.confirmFc
  split
  · simp
  next e _ => cases e.slot <;> simp

/-! ### Rail protection -/

@[simp] theorem State.timerStart_frame (n kind :
    Nat) (started : Bool) (value level : Int) : Frame s (s.timerStart n kind started value level) (rails := True) (rcd
      := True) := by
  simp [State.timerStart]
@[simp] theorem State.railStep1_frame (n :
    Nat) : Frame s (s.railStep1 n) (rails := True) (phases := True) (rcd := True) := by
  simp [State.railStep1]
@[simp] theorem State.warn_frame (n kind :
    Nat) (now set clr : Bool) (value level : Int) : Frame s (s.warn n kind now set clr value level).1 (rcd := True) :=
      by
  simp [State.warn]
@[simp] theorem State.railStep2_frame (n : Nat) : Frame s (s.railStep2 n) (rails := True) (rcd := True) := by
  simp [State.railStep2]
@[simp] theorem State.railStep3_frame (n : Nat) : FrameEnds s (s.railStep3 n) (rails := True) := by
  generalize ht : s.railStep3 n = t
  unfold State.railStep3 at ht
  dsimp only at ht
  repeat' split at ht
  all_goals
    subst ht
    simp
@[simp] theorem State.failedDown_frame (n cause : Nat) : Frame s (s.failedDown n cause) (rcd := True) := by
  simp [State.failedDown]
@[simp] theorem State.faultAct_frame (n :
    Nat) (causes : List Nat) : FrameEnds s (s.faultAct n causes) (rails := True) (phases := True) (sws := True) (seq :=
      True) (rcd := True) := by
  simp [State.faultAct]
@[simp] theorem State.railClearOp_frame (k :
    Nat) (d : RawDesc) : FrameEnds s (s.railClearOp k d) (rails := True) (phases := True) (rcd := True) := by
  simp [State.railClearOp]

/-! ### Event recorder and trace -/

@[simp] theorem State.suppressedRecord_frame (b : Bucket) : Frame s (s.suppressedRecord b) (rcd := True) := by
  simp [State.suppressedRecord]
@[simp] theorem State.drainPend_frame (k : Nat) : Frame s (s.drainPend k) (rcd := True) := by
  induction k generalizing s with
  | zero => simp [State.drainPend]
  | succ k ih => rw [State.drainPend]; split <;> simp [ih]
@[simp] theorem State.program_frame (k : Nat) : Frame s (s.program k) (rcd := True) := by
  unfold State.program
  dsimp only
  split <;> simp
@[simp] theorem State.lostRecords_frame : Frame s s.lostRecords (rcd := True) := by simp [State.lostRecords]
@[simp] theorem State.flushAll_frame : Frame s s.flushAll (rcd := True) := by simp [State.flushAll]
@[simp] theorem State.recReadOp_frame (k :
    Nat) (d : RawDesc) : Frame s (s.recReadOp k d) (hif := True) (rcd := True) := by
  simp [State.recReadOp]
@[simp] theorem State.logHead_frame : Frame s s.logHead (rcd := True) := by simp [State.logHead]
@[simp] theorem State.admitHeld_frame : Frame s s.admitHeld (rcd := True) := by simp [State.admitHeld]
@[simp] theorem State.admitFloor_frame : Frame s s.admitFloor (rcd := True) := by simp [State.admitFloor]
@[simp] theorem State.traceBegin_frame : FrameEnds s s.traceBegin (rcd := True) := by simp [State.traceBegin]
@[simp] theorem State.traceEntry_frame : Frame s s.traceEntry (rcd := True) := by simp [State.traceEntry]
@[simp] theorem State.traceResume_frame : Frame s s.traceResume (rcd := True) := by simp [State.traceResume]
@[simp] theorem State.traceAbandon_frame : FrameEnds s s.traceAbandon (rcd := True) := by simp [State.traceAbandon]
@[simp] theorem State.recTriggerOp_frame (k : Nat) (d : RawDesc) : FrameEnds s (s.recTriggerOp k d) (rcd := True) := by
  unfold State.recTriggerOp
  dsimp only
  split <;> simp

/-! ### Maintenance -/

@[simp] theorem State.maintBegin_frame (c arg :
    Nat) : Frame s (s.maintBegin c arg) (path := True) (tdm := True) (rcd := True) (maint := True) := by
    unfold State.maintBegin; split <;> simp
@[simp] theorem State.maintStartOp_frame (k :
    Nat) (d : RawDesc) : FrameEnds s (s.maintStartOp k d) (path := True) (tdm := True) (rcd := True) (maint := True) :=
      by
  unfold State.maintStartOp
  dsimp only
  split
  · simp
  · cases s.maintForbids (descField d 24 1) <;> simp
@[simp] theorem State.maintCut_frame (c outcome :
    Nat) : FrameEnds s (s.maintCut c outcome) (path := True) (tdm := True) (rcd := True) (maint := True) := by
    unfold State.maintCut; split <;> simp
@[simp] theorem State.maintFailAll_frame :
    FrameEnds s s.maintFailAll (path := True) (tdm := True) (rcd := True) (maint := True) := by
  simp [State.maintFailAll]
@[simp] theorem State.maintStopOp_frame (k :
    Nat) (d : RawDesc) : FrameEnds s (s.maintStopOp k d) (path := True) (tdm := True) (rcd := True) (maint := True) :=
      by
  simp [State.maintStopOp]
@[simp] theorem State.askWarm_frame (cause :
    Nat) : FrameEnds s (s.askWarm cause) (rails := True) (phases := True) (sws := True) (seq := True) (tdm := True)
      (rcd := True) := by
  simp [State.askWarm]
@[simp] theorem State.testClear_frame : Frame s s.testClear (maint := True) := by simp [State.testClear]
@[simp] theorem State.testLockTo_frame (b :
    Bool) (cause : Nat) : Frame s (s.testLockTo b cause) (rcd := True) (maint := True) := by
  simp [State.testLockTo]

/-! ### Waybill -/

@[simp] theorem State.waySnap_frame : Frame s s.waySnap (way := True) (dray := True) := by simp [State.waySnap]
@[simp] theorem State.wayTo_frame (st cause : Nat) : Frame s (s.wayTo st cause) (way := True) (rcd := True) := by
  simp [State.wayTo]
@[simp] theorem State.waySkip_frame (reason : Nat) : Frame s (s.waySkip reason) (way := True) (rcd := True) := by
    unfold State.waySkip; split <;> simp
@[simp] theorem State.wayBegin_frame : Frame s s.wayBegin (way := True) (rcd := True) := by simp [State.wayBegin]
@[simp] theorem State.wayBuild_frame : Frame s s.wayBuild (way := True) (rcd := True) := by simp [State.wayBuild]
@[simp] theorem State.wayWrite_frame (g :
    Nat) (b : List Byte) : Frame s (s.wayWrite g b) (hif := True) (way := True) (rcd := True) := by
  simp [State.wayWrite]

/-! ### Drayline -/

@[simp] theorem State.modNode_frame (n : Nat) (f : Node → Node) : Frame s (s.modNode n f) (dray := True) := by
  simp [State.modNode]
@[simp] theorem State.countRx_frame (h : DrayHdr) : Frame s (s.countRx h) (dray := True) := by simp [State.countRx]
@[simp] theorem State.dropStale_frame (h :
    DrayHdr) (reason : Nat) : Frame s (s.dropStale h reason) (dray := True) (rcd := True) := by
  simp [State.dropStale]
@[simp] theorem State.keepTrack_frame (h : DrayHdr) : Frame s (s.keepTrack h) (dray := True) := by
  simp [State.keepTrack]
@[simp] theorem State.joinRecord_frame (port node session event :
    Nat) : Frame s (s.joinRecord port node session event) (rcd := True) := by
  simp [State.joinRecord]
@[simp] theorem State.retireLead_frame : FrameEnds s s.retireLead (rails := True) (phases := True) := by
  simp [State.retireLead]
@[simp] theorem State.alignTo_frame (st : AlignState) : Frame s (s.alignTo st) (clk := True) (rcd := True) := by
  simp [State.alignTo]
@[simp] theorem State.alignLockRecord_frame : Frame s s.alignLockRecord (rcd := True) := by simp [State.alignLockRecord]
@[simp] theorem State.alignSample_frame (leader own : Int) :
    Frame s (s.alignSample leader own) (clk := True) (dray := True) (rcd := True) (freeCtr := True) := by
  generalize ht : s.alignSample leader own = t
  unfold State.alignSample at ht
  dsimp only at ht
  repeat' split at ht
  all_goals
    subst ht
    simp
@[simp] theorem State.beaconIn_frame (h : DrayHdr) (prevSfd : Nat) (joined : BitVec 8) (stamp : Nat) :
    FrameEnds s (s.beaconIn h prevSfd joined stamp) (clk := True) (rails := True) (phases := True) (dray := True) (rcd := True)
      (freeCtr := True) := by
  generalize ht : s.beaconIn h prevSfd joined stamp = t
  unfold State.beaconIn at ht
  dsimp only at ht
  repeat' split at ht
  all_goals
    subst ht
    simp
@[simp] theorem State.conflictIn_frame (h : DrayHdr) : Frame s (s.conflictIn h) (dray := True) (rcd := True) := by
  simp [State.conflictIn]
@[simp] theorem State.nodeAcks_frame (n : Nat) (p : DrayUp) : FrameEnds s (s.nodeAcks n p) (dray := True) := by
  generalize ht : s.nodeAcks n p = t
  unfold State.nodeAcks at ht
  extract_lets fits done s₁ s₂ acked fin _ s₃ at ht
  have hleft : FrameEnds s s₃ (dray := True) := by simp [s₃, s₂, s₁]
  have hended : FrameEnds s₃ t := by
    subst ht
    exact foldl_frameEnds (fun s q => by cases q <;> simp) _ _
  simp [hended, hleft]
@[simp] theorem State.upIn_frame (h : DrayHdr) (p : DrayUp) : FrameEnds s (s.upIn h p) (dray := True) (rcd := True) := by
  generalize ht : s.upIn h p = t
  unfold State.upIn at ht
  extract_lets n new was s₁ s₂ s₃ e _ s₄ s₅ at ht
  have hentry : Frame s₃ s₄ (dray := True) := by
    generalize hu : s₄ = u
    unfold s₄ at hu
    split at hu <;> subst hu <;> simp
  subst ht
  simp [s₅, hentry, s₃, s₂, s₁]
@[simp] theorem State.alarmRaise_frame (bits : Nat) : Frame s (s.alarmRaise bits) (dray := True) := by
  simp [State.alarmRaise]
@[simp] theorem State.putFrame_frame (f :
    DraySent) : Frame s (s.putFrame f) (dray := True) (maint := True) (freeCtr := True) := by
  simp [State.putFrame]
@[simp] theorem State.sendDown_frame (type dst :
    Nat) (payload : List Byte) : Frame s (s.sendDown type dst payload) (dray := True) (maint := True) (freeCtr := True)
      := by
  simp [State.sendDown]
@[simp] theorem State.sendUp_frame (type subject event :
    Nat) (summary : List Byte) (subjEpoch : Nat) : Frame s (s.sendUp type subject event summary subjEpoch) (dray :=
      True) (maint := True) (freeCtr := True) := by
  simp [State.sendUp]
@[simp] theorem State.sendItem_frame (q :
    DrayQ) : FrameEnds s (s.sendItem q) (dray := True) (maint := True) (freeCtr := True) := by
  cases q with
  | st stage slot t => cases slot <;> simp [State.sendItem]
  | fc => simp [State.sendItem]
@[simp] theorem State.burstDown_frame (sfd :
    Nat) : FrameEnds s (s.burstDown sfd) (dray := True) (maint := True) (freeCtr := True) := by
  unfold State.burstDown
  dsimp only
  split <;> simp
@[simp] theorem State.frameUp_frame : FrameEnds s s.frameUp (dray := True) (rcd := True) (maint := True) (freeCtr := True) := by
  generalize ht : s.frameUp = t
  unfold State.frameUp at ht
  dsimp only at ht
  repeat' split at ht
  all_goals
    subst ht
    simp
@[simp] theorem State.skipPort_frame (port : Nat) : Frame s (s.skipPort port) (dray := True) := by simp [State.skipPort]
@[simp] theorem State.drayEpoch_frame : Frame s s.drayEpoch (clk := True) (dray := True) (rcd := True) := by
  simp [State.drayEpoch]

/-! ### The frame's work -/

@[simp] theorem State.checkIpeak_frame (n : Nat) : Frame s (s.checkIpeak n) (rcd := True) (brake := True) := by
  simp [State.checkIpeak]
@[simp] theorem State.outputsStep_frame : Frame s s.outputsStep (seq := True) (rcd := True) := by
  simp [State.outputsStep]
@[simp] theorem State.ctlSteps_frame (sws : Bool) : (s.ctlSteps sws).clk = s.clk ∧ (s.ctlSteps sws).cfg = s.cfg ∧
    (s.ctlSteps sws).hif.rest = s.hif.rest ∧ (s.ctlSteps sws).way = s.way ∧ (s.ctlSteps sws).smp = s.smp ∧
    (s.ctlSteps sws).freeCtr = s.freeCtr := by simp [State.ctlSteps]
@[simp] theorem State.floorSteps_frame (sws :
    Bool) : (s.floorSteps sws).clk = s.clk ∧ (s.floorSteps sws).cfg = s.cfg ∧ (s.floorSteps sws).hif.rest = s.hif.rest
      ∧ (s.floorSteps sws).way = s.way ∧ (s.floorSteps sws).smp = s.smp ∧ (s.floorSteps sws).freeCtr = s.freeCtr := by
  simp [State.floorSteps]
@[simp] theorem State.clockFrame_frame : FrameEnds s s.clockFrame (clk := True) := by simp [State.clockFrame]
@[simp] theorem State.wallTake_frame : FrameEnds s s.wallTake (clk := True) (rcd := True) := by simp [State.wallTake]
@[simp] theorem State.intakeFrame_frame : Frame s s.intakeFrame (hif := True) := by simp [State.intakeFrame]
@[simp] theorem State.testFrame_frame : Frame s s.testFrame (maint := True) (freeCtr := True) := by
  simp [State.testFrame]
@[simp] theorem State.takeLive_frame : Frame s s.takeLive := by simp [State.takeLive]
@[simp] theorem State.houseSample_frame : Frame s s.houseSample (clk := True) (rcd := True) (brake := True) := by
  simp [State.houseSample]
@[simp] theorem State.epochAverages_frame : Frame s s.epochAverages (rails := True) (sws := True) := by
  simp [State.epochAverages]
@[simp] theorem State.railSummaries_frame (n : Nat) : Frame s (s.railSummaries n) (rails := True) (rcd := True) := by
  simp [State.railSummaries]
@[simp] theorem State.specSummary_frame : Frame s s.specSummary (rails := True) (rcd := True) := by
  simp [State.specSummary]
@[simp] theorem State.swSummary_frame (n : Nat) : Frame s (s.swSummary n) (sws := True) (rcd := True) := by
  simp [State.swSummary]
@[simp] theorem State.otherSummaries_frame :
    Frame s s.otherSummaries (clk := True) (seq := True) (path := True) (tdm := True) (hif := True) (rcd := True)
      (brake := True) := by
  simp [State.otherSummaries]
@[simp] theorem State.holdEpoch_frame : FrameEnds s s.holdEpoch (rails := True) (phases := True) (sws := True) (seq := True)
    (path := True) (rcd := True) := by
  generalize ht : s.holdEpoch = t
  unfold State.holdEpoch at ht
  dsimp only at ht
  repeat' split at ht
  all_goals
    subst ht
    simp

/-! ### Safe floor: what it does to the units -/

@[simp] theorem State.floorEnds_frame (n : Nat) : FrameEnds s (s.floorEnds n) (rails := True) (phases := True) := by
    cases h : (s.rail n).onSlot <;> cases k : (s.rail n).setSlot <;> simp [State.floorEnds, h, k]
@[simp] theorem State.floorRailAt_frame (n :
    Nat) : FrameEnds s (s.floorRailAt n) (rails := True) (phases := True) (rcd := True) := by
  simp [State.floorRailAt]
@[simp] theorem State.floorSwAt_frame (n : Nat) : FrameEnds s (s.floorSwAt n) (sws := True) := by simp [State.floorSwAt]
@[simp] theorem State.capStop_frame : Frame s s.capStop (rcd := True) (cap := True) := by simp [State.capStop]
@[simp] theorem State.floorSeq_frame :
    FrameEnds s s.floorSeq (rails := True) (sws := True) (seq := True) (rcd := True) := by
  simp [State.floorSeq]
@[simp] theorem State.floorPath_frame : FrameEnds s s.floorPath (path := True) (rcd := True) (maint := True) := by
  simp [State.floorPath]
@[simp] theorem State.floorLists_frame :
    Frame s s.floorLists (rails := True) (sws := True) (seq := True) (gauge := True) (tdm := True) (dray := True)
      (maint := True) := by
  simp [State.floorLists]
@[simp] theorem State.floorUnits_frame :
    FrameEnds s s.floorUnits (rails := True) (phases := True) (sws := True) (seq := True) (path := True) (rcd := True)
      (cap := True) (maint := True) := by
  simp [State.floorUnits]
@[simp] theorem State.floorWork_frame : FrameEnds s s.floorWork := by simp [State.floorWork]
@[simp] theorem State.floorLeave_frame :
    FrameEnds s s.floorLeave (rails := True) (path := True) (gauge := True) (rcd := True) (cap := True) (maint := True)
      := by
  simp [State.floorLeave]

/-! ### Tandem pair -/

@[simp] theorem State.tdmTo_frame (st :
    TState) (cause : Nat) : Frame s (s.tdmTo st cause) (tdm := True) (rcd := True) := by
  simp [State.tdmTo]
@[simp] theorem State.shadowEnd_frame : Frame s s.shadowEnd (sws := True) (tdm := True) := by simp [State.shadowEnd]
@[simp] theorem State.misRecord_frame (outcome : Nat) : Frame s (s.misRecord outcome) (rcd := True) := by
  simp [State.misRecord]
@[simp] theorem State.forgetSlots_frame :
    s.forgetSlots.cfg = s.cfg ∧ s.forgetSlots.phases = s.phases ∧ s.forgetSlots.hif.rest = s.hif.rest ∧
      s.forgetSlots.brake = s.brake ∧ s.forgetSlots.cap = s.cap ∧ s.forgetSlots.smp = s.smp ∧ s.forgetSlots.freeCtr =
      s.freeCtr := by
  simp [State.forgetSlots]
@[simp] theorem State.outputsOff_frame :
    FrameEnds s s.outputsOff (rails := True) (phases := True) (sws := True) (path := True) (rcd := True) := by
  simp [State.outputsOff]
@[simp] theorem State.standDown_frame :
    s.standDown.cfg = s.cfg ∧ s.standDown.hif.rest = s.hif.rest ∧ s.standDown.brake = s.brake ∧ s.standDown.cap = s.cap
      ∧ s.standDown.smp = s.smp ∧ s.standDown.freeCtr = s.freeCtr := by
  simp [State.standDown]
@[simp] theorem State.faulty_frame (cause :
    Nat) : (s.faulty cause).cfg = s.cfg ∧ (s.faulty cause).hif.rest = s.hif.rest ∧ (s.faulty cause).brake = s.brake ∧
      (s.faulty cause).cap = s.cap ∧ (s.faulty cause).smp = s.smp ∧ (s.faulty cause).freeCtr = s.freeCtr := by
  simp [State.faulty]
@[simp] theorem State.startJoin_frame : Frame s s.startJoin (sws := True) (tdm := True) (rcd := True) := by
  simp [State.startJoin]
@[simp] theorem State.yieldNow_frame :
    s.yieldNow.cfg = s.cfg ∧ s.yieldNow.hif.rest = s.hif.rest ∧ s.yieldNow.brake = s.brake ∧ s.yieldNow.cap = s.cap ∧
      s.yieldNow.smp = s.smp ∧ s.yieldNow.freeCtr = s.freeCtr := by
  simp [State.yieldNow]
@[simp] theorem State.blockFrame_frame :
    s.blockFrame.cfg = s.cfg ∧ s.blockFrame.hif.rest = s.hif.rest ∧ s.blockFrame.brake = s.brake ∧ s.blockFrame.cap =
      s.cap ∧ s.blockFrame.smp = s.smp := by
  simp [State.blockFrame]
@[simp] theorem State.stbyFrame_frame : FrameEnds s s.stbyFrame (rails := True) (phases := True) (sws := True) (seq := True)
    (tdm := True) (rcd := True) := by
  generalize ht : s.stbyFrame = t
  unfold State.stbyFrame at ht
  dsimp only at ht
  repeat' split at ht
  all_goals
    subst ht
    simp
@[simp] theorem State.install_frame (c :
    Carried) (mask : BitVec 16) : Frame s (s.install c mask) (rails := True) (phases := True) (seq := True) (path :=
      True) (hif := True) (cap := True) (maint := True) := by
  simp [State.install]
@[simp] theorem State.blockTags_frame (b : StateBlock) : FrameEnds s (s.blockTags b) := by simp [State.blockTags]
@[simp] theorem State.blockCqs_frame (b : StateBlock) : Frame s (s.blockCqs b) (hif := True) :=
  ⟨foldl_clk _ (fun _ _ => by simp) _ _, foldl_cfg _ (fun _ _ => by simp) _ _, foldl_rails _ (fun _ _ => by simp) _ _, foldl_phases _ (fun _ _ => by simp) _ _, foldl_sws _ (fun _ _ => by simp) _ _, foldl_seq _ (fun _ _ => by simp) _ _, foldl_path _ (fun _ _ => by simp) _ _, foldl_gauge _ (fun _ _ => by simp) _ _, foldl_tdm _ (fun _ _ => by simp) _ _, trivial, foldl_way _ (fun _ _ => by simp) _ _, foldl_dray _ (fun _ _ => by simp) _ _, foldl_rcd _ (fun _ _ => by simp) _ _, foldl_brake _ (fun _ _ => by simp) _ _, foldl_cap _ (fun _ _ => by simp) _ _, foldl_maint _ (fun _ _ => by simp) _ _, foldl_smp _ (fun _ _ => by simp) _ _, foldl_freeCtr _ (fun _ _ => by simp) _ _⟩
@[simp] theorem State.unequal_frame (b :
    StateBlock) (mask : BitVec 16) : (s.unequal b mask).cfg = s.cfg ∧ (s.unequal b mask).hif.rest = s.hif.rest ∧
      (s.unequal b mask).brake = s.brake ∧ (s.unequal b mask).cap = s.cap ∧ (s.unequal b mask).smp = s.smp ∧ (s.unequal b
      mask).freeCtr = s.freeCtr := by
  simp [State.unequal]
@[simp] theorem State.equal_frame : Frame s s.equal (tdm := True) (rcd := True) := by simp [State.equal]
@[simp] theorem State.compare_frame (b :
    StateBlock) : (s.compare b).cfg = s.cfg ∧ (s.compare b).hif.rest = s.hif.rest ∧ (s.compare b).brake = s.brake ∧
      (s.compare b).cap = s.cap ∧ (s.compare b).smp = s.smp := by
  simp [State.compare]
@[simp] theorem State.blockData_frame (b :
    StateBlock) : Frame s (s.blockData b) (rails := True) (phases := True) (seq := True) (path := True) (tdm := True)
      (hif := True) (cap := True) (maint := True) := by
  unfold State.blockData
  dsimp only
  split <;> simp
@[simp] theorem State.stbyFaults_frame (b : StatusBlock) : Frame s (s.stbyFaults b) (rcd := True) := by
    cases h : b.phaseFault <;> cases k : b.swTrip <;> simp [State.stbyFaults, h, k]
@[simp] theorem State.linkLoss_frame (cause lane :
    Nat) : (s.linkLoss cause lane).cfg = s.cfg ∧ (s.linkLoss cause lane).hif.rest = s.hif.rest ∧ (s.linkLoss cause
      lane).brake = s.brake ∧ (s.linkLoss cause lane).cap = s.cap ∧ (s.linkLoss cause lane).smp = s.smp ∧ (s.linkLoss
      cause lane).freeCtr = s.freeCtr := by
  unfold State.linkLoss
  dsimp only
  split <;> simp
@[simp] theorem State.takeRail_frame (n : Nat) : Frame s (s.takeRail n) (rails := True) (phases := True) := by
  simp [State.takeRail]
@[simp] theorem State.takeSw_frame (b : StateBlock) (n : Nat) : FrameEnds s (s.takeSw b n) (sws := True) := by
  simp [State.takeSw]
@[simp] theorem State.drillEnd_frame (outcome :
    Nat) : FrameEnds s (s.drillEnd outcome) (tdm := True) (rcd := True) (maint := True) := by
  simp [State.drillEnd]
@[simp] theorem State.drillTake_frame (yieldCause :
    Nat) : FrameEnds s (s.drillTake yieldCause) (tdm := True) (rcd := True) (maint := True) := by
  simp [State.drillTake]
@[simp] theorem State.joinRecordOut_frame (outcome : Nat) : Frame s (s.joinRecordOut outcome) (rcd := True) := by
  simp [State.joinRecordOut]
@[simp] theorem State.keptDoorbells_frame : Frame s s.keptDoorbells (hif := True) (rcd := True) := by
  simp [State.keptDoorbells]
@[simp] theorem State.tdmBegin_frame :
    s.tdmBegin.cfg = s.cfg ∧ s.tdmBegin.cap = s.cap ∧ s.tdmBegin.smp = s.smp ∧ s.tdmBegin.freeCtr = s.freeCtr := by
  simp [State.tdmBegin]
@[simp] theorem State.drillFrame_frame : Frame s s.drillFrame (tdm := True) := by simp [State.drillFrame]

/-! ### Safe floor and what leads to it -/

@[simp] theorem State.floorRest_frame :
    s.floorRest.clk = s.clk ∧ s.floorRest.cfg = s.cfg ∧ s.floorRest.hif.rest = s.hif.rest ∧ s.floorRest.way = s.way ∧
      s.floorRest.smp = s.smp ∧ s.floorRest.freeCtr = s.freeCtr := by
  simp [State.floorRest]
@[simp] theorem State.linkBack_frame : Frame s s.linkBack (hif := True) (rcd := True) (brake := True) := by
  simp [State.linkBack]
@[simp] theorem State.thirdOverrun_frame (e first :
    Nat) : Frame s (s.thirdOverrun e first) (clk := True) (tdm := True) (rcd := True) (brake := True) := by
  simp [State.thirdOverrun]
@[simp] theorem State.overrun_frame (e slice cycles : Nat) (dbl : Bool) :
    Frame s (s.overrun e slice cycles dbl) (clk := True) (tdm := True) (rcd := True) (brake := True) := by
  generalize ht : s.overrun e slice cycles dbl = t
  unfold State.overrun at ht
  dsimp only at ht
  repeat' split at ht
  all_goals
    subst ht
    simp

/-! ### Reference clock -/

@[simp] theorem State.xtalEpoch_frame : Frame s s.xtalEpoch (clk := True) (freeCtr := True) := by simp [State.xtalEpoch]

/-! ### Resets and supplies' loss -/

@[simp] theorem State.crossFlush_frame : Frame s s.crossFlush := by simp [State.crossFlush]

/-! ### Boot, readiness, locks, hibernate -/

@[simp] theorem State.bankReject_frame (b :
    Nat) (bytes : List Byte) : Frame s (s.bankReject b bytes) (rcd := True) := by
  simp [State.bankReject]
@[simp] theorem State.bankTries_frame : Frame s s.bankTries (rcd := True) := by simp [State.bankTries]
@[simp] theorem State.slotReject_frame (slot :
    Nat) (im : List Byte) : Frame s (s.slotReject slot im) (rcd := True) := by
    unfold State.slotReject; split <;> simp
@[simp] theorem State.tdmSettle_frame : Frame s s.tdmSettle (sws := True) (tdm := True) (rcd := True) := by
  simp [State.tdmSettle]
@[simp] theorem State.bringUp_frame (f : Nat) : FrameEnds s (s.bringUp f) (sws := True) (path := True) (gauge := True) (tdm := True)
    (rcd := True) (maint := True) := by
  generalize ht : s.bringUp f = t
  unfold State.bringUp at ht
  dsimp only at ht
  repeat' split at ht
  all_goals
    subst ht
    simp
@[simp] theorem State.hibernateOp_frame (k :
    Nat) : FrameEnds s (s.hibernateOp k) (rails := True) (phases := True) (sws := True) (seq := True) (rcd := True) :=
      by
    unfold State.hibernateOp; split <;> simp
@[simp] theorem State.wakeUp_frame (src ns :
    Nat) : Frame s (s.wakeUp src ns) (clk := True) (seq := True) (gauge := True) (rcd := True) := by
  simp [State.wakeUp]

/-! ### Register writes -/

@[simp] theorem State.putReg_frame (off w : Nat) : Frame s (s.putReg off w) (rcd := True) := by simp [State.putReg]
@[simp] theorem State.putRing_frame (off w : Nat) : Frame s (s.putRing off w) (rcd := True) := by simp [State.putRing]
@[simp] theorem State.putTest_frame (off w : Nat) : Frame s (s.putTest off w) (rcd := True) (maint := True) := by
  simp [State.putTest]
@[simp] theorem State.putMsix_frame (a : Nat) (w : Word) : Frame s (s.putMsix a w) (hif := True) := by
    unfold State.putMsix; split <;> simp
@[simp] theorem State.putAny_frame (off :
    Nat) (w : Word) : Frame s (s.putAny off w) (hif := True) (rcd := True) (maint := True) := by
  simp [State.putAny]

/-! ### Frame and epoch boundary -/

@[simp] theorem State.domains_frame : Frame s s.domains (brake := True) := by simp [State.domains]
@[simp] theorem State.liveTighten_frame (old :
    State) : FrameEnds s (s.liveTighten old) (rails := True) (phases := True) (sws := True) (rcd := True) (brake :=
      True) := by
  simp [State.liveTighten]
@[simp] theorem State.regsLive_frame :
    FrameEnds s s.regsLive (rails := True) (phases := True) (sws := True) (rcd := True) (brake := True) := by
  simp [State.regsLive]
@[simp] theorem State.frameSteps_frame : s.frameSteps.clk = s.clk ∧ s.frameSteps.cfg = s.cfg ∧
    s.frameSteps.hif.rest = s.hif.rest ∧ s.frameSteps.way = s.way ∧ s.frameSteps.smp = s.smp ∧
    s.frameSteps.freeCtr = s.freeCtr := by simp [State.frameSteps]
@[simp] theorem State.eightMissed_frame : Frame s s.eightMissed (tdm := True) (brake := True) := by
  simp [State.eightMissed]
@[simp] theorem State.drillEpoch_frame : Frame s s.drillEpoch (tdm := True) := by simp [State.drillEpoch]
@[simp] theorem State.digestEpoch_frame :
    s.digestEpoch.cfg = s.cfg ∧ s.digestEpoch.hif.rest = s.hif.rest ∧ s.digestEpoch.brake = s.brake ∧ s.digestEpoch.cap
      = s.cap ∧ s.digestEpoch.smp = s.smp ∧ s.digestEpoch.freeCtr = s.freeCtr := by
  simp [State.digestEpoch]
@[simp] theorem State.epochControl_frame :
    FrameEnds s s.epochControl (clk := True) (rails := True) (sws := True) (gauge := True) (rcd := True) (brake :=
      True) (cap := True) (maint := True) (freeCtr := True) := by
  simp [State.epochControl]
@[simp] theorem State.epochSummaries_frame :
    Frame s s.epochSummaries (clk := True) (rails := True) (sws := True) (seq := True) (path := True) (tdm := True)
      (hif := True) (rcd := True) (brake := True) := by
  simp [State.epochSummaries]
end

end Sys2Proof.Machine
end

section
/-! The SYNC line (spec/10): each row writes the sequencer's state alone, but for what it records. -/

namespace Sys2Proof.Machine

open Sys2Proof.Claims

/-- Whether a node takes part is read from the program, its step and the count alone. -/
theorem State.participant_congr {s t : State} (hlive : t.live = s.live) (hsys : t.sys = s.sys) (hcfg : t.cfg = s.cfg)
    (hrunning : t.seq.running = s.seq.running) (hprog : t.seq.prog = s.seq.prog) (hstep : t.seq.step = s.seq.step) :
    t.participant = s.participant := by
  simp [State.participant, State.cfgb, State.cfgf, State.cfgv, *]

theorem syncRelease_holds : syncRelease := fun s hdriving hready hpulse hburst =>
  ⟨_, rfl, by simp [hdriving, hready, hpulse, hburst]⟩
theorem syncRefresh_holds : syncRefresh := fun s hdriving hready => ⟨_, rfl, by simp [hdriving, hready]⟩
/-- R401: a participant in its gap takes the line again. -/
theorem holdSegmentEnd_holds : holdSegmentEnd := by
  intro s lowUs hlow
  refine ⟨_, if_pos hlow, ?_⟩
  cases hgap : s.seq.syncGap
  · simp [hgap]
  · simp only [State.syncClaim, if_true]
    rfl
/-- R404: SYNC_COUNT stops at 31. -/
theorem syncAdvance_holds : syncAdvance := by
  intro s hseen hfree
  refine ⟨_, if_pos (by simp [hseen, hfree]), ?_⟩
  by_cases hlast : s.seq.syncCount = 31
  · simpa [hlast] using State.participant_congr (by simp) (by simp) (by simp) (by simp) (by simp) (by simp)
  · simp [hlast]
    rfl
theorem syncHome_holds : syncHome := fun s lowUs hlow hhigh => ⟨_, if_pos ⟨hlow, hhigh⟩, by simp [State.eq_iff]⟩
theorem syncInvalid_holds : syncInvalid := fun s lowUs hrange => ⟨_, if_pos hrange, by simp [State.eq_iff]⟩
theorem homePulseEnd_holds : homePulseEnd := fun s hpulse =>
  ⟨_, if_pos hpulse, by simp [State.syncClaim]⟩

/-- Settles O24, one row each. -/
theorem syncLine : Obligations.SyncLine :=
  ⟨syncRelease_holds, syncRefresh_holds, holdSegmentEnd_holds, syncAdvance_holds, syncHome_holds, syncInvalid_holds,
    homePulseEnd_holds⟩

end Sys2Proof.Machine
end

section
/-! Overruns, memory errors and the reference clock (spec/01, spec/02, spec/19). -/

namespace Sys2Proof.Machine

open Sys2Proof.Claims

/-! ### Bits -/

@[simp] theorem getLsbD_setBit {w : Nat} (b : BitVec w) (i j : Nat) :
    (setBit b i).getLsbD j = (b.getLsbD j || decide (j = i ∧ i < w)) := by
  simp only [setBit, BitVec.getLsbD_or, BitVec.getLsbD_ofNat, Nat.testBit_two_pow]
  grind
@[simp] theorem getLsbD_clearBit {w : Nat} (b : BitVec w) (i j : Nat) :
    (clearBit b i).getLsbD j = (b.getLsbD j && decide (j ≠ i)) := by
  simp only [clearBit, BitVec.getLsbD_and, BitVec.getLsbD_not, BitVec.getLsbD_ofNat, Nat.testBit_two_pow]
  by_cases hj : j < w
  · grind
  · simp [BitVec.getLsbD_of_ge _ _ (Nat.le_of_not_lt hj)]
theorem clearBit_of_clear {w : Nat} {b : BitVec w} {i : Nat} (h : b.getLsbD i = false) : clearBit b i = b := by
  refine BitVec.eq_of_getLsbD_eq fun j _ => ?_
  by_cases hji : j = i
  · simp [hji, h]
  · simp [hji]

/-! ### Overruns -/

/-- The history's entries of the engine, with the one of this frame. -/
theorem overrunHist_filter (h : List (Nat × Nat)) (tick e : Nat) :
    (h ++ [(tick, e)]).filter (·.2 = e) = h.filter (·.2 = e) ++ [(tick, e)] := by simp

/-- R60: the third overrun of an engine. -/
theorem State.thirdOverrun_spec (s : State) (e first : Nat) (he : e < 16) :
    let t := s.thirdOverrun e first
    (s.brake.inFloor = true → t.clk.halted.getLsbD e = true ∧ t.tdm = s.tdm ∧ t.brake = s.brake) ∧
    (s.brake.inFloor = false → t.clk = s.clk) ∧ t.brake.engRun = s.brake.engRun ∧
    t.clk.overran = s.clk.overran ∧ t.clk.ovrTotal = s.clk.ovrTotal ∧
    (s.clk.overranCtl.getLsbD e = true → t.clk.overranCtl.getLsbD e = true) ∧
    (s.brake.inFloor = false → s.canYield = true → t.tdm = { s.tdm with yieldReq := 1 }) ∧
    (s.brake.inFloor = false → s.canYield = false → s.isStandby = true → t.tdm = { s.tdm with selfCheck := true }) ∧
    (s.brake.inFloor = false → s.canYield = false → s.isStandby = false →
      t.brake.standing = setBit s.brake.standing 2 ∧ t.brake.floorPend = true) ∧
    t = { s with clk := t.clk, tdm := t.tdm, rcd := t.rcd, brake := t.brake } := by
  have hyield (u : State) (h : u.tdm = s.tdm) : u.canYield = s.canYield := by simp [State.canYield, h]
  have hstandby (u : State) (h : u.tdm = s.tdm) : u.isStandby = s.isStandby := by simp [State.isStandby, h]
  unfold State.thirdOverrun State.floorCause
  cases hfloor : s.brake.inFloor
  · cases hy : s.canYield <;> cases hs : s.isStandby <;> cases hp : s.brake.floorPend <;>
      simp [hyield, hstandby, hy, hs, hp, hfloor, State.eq_iff]
  · simp [hfloor, State.eq_iff, he]

/-- The state with the overrun counted, before it is known whether it is the third. -/
def State.overrunCounted (s : State) (e slice cycles : Nat) (dbl : Bool) : State :=
  let s := s.emit 0x0101 0x10 [e, slice + (if dbl then 256 else 0), cycles, s.frame]
  { s with
    clk.overran := setBit s.clk.overran e
    clk.overranCtl := if slice < 4 then setBit s.clk.overranCtl e else s.clk.overranCtl
    clk.overranEpoch := setBit s.clk.overranEpoch e
    clk.ovrTotal := satInc 32 s.clk.ovrTotal
    clk.ovrHist := (s.clk.ovrHist.filter fun p => decide (s.clk.tick < p.1 + 100)) ++ [(s.clk.tick, e)]
    brake.engRun := if slice < 4 then clearBit s.brake.engRun e else s.brake.engRun }

/-- The overruns of the engine within 100 frames before this one. -/
def State.recentOverruns (s : State) (e : Nat) : List (Nat × Nat) :=
  (s.clk.ovrHist.filter fun p => decide (s.clk.tick < p.1 + 100)).filter (·.2 = e)

section
variable {s : State} {e : Nat} (slice cycles : Nat) (dbl : Bool)

theorem State.overrunCounted_hist :
    (s.overrunCounted e slice cycles dbl).clk.ovrHist.filter (·.2 = e) = s.recentOverruns e ++ [(s.clk.tick, e)] := by
  simp only [State.overrunCounted, overrunHist_filter, State.recentOverruns, State.emit_frame]

/-- R60: with two overruns in the 100 frames before, this is the third. -/
theorem State.overrun_eq (hrunning : s.running = true) (he : e < 16) (hover : s.clk.overran.getLsbD e = false)
    (hhalted : s.clk.halted.getLsbD e = false) :
    ((s.recentOverruns e).length < 2 → s.overrun e slice cycles dbl = s.overrunCounted e slice cycles dbl) ∧
    (2 ≤ (s.recentOverruns e).length →
      ∃ first, s.overrun e slice cycles dbl = (s.overrunCounted e slice cycles dbl).thirdOverrun e first) := by
  have hcond : (s.running && decide (e < 16) && !s.clk.overran.getLsbD e && !s.clk.halted.getLsbD e) = true := by
    simp only [hrunning, he, hover, hhalted]; rfl
  have hhist := State.overrunCounted_hist (s := s) (e := e) slice cycles dbl
  rw [State.overrun, if_pos hcond]
  dsimp only
  split
  next t _ _ _ _ hthird =>
    have hlength := congrArg List.length (hhist.symm.trans hthird)
    simp only [List.length_append, List.length_cons, List.length_nil] at hlength
    exact ⟨fun h => by omega, fun _ => ⟨_, rfl⟩⟩
  next hfew =>
    refine ⟨fun _ => rfl, fun h => ?_⟩
    obtain ⟨a, b, rest, hrecent⟩ : ∃ a b rest, s.recentOverruns e = a :: b :: rest := by
      rcases hr : s.recentOverruns e with _ | ⟨a, _ | ⟨b, rest⟩⟩ <;> simp_all
    obtain ⟨last, l, hl⟩ : ∃ last l, rest ++ [(s.clk.tick, e)] = last :: l := by cases rest <;> simp
    exact absurd (hhist.trans (by rw [hrecent, List.cons_append, List.cons_append, hl])) (hfew _ _ _ _ _)

theorem State.overrunCounted_spec (he : e < 16) :
    let t := s.overrunCounted e slice cycles dbl
    t.clk.overran.getLsbD e = true ∧ t.clk.ovrTotal = satInc 32 s.clk.ovrTotal ∧ t.clk.halted = s.clk.halted ∧
    t.tdm = s.tdm ∧ t.brake = { s.brake with engRun := t.brake.engRun } ∧
    (slice < 4 → t.clk.overranCtl.getLsbD e = true ∧ t.brake.engRun.getLsbD e = false) ∧
    (¬slice < 4 → t.brake.engRun = s.brake.engRun) ∧
    t = { s with clk := t.clk, tdm := t.tdm, rcd := t.rcd, brake := t.brake } := by
  refine ⟨?_, ?_, ?_, ?_, ?_, ?_, ?_, ?_⟩
  · simp [State.overrunCounted, he]
  · simp [State.overrunCounted]
  · simp [State.overrunCounted]
  · simp [State.overrunCounted]
  · simp [State.overrunCounted]
  · intro hs
    simp only [State.overrunCounted, hs, if_true, getLsbD_setBit, getLsbD_clearBit]
    simp [he]
  · intro hs
    simp [State.overrunCounted, hs]
  · simp [State.overrunCounted, State.eq_iff]

theorem State.overrun_spec (hrunning : s.running = true) (he : e < 16) (hover : s.clk.overran.getLsbD e = false)
    (hhalted : s.clk.halted.getLsbD e = false) :
    let t := s.overrun e slice cycles dbl
    Overran s t e ∧ (slice < 4 → t.clk.overranCtl.getLsbD e = true ∧ t.brake.engRun.getLsbD e = false) ∧
    (¬slice < 4 → t.brake.engRun = s.brake.engRun) := by
  obtain ⟨hfew, hmany⟩ := State.overrun_eq slice cycles dbl hrunning he hover hhalted
  obtain ⟨hu₁, hu₂, hu₃, htdm, hbrake, hctl, hbg, hframe⟩ := State.overrunCounted_spec (s := s) slice cycles dbl he
  by_cases hn : 2 ≤ (s.recentOverruns e).length
  · obtain ⟨first, hthird⟩ := hmany hn
    rw [hthird]
    generalize s.overrunCounted e slice cycles dbl = u at *
    obtain ⟨hhalt, hclk, heng, hover', htotal, hctl', hyield, hstandby, hfloor, hframe'⟩ :=
      State.thirdOverrun_spec u e first he
    have hin : u.brake.inFloor = s.brake.inFloor := by rw [hbrake]
    have hstand : u.brake.standing = s.brake.standing := by rw [hbrake]
    have hcy : u.canYield = s.canYield := by simp [State.canYield, htdm]
    have hsb : u.isStandby = s.isStandby := by simp [State.isStandby, htdm]
    simp only [hin, hcy, hsb, hstand, htdm] at hhalt hyield hstandby hfloor
    refine ⟨⟨hover' ▸ hu₁, htotal.trans hu₂, fun h => absurd hn (Nat.not_le.2 h), fun _ h => ⟨(hhalt h).1, (hhalt h).2.1⟩,
      fun _ => hyield, fun _ => hstandby, fun _ => hfloor, ?_⟩, fun hs => ⟨hctl' (hctl hs).1, heng ▸ (hctl hs).2⟩,
      fun hs => heng.trans (hbg hs)⟩
    rw [hframe', hframe]
  · rw [hfew (by omega)]
    exact ⟨⟨hu₁, hu₂, fun _ => ⟨htdm, hbrake, hu₃⟩, fun h => absurd h hn, fun h => absurd h hn,
      fun h => absurd h hn, fun h => absurd h hn, hframe⟩, hctl, hbg⟩
end

theorem frameOverrun_holds : frameOverrun := by
  intro s e slice cycles hlo hhi hrunning he hover hhalted
  obtain ⟨hoverran, hctl, -⟩ := State.overrun_spec slice cycles false hrunning he hover hhalted
  exact ⟨_, congrArg Host.Outcome.next (if_pos ⟨hlo, hhi⟩), hoverran, hctl (by omega)⟩
theorem backgroundOverrun_holds : backgroundOverrun := by
  intro s e cycles hrunning he hover hhalted
  obtain ⟨hoverran, -, hbg⟩ := State.overrun_spec 4 cycles false hrunning he hover hhalted
  exact ⟨_, rfl, hoverran, hbg (by omega)⟩

/-! ### Memory errors -/

theorem singleBitError_holds : singleBitError := fun s hrunning => ⟨_, if_pos hrunning, by simp [State.eq_iff]⟩
theorem floorCause_spec (s : State) (bit : Nat) :
    (s.floorCause bit).brake.standing = setBit s.brake.standing bit ∧
    (s.brake.inFloor = false → (s.floorCause bit).brake.floorPend = true) ∧
    s.floorCause bit = { s with brake := (s.floorCause bit).brake } := by
  unfold State.floorCause
  cases hin : s.brake.inFloor
  · cases hpend : s.brake.floorPend <;> simp [hin, hpend]
  · simp
theorem doubleBitError_holds : doubleBitError := by
  refine ⟨fun s e slice cycles hlo hhi hrunning he hover hhalted => ?_, fun s i hrunning => ?_, fun s hrunning => ?_⟩
  · exact ⟨_, (if_pos hrunning).trans (congrArg _ (if_pos ⟨hlo, hhi⟩)),
      (State.overrun_spec slice cycles true hrunning he hover hhalted).1⟩
  · refine ⟨_, if_pos hrunning, fun x hx => ?_, fun j hj => ?_, ?_⟩
    · simp [List.getElem?_modify, hx]
    · simp [List.getElem?_modify, hj.symm]
    · simp
  · refine ⟨_, if_pos hrunning, ?_, ?_, ?_⟩
    · intro hy hin
      simp [hy, hin]
    · intro hy hstandby
      simp [hy, hstandby]
    · intro hy hstandby
      obtain ⟨hstand, -, hframe⟩ := floorCause_spec s 5
      have hno : (s.canYield && !s.brake.inFloor) = false := by rcases hy with hy | hy <;> simp [hy]
      simp only [hno, hstandby, if_false, Bool.false_eq_true]
      exact ⟨hstand, hframe⟩
theorem clearCause_spec (s : State) (bit : Nat) :
    (s.clearCause bit).brake = { s.brake with standing := clearBit s.brake.standing bit } ∧
    s.clearCause bit = { s with brake := (s.clearCause bit).brake, rcd := (s.clearCause bit).rcd } := by
  unfold State.clearCause
  cases hbit : s.brake.standing.getLsbD bit
  · simp [clearBit_of_clear hbit]
  · simp [State.eq_iff]
theorem scrubComplete_holds : scrubComplete := by
  intro s ok hrunning
  obtain ⟨hbrake, hframe⟩ := clearCause_spec s 5
  refine ⟨_, rfl, ?_⟩
  cases ok
  · simp
  · simpa [hrunning, hbrake] using hframe

/-! ### The reference clock and stalled accesses -/

theorem xtalFail_holds : xtalFail := fun s relockNs hrunning href =>
  ⟨_, if_pos (by simp [hrunning, href]), by simp [State.eq_iff]⟩
theorem xtalRestored_holds : xtalRestored := fun s hrunning href hgood =>
  ⟨_, if_pos (by simp [hrunning, href, hgood]), by simp [State.eq_iff]⟩
theorem domainStall_holds : domainStall := fun s dom ns off hrunning hns =>
  ⟨_, if_pos (by simp [hrunning, hns]), by simp [State.eq_iff]⟩

/-- Settles O53, one row each. -/
theorem overrunsAndMemoryErrors : Obligations.OverrunsAndMemoryErrors :=
  ⟨frameOverrun_holds, backgroundOverrun_holds, singleBitError_holds, doubleBitError_holds, scrubComplete_holds,
    xtalFail_holds, xtalRestored_holds, domainStall_holds⟩

end Sys2Proof.Machine
end

section
/-! The frame trace (spec/18) from its trigger to a slot. -/

namespace Sys2Proof.Machine

open Sys2Proof.Claims

/-! ### A served descriptor -/

/-- A served descriptor that names no host memory runs its operation on the state as it stands. -/
theorem applyDesc_plain {s : State} {k op : Nat} {fn : RawDesc → Option Nat} (f : RawDesc → State → State)
    (h : Served s k op (fn (s.tag k).desc)) (hspan : hostSpan op (s.tag k).desc = none) :
    .next (s.applyDesc op k fn f) = (.next (f (s.tag k).desc s) : Host.Outcome State Fault Refusal) := by
  rw [applyDesc_served s k op fn f h fun a n w hsome => by simp [hspan] at hsome]

/-- A served descriptor that names host memory within an open window runs its operation on the state as it stands. -/
theorem applyDesc_window {s : State} {k op a n : Nat} {w : Bool} {fn : RawDesc → Option Nat} (f : RawDesc → State → State)
    (h : Served s k op (fn (s.tag k).desc)) (hspan : hostSpan op (s.tag k).desc = some (a, n, w))
    (hwin : s.inWindow w a n = true) :
    .next (s.applyDesc op k fn f) = (.next (f (s.tag k).desc s) : Host.Outcome State Fault Refusal) := by
  rw [applyDesc_served s k op fn f h fun a' n' w' hsome => ?_]
  cases hspan.symm.trans hsome
  exact hwin

/-- A refusal reached through a state with the same host interface. -/
theorem reject_ends' {s t : State} {k op : Nat} {fn : Option Nat} (h : Served s k op fn) (hhif : t.hif = s.hif)
    (st r : Nat) : Ends (t.reject k st r) k st r := Ends.emit (served_ends' h hhif st r) _ _ _
theorem complete_posted (s : State) (k st r : Nat) : (s.complete k st r).hif.posted = s.hif.posted := by
  change (s.complete k st r).hif.rest.posted = s.hif.rest.posted
  rw [State.complete_rest]

theorem hold_tag {s : State} {k : Nat} (hk : k < s.hif.tags.length) : (s.hold k).tag k = { s.tag k with st := .applied } := by
  simp [State.hold, tag_modTag, hk]
theorem hold_tagsBut (s : State) (k : Nat) : TagsBut [k] s (s.hold k) := by
  intro j _ hj
  simp_all [State.hold, tag_modTag]

/-! ### Records leave the trace alone -/

/-- The trace, and the counts of trips, are as they were. -/
@[simp] abbrev SameTrace (a b : Rec) : Prop :=
  b.trSt = a.trSt ∧ b.trSlot = a.trSlot ∧ b.trNewest = a.trNewest ∧ b.trProg = a.trProg ∧ b.trBuf = a.trBuf ∧
  b.trTrig = a.trTrig ∧ b.trSlots = a.trSlots ∧ b.trErased = a.trErased ∧ b.trChans = a.trChans ∧
  b.crowbars = a.crowbars ∧ b.shorts = a.shorts

section
variable (s : State)
@[simp] theorem State.admitRec_trace (r : Record) : SameTrace s.rcd (s.admitRec r).rcd := by
  unfold State.admitRec
  split
  · simp
  · split <;> simp
@[simp] theorem State.passBuckets_trace (r : Record) : SameTrace s.rcd (s.passBuckets r).rcd := by
  unfold State.passBuckets State.passGlobal State.suppress State.setBucket
  dsimp only
  repeat' split
  all_goals simp
@[simp] theorem State.produce_trace (r : Record) : SameTrace s.rcd (s.produce r).rcd := by
  unfold State.produce
  repeat' split
  all_goals simp
end

/-! ### REC_TRIGGER and REC_TRACE_READ -/

/-- R715: a trigger's first, with no other under way. -/
theorem State.traceTrigger_trTrig {s : State} (kind code : Nat) (slots : List Nat) (hfree : s.rcd.trTrig = none)
    (hon : s.rcd.trSt ≠ .off) : (s.traceTrigger kind code slots).rcd.trTrig = some {
      kind, code, tick := s.clk.tick, frame := s.clk.count, time := s.clk.strobe, seq := s.rcd.next, slots } := by
  simp [State.traceTrigger, hfree, hon]
theorem keepRun_tag (s : State) (op rid target k j : Nat) : (s.keepRun op rid target k).tag j = s.tag j := rfl
/-- A trigger accepted: it is under way, and its descriptor in progress. -/
theorem State.recTriggerOp_accept {s : State} {k : Nat} {d : RawDesc} (hk : k < s.hif.tags.length)
    (hnew : s.repeatOf 0x0902 (descField d 26 2) 0 = none) (hfree : s.rcd.trTrig = none) (hon : s.rcd.trSt ≠ .off) :
    s.recTriggerOp k d = ((s.traceTrigger 0 (descField d 24 2) [k]).hold k).keepRun 0x0902 (descField d 26 2) 0 k := by
  simp [State.recTriggerOp, hnew, hfree, hon]
theorem recTrigger_holds : recTrigger := by
  intro s k hserved code rid
  obtain ⟨hk, hheld, hkept⟩ := Served.tag hserved
  refine ⟨_, applyDesc_plain _ hserved rfl, fun hnew hfree hon => ?_, fun hnew hbusy => ?_, fun hnew hfree hoff => ?_,
    fun r hrepeat hdone => ?_, by simp [State.eq_iff]⟩
  · have htag (j : Nat) : (s.traceTrigger 0 code [k]).tag j = s.tag j := tag_of (by simp) j
    rw [State.recTriggerOp_accept hk hnew hfree hon]
    refine ⟨?_, ?_, fun j hj hjk => ?_⟩
    · simpa [State.keepRun] using State.traceTrigger_trTrig 0 code [k] hfree hon
    · rw [keepRun_tag, hold_tag (by simpa using hk), htag]
    · rw [keepRun_tag, hold_tagsBut _ k j (by simpa using hj) hjk, htag]
  · have hop : s.recTriggerOp k (s.tag k).desc = (s.traceTrigger 0 code []).reject k stBADPARAM 2 := by
      simp only [State.recTriggerOp, rid, code] at hnew ⊢
      simp [hnew, hbusy]
    rw [hop]
    exact ⟨reject_ends' hserved (by simp) _ _, onlyEnds_iff.2 (by simp)⟩
  · have hop : s.recTriggerOp k (s.tag k).desc = s.reject k stBADPARAM 3 := by
      simp only [State.recTriggerOp, rid] at hnew ⊢
      simp [hnew, hfree, hoff]
    rw [hop]
    exact ⟨reject_ends hserved _ _, reject_only _ _ _ _⟩
  · have hop : s.recTriggerOp k (s.tag k).desc = s.complete k r.status r.result.toNat := by
      simp only [State.recTriggerOp, rid] at hrepeat ⊢
      simp [hrepeat, State.completeRepeat, hdone]
    rw [hop]
    exact ⟨served_ends hserved _ _, complete_only _ _ _ _⟩

theorem recTraceRead_holds : recTraceRead := by
  intro s k x hserved d off len hwin hslot hoff hlen hend
  refine ⟨(s.postMem (descField d 32 8) (trSlotRead x off len)).complete k stDONE len,
    (applyDesc_window _ hserved rfl hwin).trans ?_, ?_, ?_, ?_, ?_⟩
  · have hgood : ¬(off % 4096 ≠ 0 ∨ len % 4096 ≠ 0 ∨ 1572864 < off + len) := by omega
    simp only [d, off, len] at hslot hgood ⊢
    simp only [hslot, if_neg hgood]
  · rw [complete_posted]
    rfl
  · exact complete_ends _ k stDONE len hserved.1 (.inl hserved.2.1) hserved.2.2.1
  · rw [complete_posted]
    exact complete_only _ _ _ _
  · rw [State.eq_iff]
    simp [State.postMem]

/-! ### The trace's write -/

theorem traceFreeze_holds : traceFreeze := by
  intro s g htrig hrunning hdue
  simp [traceFreeze, Goes, exec, execTraceFreeze, htrig, hrunning, hdue]
theorem traceWritten_holds : traceWritten := by
  intro s g ok ms htrig hwriting hslot
  simp only [Goes, exec, execTraceWritten, htrig, hwriting, if_true]
  refine ⟨_, rfl, ?_, ?_, ?_, ?_, ?_, fun k hk hlt hst hdis hone => ?_, ?_, ?_⟩
  · simp [State.traceResume, State.occur, mkRecord]
  · simp [State.traceResume, State.occur, mkRecord]
  · simp [State.traceResume]
  · simp [State.traceResume]
  · simp [State.traceResume, State.cfgb, State.cfgf, State.cfgv]
  · rw [hone]
    refine completeAll_one ?_ ?_ ?_
    · simpa [State.traceResume] using hlt
    · exact .inr (by simpa [State.traceResume, State.tag] using hst)
    · simpa [State.traceResume, State.tag] using hdis
  · exact completeAll_only' (by simp [State.traceResume]) _ _ _
  · rw [State.eq_iff]
    simp [State.traceResume]
theorem eraseAheadComplete_holds : eraseAheadComplete := fun s => ⟨_, rfl, by simp, by simp⟩

/-- Settles O40, one row each. -/
theorem frameTrace : Obligations.FrameTrace :=
  ⟨recTrigger_holds, recTraceRead_holds, traceFreeze_holds, traceWritten_holds, eraseAheadComplete_holds⟩

end Sys2Proof.Machine
end

section
/-! What a unit reads as after the operations that do not write its table. -/

namespace Sys2Proof.Machine

open Sys2Proof.Claims

section
variable (s : State)

@[simp] theorem rail_emit (code src : Nat) (ps : List Nat) (n : Nat) : (s.emit code src ps).rail n = s.rail n := rail_of (by simp) n
@[simp] theorem rail_emitHw (t code src : Nat) (ps : List Nat) (n : Nat) : (s.emitHw t code src ps).rail n = s.rail n := rail_of (by simp) n
@[simp] theorem rail_complete (k st r : Nat) (n : Nat) : (s.complete k st r).rail n = s.rail n := rail_of (by simp) n
@[simp] theorem rail_completeAll (ks : List Nat) (st r : Nat) (n : Nat) : (s.completeAll ks st r).rail n = s.rail n := rail_of (by simp) n
@[simp] theorem rail_reject (k st r : Nat) (n : Nat) : (s.reject k st r).rail n = s.rail n := rail_of (by simp) n
@[simp] theorem rail_hold (k : Nat) (n : Nat) : (s.hold k).rail n = s.rail n := rail_of (by simp) n
@[simp] theorem rail_modPhase (m : Nat) (f : Phase → Phase) (n : Nat) : (s.modPhase m f).rail n = s.rail n := rail_of (by simp) n
@[simp] theorem rail_modSw (m : Nat) (f : Switch → Switch) (n : Nat) : (s.modSw m f).rail n = s.rail n := rail_of (by simp) n
@[simp] theorem phase_emit (code src : Nat) (ps : List Nat) (n : Nat) : (s.emit code src ps).phase n = s.phase n := phase_of (by simp) n
@[simp] theorem phase_emitHw (t code src : Nat) (ps : List Nat) (n : Nat) : (s.emitHw t code src ps).phase n = s.phase n := phase_of (by simp) n
@[simp] theorem phase_complete (k st r : Nat) (n : Nat) : (s.complete k st r).phase n = s.phase n := phase_of (by simp) n
@[simp] theorem phase_completeAll (ks : List Nat) (st r : Nat) (n : Nat) : (s.completeAll ks st r).phase n = s.phase n := phase_of (by simp) n
@[simp] theorem phase_reject (k st r : Nat) (n : Nat) : (s.reject k st r).phase n = s.phase n := phase_of (by simp) n
@[simp] theorem phase_hold (k : Nat) (n : Nat) : (s.hold k).phase n = s.phase n := phase_of (by simp) n
@[simp] theorem phase_modRail (m : Nat) (f : Rail → Rail) (n : Nat) : (s.modRail m f).phase n = s.phase n := phase_of (by simp) n
@[simp] theorem phase_modSw (m : Nat) (f : Switch → Switch) (n : Nat) : (s.modSw m f).phase n = s.phase n := phase_of (by simp) n
@[simp] theorem sw_emit (code src : Nat) (ps : List Nat) (n : Nat) : (s.emit code src ps).sw n = s.sw n := sw_of (by simp) n
@[simp] theorem sw_emitHw (t code src : Nat) (ps : List Nat) (n : Nat) : (s.emitHw t code src ps).sw n = s.sw n := sw_of (by simp) n
@[simp] theorem sw_complete (k st r : Nat) (n : Nat) : (s.complete k st r).sw n = s.sw n := sw_of (by simp) n
@[simp] theorem sw_completeAll (ks : List Nat) (st r : Nat) (n : Nat) : (s.completeAll ks st r).sw n = s.sw n := sw_of (by simp) n
@[simp] theorem sw_reject (k st r : Nat) (n : Nat) : (s.reject k st r).sw n = s.sw n := sw_of (by simp) n
@[simp] theorem sw_hold (k : Nat) (n : Nat) : (s.hold k).sw n = s.sw n := sw_of (by simp) n
@[simp] theorem sw_modRail (m : Nat) (f : Rail → Rail) (n : Nat) : (s.modRail m f).sw n = s.sw n := sw_of (by simp) n
@[simp] theorem sw_modPhase (m : Nat) (f : Phase → Phase) (n : Nat) : (s.modPhase m f).sw n = s.sw n := sw_of (by simp) n
@[simp] theorem tag_emit (code src : Nat) (ps : List Nat) (n : Nat) : (s.emit code src ps).tag n = s.tag n := tag_of (by simp) n
@[simp] theorem tag_emitHw (t code src : Nat) (ps : List Nat) (n : Nat) : (s.emitHw t code src ps).tag n = s.tag n := tag_of (by simp) n
@[simp] theorem tag_modRail (m : Nat) (f : Rail → Rail) (n : Nat) : (s.modRail m f).tag n = s.tag n := tag_of (by simp) n
@[simp] theorem tag_modPhase (m : Nat) (f : Phase → Phase) (n : Nat) : (s.modPhase m f).tag n = s.tag n := tag_of (by simp) n
@[simp] theorem tag_modSw (m : Nat) (f : Switch → Switch) (n : Nat) : (s.modSw m f).tag n = s.tag n := tag_of (by simp) n

/-! ### All units but those named -/

theorem SwsBut.of_sws {s t : State} (h : t.sws = s.sws) (l : List Nat) : SwsBut l s t := fun j _ _ => sw_of h j
theorem SwsBut.modSw (n : Nat) (f : Switch → Switch) : SwsBut [n] s (s.modSw n f) := fun j _ hj => by
  simp_all
theorem SwsBut.trans {a b c : State} {l : List Nat} (hab : SwsBut l a b) (hbc : SwsBut l b c)
    (hlen : b.sws.length = a.sws.length) : SwsBut l a c := fun j hj hjl =>
  (hbc j (hlen ▸ hj) hjl).trans (hab j hj hjl)
end

end Sys2Proof.Machine
end

section
/-! The slot a row serves, while the row's other effects decide completions of other uses. -/

namespace Sys2Proof.Machine

open Sys2Proof.Claims

theorem completeOne_tag (s : State) (j k st r : Nat) : (s.completeOne j st r).tag k =
    if k = j ∧ k < s.hif.tags.length ∧ ((s.tag k).st = .held ∨ (s.tag k).st = .applied) then
      if (s.tag k).discard then { s.tag k with st := .free, discard := false } else { s.tag k with st := .decided }
    else s.tag k := by
  have hlog (decLog : List (Nat × Nat)) (decided : List Cpl) (discarded : Nat) (i : Nat) :
      ({ s with hif := { s.hif with decLog, decided, discarded } } : State).tag i = s.tag i := rfl
  unfold State.completeOne
  dsimp only
  split
  next hst =>
    split
    next hdiscard =>
      rw [tag_modTag]
      by_cases hkj : k = j
      · subst hkj
        by_cases hk : k < s.hif.tags.length <;> simp [hk, hst, hdiscard, hlog]
      · simp [hkj, hlog]
    next hkept =>
      rw [tag_modTag]
      by_cases hkj : k = j
      · subst hkj
        by_cases hk : k < s.hif.tags.length <;> simp [hk, hst, hkept, hlog]
      · simp [hkj, hlog]
  next hst =>
    by_cases hkj : k = j
    · subst hkj
      simp [hst]
    · simp [hkj]

/-- Each completion decided in `complete` is one of `completeOne`. -/
theorem complete_inv {P : State → Prop} (hone : ∀ s j st r, P s → P (s.completeOne j st r))
    (hhif : ∀ s t, t.hif.tags = s.hif.tags → t.hif.decided = s.hif.decided → P s → P t) {s : State} (h : P s) (k st r : Nat) :
    P (s.complete k st r) := by
  unfold State.complete
  extract_lets s₁ _ s₂ reps s₃
  have h₂ : P s₂ := hhif s₁ s₂ rfl rfl (hone s k st r h)
  have h₃ : P s₃ := each_inv (fun s j => s.completeOne j st r) P (fun s j => hone s j st r) reps s₂ h₂
  exact hhif s₃ _ rfl rfl h₃

/-- The slot is in use and not to be discarded: its use has ended, or a completion of it would end it. -/
def InUse (s : State) (k : Nat) : Prop :=
  k < s.hif.tags.length ∧ ((s.tag k).st = .decided ∨
    ((s.tag k).st = .held ∨ (s.tag k).st = .applied) ∧ (s.tag k).discard = false)

theorem InUse.congr {s t : State} {k : Nat} (h : InUse s k) (htags : t.hif.tags = s.hif.tags) : InUse t k := by
  simp only [InUse, State.tag, htags] at *
  exact h
theorem InUse.completeOne {s : State} {k : Nat} (h : InUse s k) (j st r : Nat) : InUse (s.completeOne j st r) k := by
  obtain ⟨hk, hst⟩ := h
  refine ⟨by simpa using hk, ?_⟩
  rw [completeOne_tag]
  split
  next hj =>
    rcases hst with hst | ⟨-, hkept⟩
    · simp [hst] at hj
    · simp [hkept]
  next => exact hst
theorem InUse.complete {s : State} {k : Nat} (h : InUse s k) (j st r : Nat) : InUse (s.complete j st r) k :=
  complete_inv (P := fun s => InUse s k) (fun _ j st r hs => hs.completeOne j st r) (fun _ _ ht _ hs => hs.congr ht) h j st r
theorem InUse.completeAll {s : State} {k : Nat} (h : InUse s k) (ks : List Nat) (st r : Nat) :
    InUse (s.completeAll ks st r) k :=
  each_inv (fun s j => s.complete j st r) (fun s => InUse s k) (fun _ j hs => hs.complete j st r) ks s h
theorem Served.inUse {s : State} {k op : Nat} {fn : Option Nat} (h : Served s k op fn) : InUse s k :=
  ⟨h.1, .inr ⟨.inl h.2.1, h.2.2.1⟩⟩

theorem complete_decided_mono {s : State} {k : Nat} (h : (s.tag k).st = .decided) (j st r : Nat) :
    ((s.complete j st r).tag k).st = .decided :=
  complete_inv (P := fun s => (s.tag k).st = .decided) (fun s j st r hs => completeOne_tag_mono s j k st r hs)
    (fun _ _ ht _ hs => by simpa [State.tag, ht] using hs) h j st r
/-- However the use of the slot stood, its completion leaves it decided. -/
theorem InUse.complete_self {s : State} {k : Nat} (h : InUse s k) (st r : Nat) :
    ((s.complete k st r).tag k).st = .decided := by
  obtain ⟨hk, hdecided | ⟨hst, hkept⟩⟩ := h
  · exact complete_decided_mono hdecided k st r
  · exact (complete_ends s k st r hk hst hkept).1

end Sys2Proof.Machine
end

section
/-! Switch channels (spec/09): trips, recovery, and the commands on them. -/

namespace Sys2Proof.Machine

open Sys2Proof.Claims

/-! ### Trips -/

/-- With no program running a unit's trip is not the sequencer's. -/
theorem State.seqNotify_idle {s : State} (hidle : s.seq.running = false) (u : Nat) (fault : Bool) :
    s.seqNotify u fault = s := by
  simp [State.seqNotify, hidle]

/-- R359–R361: what a trip leaves of the channel. -/
theorem State.swTrip_sw {s : State} {n : Nat} (m ma : Nat) (t : Option Nat) (hn : n < s.sws.length)
    (hstby : (s.sw n).stbyHold = false) :
    let latch : Bool := s.swf n 0x14 0 4 ≤ (s.sw n).retries
    let u := (s.swTrip n m ma t).sw n
    u.st = (if s.swf n 0x14 0 4 ≤ (s.sw n).retries then .latched else .retryWait) ∧ u.gateOn = false ∧ u.good = false ∧
    u.tripCnt = satInc 32 (s.sw n).tripCnt ∧ u.cause = (s.sw n).cause ||| BitVec.ofNat 8 (s.swDue n ||| m) ∧
    u.actTick = some s.clk.tick := by
  have hlen (u : State) (h : u.sws = s.sws) : n < u.sws.length := by rw [h]; exact hn
  cases t <;> by_cases hlatch : s.swf n 0x14 0 4 ≤ (s.sw n).retries <;>
    simp [State.swTrip, State.swEnd, hstby, hlatch, hn, Switch.gateOff]
theorem State.swTrip_only {s : State} {n : Nat} (m ma : Nat) (t : Option Nat) (hstby : (s.sw n).stbyHold = false) :
    SwsBut [n] s (s.swTrip n m ma t) ∧ OnlyEnds s (s.swTrip n m ma t) ∧
    s.swTrip n m ma t = { s with
      sws := (s.swTrip n m ma t).sws, hif := (s.swTrip n m ma t).hif, rcd := (s.swTrip n m ma t).rcd } := by
  refine ⟨fun j hj hjn => ?_, onlyEnds_iff.2 (by simp), ?_⟩
  · have hjn : j ≠ n := by simpa using hjn
    cases t <;> by_cases hlatch : s.swf n 0x14 0 4 ≤ (s.sw n).retries <;>
      simp [State.swTrip, State.swEnd, hstby, hlatch, hjn]
  · cases t <;> by_cases hlatch : s.swf n 0x14 0 4 ≤ (s.sw n).retries <;>
      simp [State.swTrip, State.swEnd, hstby, hlatch, State.eq_iff]
/-- Records leave the counts of shorts and crowbars alone. -/
@[simp] theorem State.occur_counts (s : State) (r : Record) :
    (s.occur r).rcd.shorts = s.rcd.shorts ∧ (s.occur r).rcd.crowbars = s.rcd.crowbars := by
  unfold State.occur State.traceTrigger
  dsimp only
  repeat' split
  all_goals simp
@[simp] theorem State.emit_counts (s : State) (code src : Nat) (ps : List Nat) :
    (s.emit code src ps).rcd.shorts = s.rcd.shorts ∧ (s.emit code src ps).rcd.crowbars = s.rcd.crowbars := by
  simp [State.emit]
@[simp] theorem State.emitHw_counts (s : State) (t code src : Nat) (ps : List Nat) :
    (s.emitHw t code src ps).rcd.shorts = s.rcd.shorts ∧ (s.emitHw t code src ps).rcd.crowbars = s.rcd.crowbars := by
  simp [State.emitHw]
theorem State.swTrip_shorts {s : State} {n : Nat} (m ma : Nat) (t : Option Nat) (hstby : (s.sw n).stbyHold = false) :
    (s.swTrip n m ma t).rcd.shorts = s.rcd.shorts := by
  cases t <;> by_cases hlatch : s.swf n 0x14 0 4 ≤ (s.sw n).retries <;>
    simp [State.swTrip, State.swEnd, hstby, hlatch]
theorem State.tripRow_tripped {s : State} {n : Nat} (m : Nat) (t : Option Nat) (ma : Int) (hn : n < s.sws.length)
    (hstby : (s.sw n).stbyHold = false) (hidle : s.seq.running = false) : Tripped s (s.tripRow n m t ma) n m := by
  obtain ⟨hst, hgate, hgood, hcnt, hcause, hact⟩ := State.swTrip_sw m (i32 ma) t hn hstby
  obtain ⟨hbut, honly, hframe⟩ := State.swTrip_only m (i32 ma) t hstby
  rw [State.tripRow, State.seqNotify_idle (by simp [hidle])]
  exact ⟨hst, hgate, hgood, hcnt, hcause, hact, hbut, honly, hframe⟩

theorem rampTimeout_holds : rampTimeout := by
  intro s n hn hlate hfloor hstby hidle
  exact ⟨_, congrArg Host.Outcome.next (if_pos (by simp [hlate, hfloor])), State.tripRow_tripped 16 none _ hn hstby hidle⟩
theorem swFaultTimerExpiry_holds : swFaultTimerExpiry := by
  intro s n hn hdue hfloor hstby hidle
  exact ⟨_, congrArg Host.Outcome.next (if_pos (by simp [hdue, hfloor])), State.tripRow_tripped 2 none _ hn hstby hidle⟩
theorem swPumpTrip_holds : swPumpTrip := by
  intro s n hn hdue hfloor hyield hstby hidle
  refine ⟨_, congrArg Host.Outcome.next ((if_pos (by simp [hdue, hfloor])).trans (if_neg (by simp [hyield]))),
    State.tripRow_tripped 32 none _ hn hstby hidle⟩
theorem brakeI2tTrip_holds : brakeI2tTrip := by
  intro s n hn hdue hstby hidle
  exact ⟨_, congrArg Host.Outcome.next (if_pos hdue), State.tripRow_tripped 8 none _ hn hstby hidle⟩
/-- R349: the count of shorts is the recorder's, and the trip's records leave it alone. -/
theorem switchShort_holds : switchShort := by
  intro s n ma time hn hgate hover hstby hidle
  have htrip := State.tripRow_tripped (s := { s with rcd.shorts := satInc 32 s.rcd.shorts }) 1 (some time) ma hn hstby hidle
  refine ⟨_, if_pos (by simp [hgate, hover]), ?_, ?_⟩
  · obtain ⟨hst, hoff, hgood, hcnt, hcause, hact, hbut, honly, hframe⟩ := htrip
    exact ⟨hst, hoff, hgood, hcnt, hcause, hact, hbut, honly, hframe⟩
  · have hshorts := State.swTrip_shorts (s := { s with rcd.shorts := satInc 32 s.rcd.shorts }) 1 (i32 ma) (some time) hstby
    rw [State.tripRow, State.seqNotify_idle (by simpa using hidle)]
    exact hshorts

/-- Settles O20, one row each. -/
theorem switchTrips : Obligations.SwitchTrips :=
  ⟨rampTimeout_holds, switchShort_holds, swFaultTimerExpiry_holds, swPumpTrip_holds, brakeI2tTrip_holds⟩

/-! ### Recovery -/

/-- R342: the good condition as the channel stands. -/
theorem State.swJudge_sw {s : State} {n : Nat} (hn : n < s.sws.length) :
    let c := s.sw n
    let u := (s.swJudge n).sw n
    u.st = c.st ∧ u.gateOn = c.gateOn ∧
    u.good = (c.st == .on && c.pumpOk && !c.limit && !(c.fTimer == 1 && c.fStart == s.clk.tick) && !s.brake.inFloor) ∧
    SwsBut [n] s (s.swJudge n) := by
  refine ⟨?_, ?_, ?_, fun j hj hjn => ?_⟩
  · unfold State.swJudge
    dsimp only
    split <;> simp [hn]
  · unfold State.swJudge
    dsimp only
    split <;> simp [hn]
  · unfold State.swJudge
    dsimp only
    split <;> simp [hn]
  · have hjn : j ≠ n := by simpa using hjn
    unfold State.swJudge
    dsimp only
    split <;> simp [hjn]
theorem rampComplete_holds : rampComplete := by
  intro s n hn hready
  refine ⟨_, congrArg Host.Outcome.next (if_pos hready), ?_⟩
  obtain ⟨hst, hgate, hgood, hbut⟩ := State.swJudge_sw (s := s.modSw n fun c => { c with st := .on, gateOn := true }) (n := n)
    (by simpa using hn)
  refine ⟨?_, ?_, ?_, SwsBut.trans (SwsBut.modSw s n _) hbut (by simp), onlyEnds_iff.2 (by simp), by simp [State.eq_iff]⟩
  · simp [hst, hn]
  · simp [hgate, hn]
  · simp [hgood, hn, Switch.pumpOk]
theorem swRetry_holds : swRetry := by
  refine ⟨fun s n hn hwait hleft hcool hfloor hshed hseat => ?_, fun s n hn hwait hleft hcool hfloor hshed hneed hseat => ?_⟩
  · refine ⟨_, (if_pos ⟨hwait, hleft, hcool, hfloor, hshed⟩).trans (if_neg hseat), ?_⟩
    refine ⟨?_, ?_, ?_, ?_, ?_, ?_, ?_⟩
    · simp [State.swTurnOn, hn]
    · simp [State.swTurnOn, hn]
    · simp [State.swTurnOn, hn]
    · simp [State.swTurnOn, hn]
    · intro j hj hjn
      simp_all [State.swTurnOn]
    · exact onlyEnds_iff.2 (by simp)
    · simp [State.swTurnOn, State.eq_iff]
  · refine ⟨_, (if_pos ⟨hwait, hleft, hcool, hfloor, hshed⟩).trans (if_pos ⟨hneed, hseat⟩), ?_, SwsBut.modSw s n _, ?_⟩
    · simp [hn, hneed]
    · simp [State.eq_iff]
theorem swRetryCountReset_holds : swRetryCountReset := by
  intro s n hn hgood
  exact ⟨_, congrArg Host.Outcome.next (if_pos hgood), by simp [hn], SwsBut.modSw s n _, by simp [State.eq_iff]⟩
theorem seatQualified_holds : seatQualified := by
  intro s n hn hunit hseat hlow hhigh hshed hfloor
  have hguard : n < s.sys.variant.sws ∧ (s.sw n).seated = false ∧ s.swf n 0 8 4 ≤ (s.sw n).seatLow ∧ (s.sw n).seatHigh = 0 :=
    ⟨hunit, hseat, hlow, hhigh⟩
  by_cases hst : (s.sw n).st = .unseated
  · refine ⟨_, (if_pos hguard).trans (if_pos ⟨hst, by simpa using hfloor, by simpa [State.holdShed] using hshed⟩), ?_⟩
    refine ⟨?_, ?_, fun j hj hjn => ?_, onlyEnds_iff.2 (by simp), by simp [State.eq_iff]⟩
    · simp [State.swTurnOn, hn]
    · simp [State.swTurnOn, hn, hst]
    · simp_all [State.swTurnOn]
  · refine ⟨_, (if_pos hguard).trans (if_neg fun h => hst h.1), ?_⟩
    refine ⟨?_, ?_, fun j hj hjn => ?_, onlyEnds_iff.2 (by simp), by simp [State.eq_iff]⟩
    · simp [hn]
    · simp [hn, hst]
    · simp_all
theorem seatLoss_holds : seatLoss := by
  intro s n hn hunit hseat hhigh hstby hidle
  have hguard : n < s.sys.variant.sws ∧ (s.sw n).seated = true ∧ s.swf n 0 12 4 ≤ (s.sw n).seatHigh :=
    ⟨hunit, hseat, hhigh⟩
  by_cases hpull : s.swf n 0 6 1 = 1 ∧ ((s.sw n).st = .ramp ∨ (s.sw n).st = .on)
  · refine ⟨_, (if_pos hguard).trans (if_pos (by simpa [hstby] using hpull)), ?_⟩
    rw [State.seqNotify_idle (by simpa using hidle)]
    refine ⟨?_, fun _ _ => ⟨?_, ?_⟩, fun hen => absurd hpull.1 hen, fun j hj hjn => ?_, onlyEnds_iff.2 (by simp),
      by simp [State.eq_iff]⟩
    · simp [State.swEnd, hn, Switch.gateOff]
    · simp [State.swEnd, hn]
    · simp [State.swEnd, hn, Switch.gateOff]
    · simp_all [State.swEnd]
  · have hno : ¬(s.swf n 0 6 1 == 1 && ((s.sw n).st == .ramp || (s.sw n).st == .on) && !(s.sw n).stbyHold) = true := by
      simpa [hstby] using hpull
    by_cases hretry : s.swf n 0 6 1 = 1 ∧ (s.sw n).st = .retryWait
    · refine ⟨_, (if_pos hguard).trans ((if_neg hno).trans (if_pos hretry)), ?_⟩
      refine ⟨?_, fun _ hon => ?_, fun hen => absurd hretry.1 hen, fun j hj hjn => ?_, onlyEnds_iff.2 (by simp),
        by simp [State.eq_iff]⟩
      · simp [hn]
      · simp [hretry.2] at hon
      · simp_all
    · refine ⟨_, (if_pos hguard).trans ((if_neg hno).trans (if_neg hretry)), ?_⟩
      refine ⟨?_, fun hen hon => absurd ⟨hen, hon.symm⟩ hpull, fun _ => ?_, fun j hj hjn => ?_, onlyEnds_iff.2 (by simp),
        by simp [State.eq_iff]⟩
      · simp [hn]
      · simp [hn]
      · simp_all

/-- Settles O21, one row each. -/
theorem switchRecovery : Obligations.SwitchRecovery :=
  ⟨rampComplete_holds, swRetry_holds, swRetryCountReset_holds, seatQualified_holds, seatLoss_holds⟩

/-! ### SW_ON, SW_OFF and SW_CLEAR -/

theorem swOn_holds : swOn := by
  intro s k hserved n hn hnon hnramp hseq hshed hhold hcheck
  refine ⟨_, applyDesc_plain _ hserved rfl, ?_⟩
  have hop : s.swOnOp k (s.tag k).desc = ((s.modSw n fun c => { c with onSlots := [k] }).swTurnOn n false false).hold k := by
    simp only [n] at hcheck hnon hnramp hseq hshed hhold ⊢
    simp [State.swOnOp, hnon, hnramp, hseq, hshed, hhold, hcheck]
  rw [hop]
  refine ⟨?_, ?_, ?_, ?_, ?_, fun j hj hjn => ?_, onlyEnds_iff.2 (by simp), by simp [State.eq_iff]⟩
  · simp [State.swTurnOn, hn]
  · simp [State.swTurnOn, hn]
  · simp [State.swTurnOn, hn]
  · simp [State.swTurnOn, hn]
  · rw [hold_tag (by simpa using hserved.1)]
  · simp_all [State.swTurnOn]
/-- R344: what turning a channel off leaves, but for one that is latched. -/
theorem State.swTurnOff_spec {s : State} {n : Nat} (code : Nat) (hn : n < s.sws.length) (hlatched : (s.sw n).st ≠ .latched) :
    let u := s.swTurnOff n code
    (u.sw n).st = .off ∧ ((s.sw n).st = .on ∨ (s.sw n).st = .ramp → (u.sw n).gateOn = false) ∧
    (u.sw n).gateLow = (s.sw n).gateLow ∧ SwsBut [n] s u ∧ (∀ k, InUse s k → InUse u k) := by
  have huse (k : Nat) (f : Switch → Switch) (h : InUse s k) : InUse (s.modSw n f) k := h.congr (by simp)
  unfold State.swTurnOff
  split
  next hst =>
    refine ⟨?_, fun _ => ?_, ?_, fun j hj hjn => ?_, fun k hk => (huse k _ hk).completeAll _ _ _⟩
    · simp [State.swEnd, hn]
    · simp [State.swEnd, hn, Switch.gateOff]
    · simp [State.swEnd, hn, Switch.gateOff]
    · simp_all [State.swEnd]
  next hst =>
    refine ⟨?_, fun _ => ?_, ?_, fun j hj hjn => ?_, fun k hk => (huse k _ hk).completeAll _ _ _⟩
    · simp [State.swEnd, hn]
    · simp [State.swEnd, hn, Switch.gateOff]
    · simp [State.swEnd, hn, Switch.gateOff]
    · simp_all [State.swEnd]
  next hst => exact ⟨by simp [hn], by simp [hst], by simp [hn], SwsBut.modSw s n _, fun k hk => huse k _ hk⟩
  next hst => exact ⟨by simp [hn], by simp [hst], by simp [hn], SwsBut.modSw s n _, fun k hk => huse k _ hk⟩
  next hramp hon hretry hunseated =>
    have hoff : (s.sw n).st = .off := by cases h : (s.sw n).st <;> simp_all
    exact ⟨hoff, by simp [hoff], rfl, fun _ _ _ => rfl, fun _ hk => hk⟩
theorem swOff_holds : swOff := by
  intro s k hserved n hn htaken hlatched hidle
  refine ⟨_, applyDesc_plain _ hserved rfl, ?_⟩
  obtain ⟨hst, hgate, hlow, hbut, huse⟩ := State.swTurnOff_spec 0 hn hlatched
  have hop : s.swOffOp k (s.tag k).desc =
      if (s.sw n).gateLow then (s.swTurnOff n 0).complete k stDONE 0
      else ((s.swTurnOff n 0).modSw n fun c => { c with offSlots := c.offSlots ++ [k] }).hold k := by
    simp only [n] at htaken hlow ⊢
    simp [State.swOffOp, htaken, State.seqNotify_idle, hidle, hlow]
  rw [hop]
  split
  next hdone =>
    refine ⟨by simpa using hst, by simpa using hgate, (huse k (Served.inUse hserved)).complete_self _ _, fun j hj hjn => ?_,
      onlyEnds_iff.2 (by simp), by simp [State.eq_iff]⟩
    simpa using hbut j hj hjn
  next hwait =>
    refine ⟨by simpa [hn] using hst, by simpa [hn] using hgate, ?_, fun j hj hjn => ?_, onlyEnds_iff.2 (by simp),
      by simp [State.eq_iff]⟩
    · rw [hold_tag (by simpa using hserved.1)]
    · have hne : j ≠ n := by simpa using hjn
      simpa [hne] using hbut j hj hjn
/-- R366: where a clear leaves a channel, with the causes it keeps. -/
def swClearedTo (kept : Nat) : SwState → SwState
  | .on => .on
  | .ramp => .ramp
  | .unseated => .unseated
  | .off => if kept ≠ 0 then .latched else .off
  | _ => if kept ≠ 0 then .latched else .off

theorem State.swClearOp_eq {s : State} {d : RawDesc} (k : Nat) (hact : (s.sw (descIndex d)).actTick ≠ some s.clk.tick) :
    let n := descIndex d
    let kept := if s.swLev n 24 ≤ (s.sw n).tj then (s.sw n).cause.toNat &&& 6 else 0
    s.swClearOp k d = ((s.modSw n fun c => { c with
      cause := BitVec.ofNat 8 kept, retries := 0, retryLeft := 0, retryOver := 0, st := swClearedTo kept (s.sw n).st }).emit
      0x0407 (swEng n) [n, (s.sw n).cause.toNat - kept, kept]).complete k stDONE
      ((s.sw n).cause.toNat - kept + 256 * kept) := by
  unfold State.swClearOp
  dsimp only
  rw [if_neg hact]
  simp only [decide_eq_true_eq]
  rfl
theorem swClear_holds : swClear := by
  intro s k hserved n kept hn hact
  refine ⟨_, applyDesc_plain _ hserved rfl, ?_⟩
  rw [State.swClearOp_eq k hact]
  refine ⟨by simp [hn, n, kept], by simp [hn, n], fun hst => ?_, served_ends' hserved (by simp) _ _, fun j hj hjn => ?_,
    onlyEnds_iff.2 (by simp), by simp [State.eq_iff]⟩
  · rcases hst with hst | hst <;> simp only [n] at hst hn <;> simp [hn, n, kept, hst, swClearedTo]
  · simpa using SwsBut.modSw s n _ j hj hjn

/-- Settles O22, one row each. -/
theorem switchCommands : Obligations.SwitchCommands := ⟨swOn_holds, swOff_holds, swClear_holds⟩

end Sys2Proof.Machine
end

section
/-! The phases and the rails through the shared rail operations: which ones an operation changes, and which of their parts
it keeps. -/

namespace Sys2Proof.Machine

open Sys2Proof.Claims

/-! ### Changes of one unit, and of several in turn -/

/-- A part of a rail that the change leaves alone reads as before, whichever rail is changed. -/
theorem modRail_keep {β : Type} (g : Rail → β) {f : Rail → Rail} (hf : ∀ r, g (f r) = g r) (s : State) (n j : Nat) :
    g ((s.modRail n f).rail j) = g (s.rail j) := by
  rw [rail_modRail]
  split
  next h => rw [hf, h.1]
  next => rfl
/-- A rail beyond the table reads as the default. -/
theorem rail_default {s : State} {n : Nat} (h : s.rails.length ≤ n) : s.rail n = {} := by
  simp [State.rail, List.getD, List.getElem?_eq_none h]
theorem sw_default {s : State} {n : Nat} (h : s.sws.length ≤ n) : s.sw n = {} := by
  simp [State.sw, List.getD, List.getElem?_eq_none h]
/-- A part of a phase that the change leaves alone reads as before, whichever phase is changed. -/
theorem modPhase_keep {β : Type} (g : Phase → β) {f : Phase → Phase} (hf : ∀ p, g (f p) = g p) (s : State) (m j : Nat) :
    g ((s.modPhase m f).phase j) = g (s.phase j) := by
  rw [phase_modPhase]
  split
  next h => rw [hf, h.1]
  next => rfl
theorem each_modRail_keep {β : Type} (g : Rail → β) {f : State → Nat → Rail → Rail} (hf : ∀ s u r, g (f s u r) = g r)
    (l : List Nat) (s : State) (j : Nat) :
    g ((s.each l fun s u => s.modRail u (f s u)).rail j) = g (s.rail j) :=
  each_inv (fun s u => s.modRail u (f s u)) (fun t => g (t.rail j) = g (s.rail j))
    (fun s u h => (modRail_keep g (hf s u) s u j).trans h) l s rfl
theorem each_modPhase_keep {β : Type} (g : Phase → β) {f : State → Nat → Phase → Phase} (hf : ∀ s m p, g (f s m p) = g p)
    (l : List Nat) (s : State) (j : Nat) :
    g ((s.each l fun s m => s.modPhase m (f s m)).phase j) = g (s.phase j) :=
  each_inv (fun s m => s.modPhase m (f s m)) (fun t => g (t.phase j) = g (s.phase j))
    (fun s m h => (modPhase_keep g (hf s m) s m j).trans h) l s rfl
/-- What the change of each phase visited establishes, whatever the phase was, and no later visit destroys, holds of every
phase visited. -/
theorem each_modPhase_est {P : Phase → Prop} {f : State → Nat → Phase → Phase} (hf : ∀ s m p, P (f s m p)) {l : List Nat}
    {m : Nat} (hm : m ∈ l) {s : State} (hlen : m < s.phases.length) :
    P ((s.each l fun s m => s.modPhase m (f s m)).phase m) := by
  refine each_est (fun s m => s.modPhase m (f s m)) (fun t => P (t.phase m)) (fun t => m < t.phases.length) m
    (fun t j ht => by simpa using ht) (fun t ht => ?_) (fun t j ht => ?_) l hm s hlen
  · simpa [ht] using hf t m (t.phase m)
  · rw [phase_modPhase]
    split
    next => exact hf t j _
    next => exact ht
theorem each_modRail_est {P : Rail → Prop} {f : State → Nat → Rail → Rail} (hf : ∀ s u r, P (f s u r)) {l : List Nat}
    {n : Nat} (hn : n ∈ l) {s : State} (hlen : n < s.rails.length) :
    P ((s.each l fun s u => s.modRail u (f s u)).rail n) := by
  refine each_est (fun s u => s.modRail u (f s u)) (fun t => P (t.rail n)) (fun t => n < t.rails.length) n
    (fun t j ht => by simpa using ht) (fun t ht => ?_) (fun t j ht => ?_) l hn s hlen
  · simpa [ht] using hf t n (t.rail n)
  · rw [rail_modRail]
    split
    next => exact hf t j _
    next => exact ht
/-- What the change of each channel visited establishes holds of every channel visited. -/
theorem each_modSw_est {P : Switch → Prop} {f : State → Nat → Switch → Switch} (hf : ∀ s u c, P (f s u c)) {l : List Nat}
    {n : Nat} (hn : n ∈ l) {s : State} (hlen : n < s.sws.length) :
    P ((s.each l fun s u => s.modSw u (f s u)).sw n) := by
  refine each_est (fun s u => s.modSw u (f s u)) (fun t => P (t.sw n)) (fun t => n < t.sws.length) n
    (fun t j ht => by simpa using ht) (fun t ht => ?_) (fun t j ht => ?_) l hn s hlen
  · simpa [ht] using hf t n (t.sw n)
  · rw [sw_modSw]
    split
    next => exact hf t j _
    next => exact ht
theorem each_modPhase_ne {f : State → Nat → Phase → Phase} {l : List Nat} {j : Nat} (hj : j ∉ l) (s : State) :
    (s.each l fun s m => s.modPhase m (f s m)).phase j = s.phase j :=
  each_phase_ne _ j (fun _ _ hm => phase_modPhase_ne _ _ _ _ (Ne.symm hm)) l hj s
theorem each_modRail_ne {f : State → Nat → Rail → Rail} {l : List Nat} {j : Nat} (hj : j ∉ l) (s : State) :
    (s.each l fun s u => s.modRail u (f s u)).rail j = s.rail j :=
  each_rail_ne _ j (fun _ _ hu => rail_modRail_ne _ _ _ _ (Ne.symm hu)) l hj s

/-! ### All units but those named -/

theorem RailsBut.of_rails {s t : State} (h : t.rails = s.rails) (l : List Nat) : RailsBut l s t := fun j _ _ => rail_of h j
theorem RailsBut.trans {a b c : State} {l : List Nat} (hab : RailsBut l a b) (hbc : RailsBut l b c)
    (hlen : b.rails.length = a.rails.length) : RailsBut l a c := fun j hj hjl =>
  (hbc j (hlen ▸ hj) hjl).trans (hab j hj hjl)
theorem RailsBut.mono {s t : State} {l l' : List Nat} (h : RailsBut l s t) (hl : ∀ n ∈ l, n ∈ l') : RailsBut l' s t :=
  fun j hj hjl => h j hj fun hm => hjl (hl j hm)
theorem PhasesBut.of_phases {s t : State} (h : t.phases = s.phases) (l : List Nat) : PhasesBut l s t :=
  fun j _ _ => phase_of h j
theorem PhasesBut.trans {a b c : State} {l : List Nat} (hab : PhasesBut l a b) (hbc : PhasesBut l b c)
    (hlen : b.phases.length = a.phases.length) : PhasesBut l a c := fun j hj hjl =>
  (hbc j (hlen ▸ hj) hjl).trans (hab j hj hjl)
theorem PhasesBut.mono {s t : State} {l l' : List Nat} (h : PhasesBut l s t) (hl : ∀ n ∈ l, n ∈ l') : PhasesBut l' s t :=
  fun j hj hjl => h j hj fun hm => hjl (hl j hm)

/-! ### The phases of a rail -/

theorem railPhases_congr {s t : State} (hsys : t.sys.variant = s.sys.variant)
    (howner : ∀ m, (t.phase m).owner = (s.phase m).owner) (n : Nat) : t.railPhases n = s.railPhases n := by
  simp [State.railPhases, State.phaseIdx, hsys, howner]
theorem freePhases_congr {s t : State} (hsys : t.sys.variant = s.sys.variant)
    (howner : ∀ m, (t.phase m).owner = (s.phase m).owner) (hlatched : ∀ m, (t.phase m).latched = (s.phase m).latched)
    (n : Nat) : t.freePhases n = s.freePhases n := by
  simp [State.freePhases, railPhases_congr hsys howner, hlatched]
theorem railPhases_of {s t : State} (hsys : t.sys.variant = s.sys.variant) (hphases : t.phases = s.phases) (n : Nat) :
    t.railPhases n = s.railPhases n := railPhases_congr hsys (fun m => by rw [phase_of hphases]) n
@[simp] theorem railPhases_modRail (s : State) (j n : Nat) (f : Rail → Rail) :
    (s.modRail j f).railPhases n = s.railPhases n := railPhases_of rfl rfl n
@[simp] theorem freePhases_modRail (s : State) (j n : Nat) (f : Rail → Rail) :
    (s.modRail j f).freePhases n = s.freePhases n := freePhases_congr rfl (fun _ => rfl) (fun _ => rfl) n
@[simp] theorem railPhases_emit (s : State) (code src : Nat) (ps : List Nat) (n : Nat) :
    (s.emit code src ps).railPhases n = s.railPhases n := railPhases_of (by simp) (by simp) n
@[simp] theorem railPhases_emitHw (s : State) (t code src : Nat) (ps : List Nat) (n : Nat) :
    (s.emitHw t code src ps).railPhases n = s.railPhases n := railPhases_of (by simp) (by simp) n
@[simp] theorem freePhases_emit (s : State) (code src : Nat) (ps : List Nat) (n : Nat) :
    (s.emit code src ps).freePhases n = s.freePhases n := by simp [State.freePhases]
@[simp] theorem freePhases_emitHw (s : State) (t code src : Nat) (ps : List Nat) (n : Nat) :
    (s.emitHw t code src ps).freePhases n = s.freePhases n := by simp [State.freePhases]

/-! ### The counts, the truncation and the mid position of a rail's phases -/

section
variable (s : State) (n j : Nat)

@[simp] theorem rail_applyCounts : (s.applyCounts n).rail j = s.rail j := rail_of (by simp) j
@[simp] theorem rail_phasesMid : (s.phasesMid n).rail j = s.rail j := rail_of (by simp) j
@[simp] theorem rail_truncate : (s.truncate n).rail j = s.rail j := rail_of (by simp) j

@[simp] theorem State.applyCounts_phase (hj : j ∉ s.railPhases n) : (s.applyCounts n).phase j = s.phase j :=
  each_modPhase_ne hj s
@[simp] theorem State.phasesMid_phase (hj : j ∉ s.railPhases n) : (s.phasesMid n).phase j = s.phase j :=
  each_modPhase_ne hj s
@[simp] theorem State.truncate_phase (hj : j ∉ s.railPhases n) : (s.truncate n).phase j = s.phase j := by
  refine each_phase_ne _ j (fun s m hm => ?_) _ hj s
  split
  · exact phase_modPhase_ne _ _ _ _ (Ne.symm hm)
  · rfl

@[simp] theorem State.applyCounts_drive : ((s.applyCounts n).phase j).drive = (s.phase j).drive :=
  each_modPhase_keep Phase.drive (by exact fun _ _ _ => rfl) _ s j
@[simp] theorem State.applyCounts_owner : ((s.applyCounts n).phase j).owner = (s.phase j).owner :=
  each_modPhase_keep Phase.owner (by exact fun _ _ _ => rfl) _ s j
@[simp] theorem State.applyCounts_latched : ((s.applyCounts n).phase j).latched = (s.phase j).latched :=
  each_modPhase_keep Phase.latched (by exact fun _ _ _ => rfl) _ s j
@[simp] theorem State.phasesMid_owner : ((s.phasesMid n).phase j).owner = (s.phase j).owner :=
  each_modPhase_keep Phase.owner (by exact fun _ _ _ => rfl) _ s j
@[simp] theorem State.phasesMid_latched : ((s.phasesMid n).phase j).latched = (s.phase j).latched :=
  each_modPhase_keep Phase.latched (by exact fun _ _ _ => rfl) _ s j
theorem State.phasesMid_drive {m : Nat} (hm : m ∈ s.railPhases n) (hlen : m < s.phases.length) :
    ((s.phasesMid n).phase m).drive = .mid :=
  each_modPhase_est (P := fun p => p.drive = .mid) (fun _ _ _ => rfl) hm hlen

theorem State.truncate_drive {m : Nat} (hm : m ∈ s.railPhases n) (hlen : m < s.phases.length) :
    ((s.truncate n).phase m).drive ≠ .high := by
  refine each_est _ (fun t => (t.phase m).drive ≠ .high) (fun t => m < t.phases.length) m (fun t k ht => ?_)
    (fun t ht => ?_) (fun t k ht => ?_) _ hm s hlen
  · split <;> simpa [State.endPulse] using ht
  · split
    next => simp [State.endPulse, ht]
    next hdrive => simpa using hdrive
  · split
    next =>
      rw [State.endPulse, phase_modPhase]
      split
      · simp
      · exact ht
    next => exact ht

@[simp] theorem State.railPhases_applyCounts : (s.applyCounts n).railPhases j = s.railPhases j :=
  railPhases_congr (by simp) (State.applyCounts_owner s n) j
@[simp] theorem State.freePhases_applyCounts : (s.applyCounts n).freePhases j = s.freePhases j :=
  freePhases_congr (by simp) (State.applyCounts_owner s n) (State.applyCounts_latched s n) j
@[simp] theorem State.truncate_owner : ((s.truncate n).phase j).owner = (s.phase j).owner := by
  refine each_inv _ (fun t => (t.phase j).owner = (s.phase j).owner) (fun t m ht => ?_) _ s rfl
  split
  · exact (modPhase_keep Phase.owner (by exact fun _ => rfl) t m j).trans ht
  · exact ht
@[simp] theorem State.railPhases_truncate : (s.truncate n).railPhases j = s.railPhases j :=
  railPhases_congr (by simp) (State.truncate_owner s n) j
end

/-! ### The committed fields in force, and the units of a pair -/

theorem cfgf_of {s t : State} (hvariant : t.sys.variant = s.sys.variant) (hlive : t.live = s.live) (off lo w : Nat) :
    t.cfgf off lo w = s.cfgf off lo w := by
  simp [State.cfgf, State.cfgv, hvariant, hlive]
theorem leadOf_of {s t : State} (hvariant : t.sys.variant = s.sys.variant) (hlive : t.live = s.live) (n : Nat) :
    t.leadOf n = s.leadOf n := by
  simp [State.leadOf, State.isFollower, State.pairEn, State.railf, cfgf_of hvariant hlive]
theorem pairUnits_of {s t : State} (hvariant : t.sys.variant = s.sys.variant) (hlive : t.live = s.live) (n : Nat) :
    t.pairUnits n = s.pairUnits n := by
  simp [State.pairUnits, leadOf_of hvariant hlive, State.pairEn, State.railf, cfgf_of hvariant hlive]
theorem pairUnits_of_leader {s : State} {n : Nat} (h : s.isFollower n = false) :
    s.pairUnits n = if s.pairEn n then [n, n + 1] else [n] := by
  simp [State.pairUnits, State.leadOf, h]
theorem mem_pairUnits_leadOf (s : State) (n : Nat) : s.leadOf n ∈ s.pairUnits n := by
  unfold State.pairUnits
  dsimp only
  split <;> simp
/-- A rail is one of its own pair. -/
theorem mem_pairUnits (s : State) (n : Nat) : n ∈ s.pairUnits n := by
  by_cases hf : s.isFollower n = true
  · obtain ⟨hodd, hpair⟩ : n % 2 = 1 ∧ s.pairEn (n - 1) = true := by simpa [State.isFollower] using hf
    have hn : n - 1 + 1 = n := by omega
    simp [State.pairUnits, State.leadOf, hf, hpair, hn]
  · rw [pairUnits_of_leader (by simpa using hf)]
    split <;> simp

/-! ### A rail that is parked -/

theorem State.park_rail_ne (s : State) {n j : Nat} (hj : j ≠ n) : (s.park n).rail j = s.rail j := by
  simp [State.park, hj]
theorem State.park_phase (s : State) (n : Nat) {j : Nat} (hj : j ∉ s.railPhases n) : (s.park n).phase j = s.phase j := by
  simp [State.park, hj]
theorem State.park_drive (s : State) (n : Nat) {m : Nat} (hm : m ∈ s.railPhases n) (hlen : m < s.phases.length) :
    ((s.park n).phase m).drive = .mid := by
  simp [State.park, s.phasesMid_drive n hm hlen]
/-- A parked rail is off, at no voltage, and neither crowbarred nor discharging. -/
theorem State.park_rail (s : State) {n : Nat} (hn : n < s.rails.length) : (s.park n).rail n = { s.rail n with
    st := .off, vref := 0, vtarget := 0, active := 0, discharging := false, crowbar := false, parkTick := s.clk.tick
    offSlots := [], ovLvl := 0, disByDown := false, recallHold := false, mask := false, disCnt := 0 } := by
  simp [State.park, hn]

end Sys2Proof.Machine
end

section
/-! O13, O14: the stream words, the ends of the on-times, the reference, and the fast error's actions on the phase count. -/

namespace Sys2Proof.Machine

open Sys2Proof.Claims

/-! ### Stream words -/

/-- A pulse that starts leaves the phase's last sample. -/
theorem State.startPulse_ilast (s : State) (n m t j : Nat) : ((s.startPulse n m t).phase j).ilast = (s.phase j).ilast := by
  unfold State.startPulse
  rw [phase_modRail]
  exact modPhase_keep Phase.ilast (by exact fun _ => rfl) s m j
theorem State.startPulse_vsense (s : State) (n m t j : Nat) : ((s.startPulse n m t).rail j).vsense = (s.rail j).vsense := by
  unfold State.startPulse
  refine (modRail_keep Rail.vsense (by exact fun _ => rfl) _ n j).trans ?_
  rw [rail_modPhase]
theorem State.trigger_ilast (s : State) (n t j : Nat) : ((s.trigger n t).phase j).ilast = (s.phase j).ilast := by
  generalize hu : s.trigger n t = u
  unfold State.trigger at hu
  dsimp only at hu
  repeat' split at hu
  all_goals subst hu; simp [State.startPulse_ilast]
theorem State.trigger_vsense (s : State) (n t j : Nat) : ((s.trigger n t).rail j).vsense = (s.rail j).vsense := by
  generalize hu : s.trigger n t = u
  have hblank (b : Nat) (s : State) := modRail_keep Rail.vsense
    (f := fun r => { r with blankEnd := b, trigWait := true }) (by exact fun _ => rfl) s n j
  unfold State.trigger at hu
  dsimp only at hu
  repeat' split at hu
  all_goals subst hu; simp [State.startPulse_vsense, hblank]
/-- R175: a stream word is the phase's last sample, whatever else it sets off. -/
theorem State.phaseWord_ilast {s : State} {m : Nat} (hm : m < s.phases.length) (i : Int) (t : Nat) :
    ((s.phaseWord m i t).phase m).ilast = i := by
  have hdrive (u : State) (k : Nat) (d : Drive) := modPhase_keep Phase.ilast
    (f := fun p => { p with drive := d }) (by exact fun _ => rfl) u k m
  have hidle (u : State) (k : Nat) (d : Drive) := modPhase_keep Phase.ilast
    (f := fun p => { p with drive := d, idleNow := true, leaving := false }) (by exact fun _ => rfl) u k m
  unfold State.phaseWord
  extract_lets n s₁ r p s₂ s₃ free sm s₄
  have h₁ : (s₁.phase m).ilast = i := by simp [s₁, hm]
  have h₂ : (s₂.phase m).ilast = i := by
    unfold s₂
    split
    · rw [phase_modRail, hdrive, h₁]
    · exact h₁
  have h₃ : (s₃.phase m).ilast = i := by
    unfold s₃
    split
    · rw [hidle, h₂]
    · exact h₂
  have h₄ : (s₄.phase m).ilast = i := by
    unfold s₄
    split
    · split
      · rw [hdrive, hdrive, h₃]
      · rw [hdrive, h₃]
    · exact h₃
  split
  · exact h₁
  · rw [State.trigger_ilast, h₄]

/-- R87: the counters of the stream words replaced, after one more. -/
def Clk.replaced (c : Clk) : Clk :=
  { c with
    streamRepl := c.streamRepl + 1
    streamReplTotal := c.streamReplTotal + 1
    streamReplFirst := if c.streamRepl = 0 then c.devTime else c.streamReplFirst }

theorem currentStreamWord_holds : currentStreamWord := by
  refine ⟨fun s m v tPs hrun hm => ?_, fun s m v tPs hrun hm => ?_, fun s n v tPs hrun hn => ?_, fun s n v tPs hrun hn => ?_⟩
  · refine ⟨s.phaseWord m v tPs, ?_, State.phaseWord_ilast hm _ _, by simp [State.eq_iff]⟩
    simp [Goes, exec, execCurrentStreamWord, hrun]
  · refine ⟨({ s with clk := s.clk.replaced } : State).phaseWord m (s.phase m).ilast tPs, ?_,
      State.phaseWord_ilast (by exact hm) _ _, by simp [Clk.replaced], by simp [State.eq_iff]⟩
    simp [Goes, exec, execCurrentStreamWord, hrun, Clk.replaced]
    rfl
  · refine ⟨(s.modRail n fun r => { r with vsense := v }).trigger n tPs, ?_, ?_, by simp [State.eq_iff]⟩
    · simp [Goes, exec, execCurrentStreamWord, hrun]
    · simp [State.trigger_vsense, hn]
  · refine ⟨(({ s with clk := s.clk.replaced } : State).modRail n fun r => { r with vsense := r.vsense }).trigger n tPs, ?_,
      ?_, by simp [Clk.replaced], by simp [State.eq_iff]⟩
    · simp [Goes, exec, execCurrentStreamWord, hrun, Clk.replaced]
    · rw [State.trigger_vsense]
      exact modRail_keep Rail.vsense (by exact fun _ => rfl) _ n n

/-! ### On-times and the reference -/

theorem onTimeExpiry_holds : onTimeExpiry := by
  intro s m tPs t0 hm hdrive hstart hend
  refine ⟨s.endPulse m, ?_, by simp [State.endPulse, hm], fun j _ hj => ?_, by simp [State.eq_iff]⟩
  · simp [Goes, exec, execOnTimeExpiry, hstart, hdrive, hend]
  · simp_all [State.endPulse]

/-- The reference's end at its target leaves the voltage and the target. -/
theorem State.reached_keep {β : Type} (g : Rail → β)
    (hg : ∀ (r : Rail) (e : Nat) (m : Option Nat), g { r with setSlot := none, st := .steady, slewEnd := e, maskEnd := m } = g r)
    (s : State) (n j : Nat) : g ((s.reached n).rail j) = g (s.rail j) := by
  unfold State.reached
  dsimp only
  refine (each_modRail_keep g (by exact fun _ _ _ => hg _ _ _) _ _ j).trans (congrArg g ?_)
  split <;> simp
theorem State.reached_rail {s : State} {n j : Nat} (hj : j ∉ s.pairUnits n) : (s.reached n).rail j = s.rail j := by
  unfold State.reached
  dsimp only
  rw [each_modRail_ne]
  · split <;> simp
  · split
    · rwa [pairUnits_of (s := s) (by simp) (by simp)]
    · exact hj
/-- R204: the reference takes its step on the rail and on its follower. -/
def State.refStep (s : State) (n : Nat) (v : Rat) : State :=
  s.each (s.pairUnits n) fun s u => s.modRail u fun r => { r with
    vref := v
    demStart := r.demStart && decide (v < r.prebias)
    maskLo := min r.maskLo v
    maskHi := max r.maskHi v }
theorem referenceUpdate_holds : referenceUpdate := by
  intro s n hn hon hleader htick hne
  generalize hv : (if (s.rail n).vref ≤ (s.rail n).vtarget then min ((s.rail n).vref + (s.rail n).slew / 10000) (s.rail n).vtarget
    else max ((s.rail n).vref - (s.rail n).slew / 10000) (s.rail n).vtarget) = v
  have hgo : Goes (.referenceUpdate n) s
      (if v = (s.rail n).vtarget then (s.refStep n v).reached n else s.refStep n v) := by
    subst hv
    simp [Goes, exec, execReferenceUpdate, hon, hleader, Nat.not_lt.2 htick, hne]
    rfl
  have hunits : (s.refStep n v).pairUnits n = s.pairUnits n := 
    pairUnits_of (s := s) (t := s.refStep n v) (by simp [State.refStep]) (by simp [State.refStep]) n
  have hvref : ((s.refStep n v).rail n).vref = v := by
    exact each_modRail_est (P := fun r => r.vref = v) (by exact fun _ _ _ => rfl) (mem_pairUnits s n) hn
  have htarget : ((s.refStep n v).rail n).vtarget = (s.rail n).vtarget :=
    each_modRail_keep Rail.vtarget (by exact fun _ _ _ => rfl) _ s n
  refine ⟨_, hgo, ?_, ?_, fun j _ hj => ?_, onlyEnds_iff.2 ?_, ?_⟩
  all_goals split
  · rw [State.reached_keep Rail.vref (by exact fun _ _ _ => rfl), hvref]
  · exact hvref
  · rw [State.reached_keep Rail.vtarget (by exact fun _ _ _ => rfl), htarget]
  · exact htarget
  · rw [State.reached_rail (by rwa [hunits])]
    exact each_modRail_ne hj s
  · exact each_modRail_ne hj s
  all_goals simp [State.refStep, State.eq_iff]

/-- Settles O13, one row each. -/
theorem railSampling : Obligations.RailSampling := ⟨currentStreamWord_holds, onTimeExpiry_holds, referenceUpdate_holds⟩

/-! ### The fast error (R190, R192, R193, R196) -/

/-- R233: what a fast error far from the reference withdraws of the rail's biases changes no more than the rail. -/
def withdrawFar (far err : Rat) (e : Option Fc) : Option Fc := e.map fun f =>
  if (0 < f.di ∧ far < err) ∨ (f.di < 0 ∧ err < -far) then { f with withdrawn := true } else f

/-- The last step of a fast error's word. -/
def State.judgeBias (s : State) (n : Nat) (err : Rat) : State :=
  if s.biasOf n = 0 then s
  else s.modRail n fun r => { r with
    fcHost := withdrawFar (15 * (s.rail n).vtarget) err r.fcHost
    fcLead := withdrawFar (15 * (s.rail n).vtarget) err r.fcLead }

@[simp] theorem State.judgeBias_frame (s : State) (n : Nat) (err : Rat) : Frame s (s.judgeBias n err) (rails := True) := by
  unfold State.judgeBias
  split <;> simp
theorem State.judgeBias_other (s : State) (n : Nat) (err : Rat) :
    (s.judgeBias n err).sys = s.sys ∧ (s.judgeBias n err).live = s.live ∧ (s.judgeBias n err).regs = s.regs ∧
    (s.judgeBias n err).pending = s.pending := by
  unfold State.judgeBias
  split <;> simp
theorem State.judgeBias_keep {β : Type} (g : Rail → β)
    (hg : ∀ (r : Rail) (a b : Option Fc), g { r with fcHost := a, fcLead := b } = g r) (s : State) (n : Nat) (err : Rat)
    (j : Nat) : g ((s.judgeBias n err).rail j) = g (s.rail j) := by
  unfold State.judgeBias
  split
  · rfl
  · exact modRail_keep g (by exact fun r => hg r _ _) s n j
theorem State.judgeBias_rail (s : State) {n j : Nat} (err : Rat) (hj : j ≠ n) : (s.judgeBias n err).rail j = s.rail j := by
  unfold State.judgeBias
  split
  · rfl
  · exact rail_modRail_ne s n j _ hj

/-- R190: the truncation that an error above the transient window makes, with what the rail notes of it. -/
def State.truncateFast (s : State) (n : Nat) (err : Rat) (time : Nat) : State :=
  (s.truncate n).modRail n fun r => { r with
    truncNow := true
    truncMax := max r.truncMax (roundN 3 (err / 1000))
    truncFirst := if r.truncEpoch = 0 && !r.truncNow then time else r.truncFirst }

theorem State.recall_spec (s : State) {n : Nat} (hn : n < s.rails.length) (err : Rat) (t : Nat) :
    ((s.recall n err t).rail n).recallHold = true ∧ ((s.recall n err t).rail n).active = (s.freePhases n).length ∧
    RailsBut [n] s (s.recall n err t) ∧ PhasesBut (s.railPhases n) s (s.recall n err t) := by
  unfold State.recall
  dsimp only
  refine ⟨?_, ?_, fun j _ hj => ?_, fun j _ hj => ?_⟩
  all_goals split
  all_goals simp_all

theorem fastErrorWord_holds : fastErrorWord := by
  refine ⟨fun s n uv time hn hon hcrowbar hrun hhigh hlow => ?_,
    fun s n uv time hn hon hcrowbar hrun hshadow hrecall hhigh hlow => ?_⟩
  · refine ⟨(s.truncateFast n (s.fastErr n uv) time).judgeBias n (s.fastErr n uv), ?_, fun m hm hlen => ?_, ?_,
      fun j _ hj => ?_, fun j _ hj => ?_, ?_⟩
    · simp only [Goes, exec, execFastErrorWord, hon, hcrowbar, hrun, Bool.not_true, Bool.or_self, Bool.false_eq_true,
        ↓reduceIte, hhigh, not_lt.2 hlow, and_false, ite_self]
      rfl
    · rw [phase_of (State.judgeBias_frame _ n _).2.2.2.1]
      simpa [State.truncateFast] using State.truncate_drive s n hm hlen
    · rw [State.judgeBias_keep Rail.truncNow (by exact fun _ _ _ => rfl)]
      simp [State.truncateFast, hn]
    · simp at hj
      simp [State.truncateFast, State.judgeBias_rail _ _ hj, hj]
    · rw [phase_of (s := s.truncate n) (by simp [State.truncateFast])]
      exact State.truncate_phase s n j hj
    · simp [State.eq_iff, State.judgeBias_other, State.truncateFast]
  · obtain ⟨hhold, hactive, hrails, hphases⟩ := State.recall_spec s hn (s.fastErr n uv) time
    refine ⟨(s.recall n (s.fastErr n uv) time).judgeBias n (s.fastErr n uv), ?_, ?_, ?_, fun j hjl hj => ?_,
      fun j hjl hj => ?_, ?_⟩
    · simp [Goes, exec, execFastErrorWord, hon, hcrowbar, hrun, hshadow, hrecall, not_lt.2 hhigh, hlow]
      rfl
    · rw [State.judgeBias_keep Rail.recallHold (by exact fun _ _ _ => rfl), hhold]
    · rw [State.judgeBias_keep Rail.active (by exact fun _ _ _ => rfl), hactive]
    · rw [State.judgeBias_rail _ _ (by simpa using hj), hrails j hjl hj]
    · rw [phase_of (s := s.recall n (s.fastErr n uv) time) (by simp), hphases j hjl hj]
    · simp [State.eq_iff, State.judgeBias_other]

/-! ### The phase count -/

/-- R196: the highest of the counts that pass the test, where it is known. -/
theorem getLast?_filter_range {p : Nat → Bool} {n k : Nat} (hk : k < n) (hp : p k = true)
    (hno : ∀ j, k < j → j < n → p j = false) : ((List.range n).filter p).getLast? = some k := by
  obtain ⟨d, rfl⟩ : ∃ d, n = k + 1 + d := ⟨n - (k + 1), by omega⟩
  have htail : (List.map (fun x => k + 1 + x) (List.range d)).filter p = [] := by
    refine List.filter_eq_nil_iff.2 fun j hj => ?_
    obtain ⟨i, hi, rfl⟩ := List.mem_map.1 hj
    simpa using hno (k + 1 + i) (by omega) (by have := List.mem_range.1 hi; omega)
  simp [List.range_add, List.range_succ, htail, hp]

theorem State.setCount_fewer {s : State} {n k : Nat} (hk : k < (s.rail n).active) :
    s.setCount n k = ((s.emit 0x0201 (railEng n) [n, (s.rail n).active, k, i32 (s.rail n).iout]).modRail n fun r => { r with
      active := k, shedSince := s.clk.tick, countChg := satInc 32 r.countChg }).applyCounts n := by
  have hclip : s.clipCount n k = (s, k) := by simp [State.clipCount, Nat.not_lt.2 (Nat.le_of_lt hk)]
  have hne : k ≠ (s.rail n).active := Nat.ne_of_lt hk
  simp [State.setCount, hclip, hne]

theorem phaseShed_holds : phaseShed := by
  intro s n k hn hon hdue hmin hdrop hk hk1 hok hnone hmin' hguard
  have hlast : ((List.range (s.rail n).active).filter fun k => 1 ≤ k && s.countOk n k).getLast? = some k :=
    getLast?_filter_range hk (by simp [hk1, hok]) fun j hkj hj => by simp [hnone j hkj hj]
  refine ⟨s.setCount n k, ?_, ?_, ?_, fun j _ hj => ?_, fun j _ hj => ?_, ?_⟩
  · simp only [Goes, exec, execPhaseShed]
    rw [if_pos (by simp [hon, hdue, hmin, hdrop]), hlast]
    simp [hmin', hguard]
  all_goals rw [State.setCount_fewer hk]
  · simp [hn]
  · simp [hn]
  · simp_all
  · simp [hj]
  · simp [State.eq_iff]

theorem recallHoldEnd_holds : recallHoldEnd := by
  intro s n hn hhold hdue
  refine ⟨(s.modRail n fun r => { r with recallHold := false, shedSince := s.clk.tick }).applyCounts n, ?_, by simp [hn],
    fun j _ hj => by simp_all, fun j _ hj => by simp [hj], by simp [State.eq_iff]⟩
  exact if_pos ⟨hhold, hdue⟩

/-- Settles O14, one row each. -/
theorem fastErrorAndShedding : Obligations.FastErrorAndShedding :=
  ⟨fastErrorWord_holds, phaseShed_holds, recallHoldEnd_holds⟩

end Sys2Proof.Machine
end

section
/-! O19: the phase latch, where a variant has fewer phases than the tables. -/

namespace Sys2Proof.Machine

open Sys2Proof.Claims

/-- A B4816, which has 16 phases (R1): every phase of the tables is rail 0's, and has shown its fault for 16 sets. -/
def latchAbsent : State :=
  { sys.variant := .b4816
    rails := List.replicate 16 { st := .steady }
    phases := List.replicate 32 { owner := 0, fltRun := 16 } }

/-- Refutes O19: on a B4816 the statement's `phaseLatch` has the phase 16, which that variant lacks (`m < s.phases.length`
is all it asks), latched off and at once left alone, since the phases of a rail are those of the variant. -/
theorem not_crowbar : ¬ Obligations.Crowbar := by
  rintro ⟨hlatch, -⟩
  obtain ⟨t, -, hlatched, -, -, -, hphases, -⟩ := hlatch latchAbsent 16 (by decide) (by decide) (by decide) (by decide)
    (by decide) (by decide) (by decide) (by decide)
  have hsame : t.phase 16 = latchAbsent.phase 16 := hphases 16 (by decide) (by decide)
  have hfree : (latchAbsent.phase 16).latched = false := by decide
  rw [hsame, hfree] at hlatched
  cases hlatched

end Sys2Proof.Machine
end

section
/-! O26: SEQ_RUN, SEQ_ABORT, SEQ_RESET_PULSE and SEQ_FAULT_ACK. -/

namespace Sys2Proof.Machine

open Sys2Proof.Claims

/-! ### A slot that other uses' completions leave alone -/

theorem completeOne_tag_ne {s : State} {j k : Nat} (h : k ≠ j) (st r : Nat) : (s.completeOne j st r).tag k = s.tag k := by
  rw [completeOne_tag, if_neg fun hj => h hj.1]

@[simp] theorem completeOne_repeats (s : State) (j st r : Nat) : (s.completeOne j st r).hif.repeats = s.hif.repeats := by
  unfold State.completeOne
  dsimp only
  split
  next => split <;> rfl
  next => rfl
/-- No descriptor repeats its run on the slot `k`, and the slot is as it was in `s`. -/
def Untouched (s : State) (k : Nat) (t : State) : Prop := (∀ p ∈ t.hif.repeats, p.2 ≠ k) ∧ t.tag k = s.tag k

theorem Untouched.complete {s t : State} {k : Nat} (h : Untouched s k t) {j : Nat} (hj : k ≠ j) (st r : Nat) :
    Untouched s k (t.complete j st r) := by
  obtain ⟨hrep, htag⟩ := h
  unfold State.complete
  extract_lets t₁ _ t₂ reps t₃
  have h₂ : t₂.hif.repeats = t.hif.repeats := completeOne_repeats t j st r
  have hreps : k ∉ reps := by
    intro hk
    obtain ⟨p, hp, hpk⟩ := List.mem_map.1 hk
    exact hrep p (h₂ ▸ (List.mem_filter.1 hp).1) hpk
  have h₃ : t₃.tag k = t₂.tag k ∧ t₃.hif.repeats = t₂.hif.repeats := by
    have hfold (l : List Nat) (u : State) (hl : k ∉ l) : (u.each l fun s r' => s.completeOne r' st r).tag k = u.tag k := by
      induction l generalizing u with
      | nil => rfl
      | cons x xs ih =>
        obtain ⟨hx, hxs⟩ : k ≠ x ∧ k ∉ xs := by simpa using hl
        exact (ih _ hxs).trans (completeOne_tag_ne hx st r)
    refine ⟨hfold reps t₂ hreps, each_inv (fun s j => s.completeOne j st r) (fun u => u.hif.repeats = t₂.hif.repeats)
      (fun u m hu => (completeOne_repeats u m st r).trans hu) reps t₂ rfl⟩
  refine ⟨fun p hp => ?_, ?_⟩
  · have hp' : p ∈ t₃.hif.repeats := (List.mem_filter.1 hp).1
    rw [h₃.2, h₂] at hp'
    exact hrep p hp'
  · exact (h₃.1.trans (completeOne_tag_ne hj st r)).trans htag
theorem Untouched.completeAll {s t : State} {k : Nat} (h : Untouched s k t) {ks : List Nat} (hks : k ∉ ks) (st r : Nat) :
    Untouched s k (t.completeAll ks st r) := by
  unfold State.completeAll State.each
  induction ks generalizing t with
  | nil => exact h
  | cons x xs ih =>
    obtain ⟨hx, hxs⟩ : k ≠ x ∧ k ∉ xs := by simpa using hks
    exact ih (h.complete hx st r) hxs
theorem Untouched.congr {s t u : State} {k : Nat} (h : Untouched s k t) (hhif : u.hif = t.hif) : Untouched s k u :=
  ⟨by rw [hhif]; exact h.1, (tag_of hhif k).trans h.2⟩

/-! ### The program that runs, ended -/

@[simp] theorem State.retirePrearm_seq' (s : State) : s.retirePrearm.seq = s.seq := by simp
theorem State.seqEnd_running (s : State) (outcome cause status : Nat) :
    (s.seqEnd outcome cause status).seq.running = false := by
  unfold State.seqEnd
  split
  next h => simpa using h
  next => simp
theorem State.seqEnd_start (s : State) (outcome cause status : Nat) :
    (s.seqEnd outcome cause status).seq.start = s.seq.start ∧
    (s.seqEnd outcome cause status).seq.forcedOff = s.seq.forcedOff := by
  unfold State.seqEnd
  split
  next => exact ⟨rfl, rfl⟩
  next => simp
theorem State.dropStart_running (s : State) (outcome status : Nat) :
    (s.dropStart outcome status).seq.running = s.seq.running ∧
    (s.dropStart outcome status).seq.forcedOff = s.seq.forcedOff := by
  unfold State.dropStart
  split
  next => dsimp only; split <;> simp
  next => exact ⟨rfl, rfl⟩
/-- R391, R392: what a request of a program leaves of the sequencer. -/
theorem State.seqRequest_spec (s : State) (p src : Nat) (slot : Option Nat) :
    (s.seqRequest p src slot).seq.start = some (p, src, slot, s.clk.tick) ∧
    (s.seqRequest p src slot).seq.running = false ∧ (s.seqRequest p src slot).seq.forcedOff = s.seq.forcedOff := by
  unfold State.seqRequest
  refine ⟨?_, ?_, ?_⟩
  · simp
  · simp [State.dropStart_running, State.seqEnd_running]
  · simp [State.dropStart_running, State.seqEnd_start]
theorem State.seqEnd_untouched {s : State} {k : Nat} (outcome cause status : Nat) (hslots : k ∉ s.seq.runSlots)
    (hrep : ∀ p ∈ s.hif.repeats, p.2 ≠ k) : Untouched s k (s.seqEnd outcome cause status) := by
  unfold State.seqEnd
  split
  next => exact ⟨hrep, rfl⟩
  next =>
    refine Untouched.completeAll (Untouched.congr (t := s) ⟨hrep, rfl⟩ ?_) hslots _ _
    simp

/-! ### The rows -/

theorem seqRun_holds : seqRun := by
  intro s k hserved d hnew hexists hbusy
  refine ⟨_, applyDesc_plain _ hserved rfl, ?_⟩
  have hop : s.seqRunOp k d = ((({ s with seq.forcedOff := false } : State).seqRequest (descIndex d) 0 (some k)).hold k).keepRun
      0x0401 (descField d 24 2) (descIndex d) k := by
    simp [State.seqRunOp, hnew, hexists, hbusy]
  obtain ⟨hstart, hrunning, hforced⟩ :=
    State.seqRequest_spec ({ s with seq.forcedOff := false } : State) (descIndex d) 0 (some k)
  rw [hop]
  refine ⟨hstart, hrunning, hforced, ?_, onlyEnds_iff.2 ?_, ?_⟩
  · rw [keepRun_tag, hold_tag]
    simpa using hserved.1
  · simp
  · simp [State.eq_iff]

theorem seqAbort_holds : seqAbort := by
  intro s k hserved hbusy hstart hslots hrep
  refine ⟨_, applyDesc_plain _ hserved rfl, ?_⟩
  have hstop : s.seqStop = s.seqEnd 4 0 stABORTED := by
    simp [State.seqStop, State.dropStart, State.seqEnd_start, hstart]
  simp only [hbusy, Bool.false_eq_true, ↓reduceIte, hstart, hstop]
  obtain ⟨-, htag⟩ := State.seqEnd_untouched 4 0 stABORTED hslots hrep
  refine ⟨?_, fun hrunning => ?_, complete_ends _ k _ _ ?_ ?_ ?_, onlyEnds_iff.2 (by simp), by simp [State.eq_iff]⟩
  · simpa using State.seqEnd_running s 4 0 stABORTED
  · simp [State.seqEnd, hrunning]
  · simpa using hserved.1
  · exact .inl (htag ▸ hserved.2.1)
  · exact htag ▸ hserved.2.2.1

/-- R412: the outputs of a pulse in the list are low. -/
theorem State.resetOuts_mask {s : State} {k e : Nat} {mask : BitVec 4} {l : List (Nat × BitVec 4 × Nat)}
    (h : s.seq.pulses = l ++ [(k, mask, e)]) : s.resetOuts.seq.rstoLow &&& mask = mask := by
  simp only [State.resetOuts, h, List.foldl_append, List.foldl_cons, List.foldl_nil]
  generalize List.foldl _ _ l = lower
  generalize (if s.seq.mrSource = true then _ else _ : BitVec 4) = mr
  generalize (if s.seq.pgood = true then _ else _ : BitVec 4) = pg
  ext i
  simp
  grind

theorem seqResetPulse_holds : seqResetPulse := by
  intro s k hserved d mask width hnew hmask hwidth hmax
  refine ⟨_, applyDesc_plain _ hserved rfl, ?_⟩
  have hop : s.seqPulseOp k d = (((({ s with seq.pulses := s.seq.pulses ++
      [(k, BitVec.ofNat 4 mask, s.clk.tick + framesMs width)] } : State).hold k).keepRun 0x0403 (descField d 28 2) 0 k)).resetOuts
      := by
    simp only [State.seqPulseOp, hnew]
    exact if_neg (by simp only [not_or]; exact ⟨hmask, hwidth, not_lt.2 hmax⟩)
  rw [hop]
  refine ⟨rfl, State.resetOuts_mask rfl, ?_, onlyEnds_iff.2 (by simp), by simp [State.eq_iff]⟩
  have htag (u : State) : u.resetOuts.tag k = u.tag k := rfl
  rw [htag, keepRun_tag, hold_tag (by exact hserved.1)]

/-- R411: the sources of a failed program and of an abort, cleared. -/
def State.seqSourcesCleared (s : State) : State :=
  { s with seq := { s.seq with failSrc := false, abortSrc := false } }

/-- R411: the RESULT of SEQ_FAULT_ACK. -/
def State.seqSources (s : State) : Nat := (if s.seq.failSrc then 16 else 0) + (if s.seq.abortSrc then 256 else 0)

theorem State.seqFaultAck_goes {s : State} {k : Nat} (hserved : Served s k 0x0404 (some fSEQ)) :
    Goes (.seqFaultAck k) s (s.seqSourcesCleared.complete k stDONE s.seqSources) :=
  applyDesc_plain (fun _ s => s.seqSourcesCleared.complete k stDONE s.seqSources) hserved rfl

theorem seqFaultAck_holds : seqFaultAck := by
  intro s k hserved
  refine ⟨s.seqSourcesCleared.complete k stDONE s.seqSources, State.seqFaultAck_goes hserved, ?_, ?_, ?_, ?_⟩
  · simp [State.seqSourcesCleared]
  · exact served_ends' (t := s.seqSourcesCleared) hserved rfl stDONE s.seqSources
  · exact onlyEnds_iff.2 (by simp [State.seqSourcesCleared])
  · simp [State.eq_iff, State.seqSourcesCleared]

/-- Settles O26, one row each. -/
theorem sequencerCommands : Obligations.SequencerCommands :=
  ⟨seqRun_holds, seqAbort_holds, seqResetPulse_holds, seqFaultAck_holds⟩

end Sys2Proof.Machine
end

section
/-! O27, O28: the power path and its battery. -/

namespace Sys2Proof.Machine

open Sys2Proof.Claims

/-! ### What the shared operations leave of the path -/

theorem hasConv_of {s t : State} (hvariant : t.sys.variant = s.sys.variant) (hphases : t.phases = s.phases) :
    t.hasConv = s.hasConv := by
  simp [State.hasConv, State.phaseIdx, hvariant, phase_of hphases]

/-- The converter's state after a change to `c`: none where no phase is its own. -/
def State.convAs (s : State) (c : ConvSt) : ConvSt := if s.hasConv then c else .none

theorem State.convTo_path (s : State) (c : ConvSt) : (s.convTo c).path = { s.path with conv := s.convAs c } := by
  unfold State.convTo
  extract_lets c'
  have hc : s.convAs c = c' := rfl
  rw [hc]
  split
  next h => rw [← h]
  next => simp
theorem State.batTo_path (s : State) (b : BatSt) (cause : Nat) : (s.batTo b cause).path = { s.path with bat := b } := by
  unfold State.batTo
  dsimp only
  split
  next h => rw [← h]
  next => split <;> simp
theorem State.pathFaults_path (s : State) : s.pathFaults.path = { s.path with fault := s.pathFaults.path.fault } := rfl
theorem State.toNoFeed_path (s : State) : s.toNoFeed.path = { s.path with
    st := .noFeed, feedGate := false, qual := 0, fault := setBit s.path.fault 8, conv := s.convAs .idle } := by
  unfold State.toNoFeed
  rw [State.convTo_path]
  rfl
/-- A battery out of service is disconnected, with no detection. -/
theorem State.batOut_path (s : State) (b : BatSt) (cause : Nat) :
    let p := (s.batOut b cause).path
    p = { s.path with
      bat := b, batDisc := false, detStep := 0, detSlots := [], st := p.st, feedGate := p.feedGate, qual := p.qual
      fault := p.fault, conv := p.conv } := by
  unfold State.batOut
  extract_lets s₁ slots src s₂ s₃ s₄
  have h₃ : s₃.path = { s.path with bat := b, batDisc := false, detStep := 0, detSlots := [] } := by
    simp [s₃, s₂, src, s₁, State.batTo_path]
  have h₄ : s₄.path = { s₃.path with
      st := s₄.path.st, feedGate := s₄.path.feedGate, qual := s₄.path.qual, fault := s₄.path.fault, conv := s₄.path.conv } := by
    unfold s₄
    repeat' split
    · rw [State.convTo_path]
    · rw [State.toNoFeed_path]
    · rfl
    · rw [State.convTo_path]
  rw [h₃] at h₄
  exact congrArg (fun q : Path => { q with fault := s₄.pathFaults.path.fault }) h₄
/-- R446: out of a hold-up a battery's loss leaves the path without supply; elsewhere the path and its gate stand. -/
theorem State.batOut_st (s : State) (b : BatSt) (cause : Nat) :
    (s.path.st = .holdup → (s.batOut b cause).path.st = .noFeed) ∧
    (s.inHoldup = false →
      (s.batOut b cause).path.st = s.path.st ∧ (s.batOut b cause).path.feedGate = s.path.feedGate) := by
  unfold State.batOut
  extract_lets s₁ slots src s₂ s₃ s₄
  have h₃ : s₃.path = { s.path with bat := b, batDisc := false, detStep := 0, detSlots := [] } := by
    simp [s₃, s₂, src, s₁, State.batTo_path]
  have hhold : s₃.inHoldup = s.inHoldup := by simp [State.inHoldup, h₃]
  change (s.path.st = .holdup → s₄.path.st = .noFeed) ∧
    (s.inHoldup = false → s₄.path.st = s.path.st ∧ s₄.path.feedGate = s.path.feedGate)
  unfold s₄
  rw [hhold]
  refine ⟨fun hst => ?_, fun hno => ?_⟩
  · simp [State.inHoldup, h₃, hst, State.toNoFeed_path]
  · rw [if_neg (by simp [hno])]
    split
    · simp [h₃]
    · simp [State.convTo_path, h₃]

/-- A detection that ends: the battery's state, with no detection under way and the path's state as it was unless a hold-up
loses its battery. -/
theorem State.detEnd_path (s : State) (b : BatSt) (cause : Nat) :
    let p := (s.detEnd b cause).path
    p = { s.path with
      bat := b, batDisc := p.batDisc, detStep := 0, detSlots := [], st := p.st, feedGate := p.feedGate, qual := p.qual
      fault := p.fault, conv := p.conv } ∧
    (b ≠ .ready → p.batDisc = false) ∧ (s.inHoldup = false → p.st = s.path.st ∧ p.feedGate = s.path.feedGate) := by
  unfold State.detEnd
  split
  next hready =>
    subst hready
    simp [State.pathFaults, State.convTo_path, State.batTo_path]
  next hother =>
    have hpath := State.batOut_path s b cause
    refine ⟨?_, fun _ => ?_, (State.batOut_st s b cause).2⟩
    · rw [hpath]
    · rw [hpath]
/-- Step 1 of a detection: the battery is in DETECT, disconnected. -/
def State.detBegin (s : State) (cause : Nat) : State :=
  { (s.batTo .detect cause).pathFaults with
    path := { (s.batTo .detect cause).pathFaults.path with batDisc := false, detStep := 1 } }

theorem State.detBegin_path (s : State) (cause : Nat) :
    ∃ fault, (s.detBegin cause).path = { s.path with bat := .detect, batDisc := false, detStep := 1, fault } := by
  refine ⟨(s.detBegin cause).path.fault, ?_⟩
  simp [State.detBegin, State.pathFaults, State.batTo_path]
theorem State.detStart_eq (s : State) (cause : Nat) :
    s.detStart cause =
      let u := s.detBegin cause
      let v := { u with path := { u.path with detStep := 2 } }
      if s.path.batMv < 3000 then u.detEnd .shorted 1
      else if s.chgVMax + 1000 < s.path.batMv then u.detEnd .opened 2
      else if v.path.st = .feed ∧ v.hasConv = true ∧ v.brake.inFloor = false then
        State.convTo { v with path := { v.path with detTick := v.clk.tick } } .precharge
      else v := by
  obtain ⟨fault, hpath⟩ := State.detBegin_path s cause
  have hmv : (s.detBegin cause).path.batMv = s.path.batMv := by rw [hpath]
  have hmax : (s.detBegin cause).chgVMax = s.chgVMax :=
    cfgf_of (by simp [State.detBegin]) (by simp [State.detBegin]) _ _ _
  rw [← hmv, ← hmax]
  rfl
/-- A detection that begins: the battery is disconnected, and the part of the path that supplies the bus is as it was
outside a hold-up. -/
theorem State.detStart_path (s : State) (cause : Nat) :
    let p := (s.detStart cause).path
    p = { s.path with
      bat := p.bat, batDisc := false, detStep := p.detStep, detSlots := p.detSlots, detTick := p.detTick, st := p.st
      feedGate := p.feedGate, qual := p.qual, fault := p.fault, conv := p.conv } ∧
    (s.inHoldup = false → p.st = s.path.st ∧ p.feedGate = s.path.feedGate) ∧
    (3000 ≤ s.path.batMv → s.path.batMv ≤ s.chgVMax + 1000 → p.bat = .detect ∧ p.detStep = 2) := by
  obtain ⟨fault, hbegin⟩ := State.detBegin_path s cause
  have hhold : (s.detBegin cause).inHoldup = s.inHoldup := by simp [State.inHoldup, hbegin]
  have hst : (s.detBegin cause).path.st = s.path.st ∧ (s.detBegin cause).path.feedGate = s.path.feedGate := by simp [hbegin]
  rw [State.detStart_eq]
  dsimp only
  split
  next hlow =>
    obtain ⟨hpath, hdisc, hsame⟩ := State.detEnd_path (s.detBegin cause) .shorted 1
    refine ⟨?_, fun hno => ⟨(hsame (hhold.trans hno)).1.trans hst.1, (hsame (hhold.trans hno)).2.trans hst.2⟩, fun h => absurd hlow (by omega)⟩
    rw [hpath, hdisc (by simp), hbegin]
  next =>
    split
    next hhigh =>
      obtain ⟨hpath, hdisc, hsame⟩ := State.detEnd_path (s.detBegin cause) .opened 2
      refine ⟨?_, fun hno => ⟨(hsame (hhold.trans hno)).1.trans hst.1, (hsame (hhold.trans hno)).2.trans hst.2⟩, fun _ h => absurd hhigh (by omega)⟩
      rw [hpath, hdisc (by simp), hbegin]
    next =>
      split
      · simp [State.convTo_path, hbegin]
      · simp [hbegin]

theorem State.searchEnd_path (s : State) (result lim tested : Nat) (sag : Int) :
    (s.searchEnd result lim tested sag).path.searching = false ∧
    (s.searchEnd result lim tested sag).path.feedGate = s.path.feedGate := by
  unfold State.searchEnd
  split
  next h => simpa using h
  next => dsimp only; split <;> simp
/-- R449: the path supplied by its feed again, whatever detection of the battery follows. -/
theorem State.toFeed_path (s : State) :
    s.toFeed.path.st = .feed ∧ s.toFeed.path.feedGate = s.path.feedGate ∧ s.toFeed.path.shortfall = false ∧
    s.toFeed.path.shedOrder = s.path.shedOrder ∧ s.toFeed.path.restoreQ = s.path.restoreQ := by
  unfold State.toFeed
  extract_lets src s₁ src' s₂ s₃ s₄
  obtain ⟨fault, conv, h₄⟩ : ∃ fault conv, s₄.path = { s.path with
      st := .feed, shortfall := false, reserve := false, qual := 0, lossPend := none, fault, conv } := by
    refine ⟨s₄.path.fault, s₄.path.conv, ?_⟩
    simp [s₄, s₃, s₂, src', s₁, src, State.convTo_path]
  split
  next =>
    obtain ⟨hpath, hsame, -⟩ := State.detStart_path s₄ 0
    obtain ⟨hst, hgate⟩ := hsame (by simp [State.inHoldup, h₄])
    refine ⟨by simp [hst, h₄], by simp [hgate, h₄], ?_, ?_, ?_⟩
    all_goals rw [hpath, h₄]
  next => simp [h₄]

/-! ### Feed loss and hand-over -/

theorem feedLoss_holds : feedLoss := by
  intro s cause feedMv time hpath hst hno hreal
  have hcond : (s.sys.variant.hasPath && (s.path.st == .feed || s.path.st == .handback) && s.path.lossPend.isNone &&
      ((cause == 1 && decide (feedMv < s.cfgf 0x6004 0 16)) || cause == 2 ||
        (cause == 3 && decide (s.cfgf 0x6004 16 16 < feedMv)))) = true := by
    simp [hpath, hst, hno]
    omega
  refine ⟨_, if_pos hcond, rfl, rfl, ?_, ?_, onlyEnds_iff.2 ?_, ?_⟩
  · split <;> simp
  · split <;> simp [State.searchEnd_path, State.convTo_path]
  · split <;> simp
  · split <;> simp [State.eq_iff]

theorem converterBoost_holds : converterBoost := by
  intro s hok hloss hconv
  refine ⟨s.convTo .boost, ?_, ?_, by simp [State.eq_iff]⟩
  · refine congrArg Host.Outcome.next (if_pos ?_)
    rcases hloss with h | h <;> simp [hok, h]
  · simp [State.convTo_path, State.convAs, hconv]

theorem handoverEnd_holds : handoverEnd := by
  intro s hst hend
  refine ⟨_, if_pos ⟨hst, by simpa using hend⟩, ?_, ?_, ?_, ?_⟩
  all_goals by_cases hband : 10 ≤ s.path.inBand <;> simp [hband, State.eq_iff]

theorem feedQualified_holds : feedQualified := by
  refine ⟨fun s hqual hst => ?_, fun s hqual hst => ?_⟩
  · refine ⟨({ s with path := { s.path with feedGate := true } } : State).toFeed.pathFaults, ?_, ?_⟩
    · exact (if_pos hqual).trans (by simp [hst])
    · obtain ⟨hfeed, hgate, hshort, -⟩ := State.toFeed_path { s with path := { s.path with feedGate := true } }
      exact ⟨hfeed, hgate, hshort, onlyEnds_iff.2 (by simp), by simp [State.eq_iff]⟩
  · refine ⟨_, (if_pos hqual).trans (by rw [hst]), ?_⟩
    refine ⟨by simp [State.convTo_path], by simp [State.convTo_path], by simp [State.convTo_path], ?_, by simp [State.eq_iff]⟩
    rw [State.convTo_path]
    exact congrArg (fun b : Bool => if b then ConvSt.rampDown else .none) (hasConv_of (s := s) (by simp) (by simp))

/-! ### Hand-back, reserve and cut-off -/

/-- R449: no load counts as shed. -/
def State.unshed (s : State) : State :=
  let u := s.each s.railIdx fun s n => s.modRail n fun r => { r with shed := false }
  u.each u.swIdx fun s n => s.modSw n fun c => { c with shed := false }

@[simp] theorem State.unshed_frame (s : State) : Frame s s.unshed (rails := True) (sws := True) := by simp [State.unshed]
@[simp] theorem State.unshed_tables (s : State) : SameTables s s.unshed := by simp [State.unshed]
@[simp] theorem State.unshed_sys (s : State) : s.unshed.sys = s.sys := by simp [State.unshed]
@[simp] theorem State.unshed_live (s : State) : s.unshed.live = s.live := by simp [State.unshed]
@[simp] theorem State.unshed_regs (s : State) : s.unshed.regs = s.regs := by simp [State.unshed]
@[simp] theorem State.unshed_pending (s : State) : s.unshed.pending = s.pending := by simp [State.unshed]
theorem State.unshed_rail (s : State) {n : Nat} (hn : n ∈ s.railIdx) : (s.unshed.rail n).shed = false := by
  by_cases hlen : n < s.rails.length
  · rw [rail_of (s := s.each s.railIdx fun s n => s.modRail n fun r => { r with shed := false }) (by simp [State.unshed])]
    exact each_modRail_est (P := fun r => r.shed = false) (f := fun _ _ r => { r with shed := false })
      (by exact fun _ _ _ => rfl) hn hlen
  · rw [rail_default (by simpa using hlen)]
theorem State.unshed_sw (s : State) {n : Nat} (hn : n ∈ s.swIdx) : (s.unshed.sw n).shed = false := by
  by_cases hlen : n < s.sws.length
  · exact each_modSw_est (P := fun c => c.shed = false) (f := fun _ _ c => { c with shed := false })
      (by exact fun _ _ _ => rfl) (by simpa [State.swIdx] using hn) (by simpa using hlen)
  · rw [sw_default (by simpa using hlen)]

/-- R449, R451: the loads that were shed wait in the order of restoring. -/
def State.handedBack (s : State) : State :=
  let u := s.emit 0x0605 11 [2, s.clk.tick - s.path.lossTick, s.path.vhold]
  let rev := s.path.shedOrder.reverse
  let q := (rev.filter fun n => u.capCls n == .e) ++ (rev.filter fun n => u.capCls n != .e)
  { u.unshed with path := { u.unshed.path with shedOrder := [], restoreQ := if u.unshed.cfgb 0x6010 9 then q else [] } }

@[simp] theorem State.handedBack_frame (s : State) :
    Frame s s.handedBack (rails := True) (sws := True) (path := True) (rcd := True) := by simp [State.handedBack]
theorem State.handedBack_path (s : State) : s.handedBack.path = { s.path with
    shedOrder := [], restoreQ := if s.cfgb 0x6010 9 then
      (s.path.shedOrder.reverse.filter fun u => s.capCls u == .e) ++
      (s.path.shedOrder.reverse.filter fun u => s.capCls u != .e) else [] } := by
  have hcls (u : Nat) (code src : Nat) (ps : List Nat) : (s.emit code src ps).capCls u = s.capCls u := by
    simp [State.capCls]
  have hcfg (code src : Nat) (ps : List Nat) : (s.emit code src ps).unshed.cfgb 0x6010 9 = s.cfgb 0x6010 9 :=
    congrArg (· == 1) (cfgf_of (by simp) (by simp) _ _ _)
  simp [State.handedBack, hcls, hcfg]

/-- R451: the search that may begin at the end of the hand-back. -/
def State.searchAgain (s : State) : State :=
  (if s.cfgb 0x6010 10 && s.searchOk && !s.path.searching then s.searchStart false else s).pathFaults

theorem State.searchAgain_path (s : State) :
    s.searchAgain.path.st = s.path.st ∧ s.searchAgain.path.shedOrder = s.path.shedOrder ∧
    s.searchAgain.path.restoreQ = s.path.restoreQ ∧ s.searchAgain = { s with path := s.searchAgain.path } := by
  unfold State.searchAgain
  split <;> simp [State.searchStart, State.pathFaults]

theorem State.handbackEnd_goes {s : State} (hst : s.path.st = .handback) (hno : s.path.lossPend = none)
    (htick : s.path.hbTick + framesMs (s.cfgf 0x6008 24 8) ≤ s.clk.tick) :
    Goes .handbackEnd s s.handedBack.toFeed.searchAgain := by
  unfold Goes exec execHandbackEnd
  dsimp only
  exact if_pos ⟨hst, hno, htick⟩

theorem handbackEnd_holds : handbackEnd := by
  intro s hst hno htick
  obtain ⟨hfeed, -, -, horder, hrestore⟩ := State.toFeed_path s.handedBack
  obtain ⟨hst', horder', hrestore', hend⟩ := State.searchAgain_path s.handedBack.toFeed
  refine ⟨_, State.handbackEnd_goes hst hno htick, hst'.trans hfeed, ?_, fun n hn => ?_, fun n hn => ?_, ?_,
    onlyEnds_iff.2 ?_, ?_⟩
  · rw [horder', horder, State.handedBack_path]
  · rw [hend]
    exact (congrArg Rail.shed (rail_of (s := s.handedBack) (by simp) n)).trans
      (State.unshed_rail _ (by simpa [State.railIdx] using hn))
  · rw [hend]
    exact (congrArg Switch.shed (sw_of (s := s.handedBack) (by simp) n)).trans
      (State.unshed_sw _ (by simpa [State.swIdx] using hn))
  · rw [hrestore', hrestore, State.handedBack_path]
  · rw [hend]
    simp
  · rw [hend]
    simp [State.eq_iff, State.handedBack]

/-- R443: the reserve noted as reached, and reported. -/
def State.reserveNoted (s : State) : State :=
  let u := s.emit 0x060B 11 [s.path.batMv, s.soc / 100, s.clk.tick - s.path.hoTick]
  { u with path := { u.path with reserve := true } }

theorem reserveReached_holds : reserveReached := by
  intro s hst hres hlow
  have hgo : Goes .reserveReached s (s.reserveNoted.floorCause 4) := by
    unfold Goes exec execReserveReached
    dsimp only
    exact if_pos ⟨hst, hres, by simpa [and_assoc] using hlow⟩
  obtain ⟨hstand, hpend, hframe⟩ := floorCause_spec s.reserveNoted 4
  refine ⟨_, hgo, ?_, ?_, fun hin => hpend (by simpa [State.reserveNoted] using hin), ?_⟩
  · simp [State.reserveNoted]
  · simp [hstand]
  · simp [State.eq_iff, State.reserveNoted]

theorem batCutoff_holds : batCutoff := by
  intro s hst hrun
  refine ⟨_, if_pos ⟨hst, hrun⟩, ?_⟩
  have hpath := State.batOut_path (s.emit 0x060C 11 [s.path.batMv, s.clk.tick - s.path.hoTick]) .cut 8
  refine ⟨?_, ?_, ?_, onlyEnds_iff.2 (by simp), by simp [State.eq_iff]⟩
  · rw [hpath]
  · rw [hpath]
  · exact (State.batOut_st _ .cut 8).1 (by simpa using hst)

/-- Settles O27, one row each. -/
theorem feedAndHandover : Obligations.FeedAndHandover :=
  ⟨feedLoss_holds, converterBoost_holds, handoverEnd_holds, feedQualified_holds, handbackEnd_holds, reserveReached_holds,
    batCutoff_holds⟩

/-! ### The battery's detection (R453-R455) -/

/-- R453: a battery found present, its gauge's past forgotten where it was missing. -/
def State.batFound (s : State) : State :=
  let u := if s.gauge.wasMissing then
      { s with gauge := { s.gauge with socValid := false, hold1 := false, wasMissing := false } } else s
  { u with path := { u.path with present := true } }

theorem batPresent_holds : batPresent := by
  intro s hhas habsent hlow
  have hgo : Goes .batPresent s (s.batFound.detStart 5) := by
    unfold Goes exec execBatPresent
    dsimp only
    exact if_pos (by simp [hhas, habsent, hlow])
  have hfound : s.batFound = { s with path := { s.path with present := true }, gauge := s.batFound.gauge } := by
    unfold State.batFound
    dsimp only
    split <;> rfl
  obtain ⟨hpath, -, hdetect⟩ := State.detStart_path s.batFound 5
  have hmax : s.batFound.chgVMax = s.chgVMax := by
    rw [hfound]
    rfl
  refine ⟨_, hgo, ?_, ?_, fun hlo hhi => hdetect ?_ ?_, onlyEnds_iff.2 ?_, ?_⟩
  · rw [hpath, hfound]
  · rw [hpath]
  · rw [hfound]
    exact hlo
  · rw [hmax, hfound]
    exact hhi
  · simp
    rw [hfound]
  · rw [hfound]
    simp [State.eq_iff]

theorem batMissing_holds : batMissing := by
  intro s hhas hbat hhigh
  refine ⟨_, if_pos (by simp [hhas, hbat, hhigh]), ?_⟩
  refine ⟨?_, ?_, ?_, onlyEnds_iff.2 (by simp), by simp [State.eq_iff]⟩
  all_goals rw [State.batOut_path]

theorem prechargeEnd_holds : prechargeEnd := by
  refine ⟨fun s hstep hconv hhas => ?_, fun s hstep hconv htick => ?_⟩
  · refine ⟨_, (if_pos ⟨hstep, hconv⟩).trans (if_pos rfl), ?_⟩
    have hhas' : ({ s with path := { s.path with
        batDisc := true, detStep := 4, detTick := s.clk.tick, detMv := s.path.batMv } } : State).hasConv = true := hhas
    simp [State.convTo_path, State.convAs, hhas', State.eq_iff]
  · refine ⟨_, (if_pos ⟨hstep, hconv⟩).trans ((if_neg (by simp)).trans (if_pos htick)), ?_⟩
    obtain ⟨hpath, hdisc, -⟩ := State.detEnd_path s .shorted 3
    refine ⟨by rw [hpath], hdisc (by simp), onlyEnds_iff.2 (by simp), by simp [State.eq_iff]⟩

theorem detectionPulseEnd_holds : detectionPulseEnd := by
  intro s hstep hconv htick
  have hgo : Goes .detectionPulseEnd s (s.detEnd (if s.path.detMv + 500 < s.path.batMv then .opened else .ready) 4) := by
    refine (if_pos ⟨hstep, hconv, htick⟩).trans ?_
    split <;> rfl
  obtain ⟨hpath, -, -⟩ := State.detEnd_path s (if s.path.detMv + 500 < s.path.batMv then .opened else .ready) 4
  exact ⟨_, hgo, by rw [hpath], by rw [hpath], onlyEnds_iff.2 (by simp), by simp [State.eq_iff]⟩

theorem periodicPulse_holds : periodicPulse := by
  intro s hper hwait hst hbat hconv hfloor hsearch hhas
  refine ⟨_, if_pos ⟨hper, hwait, hst, hbat, hconv, hfloor, hsearch⟩, ?_, by simp [State.eq_iff]⟩
  have hhas' : ({ s with path := { s.path with
      pulseWait := 0, detStep := 5, detTick := s.clk.tick, detMv := s.path.batMv } } : State).hasConv = true := hhas
  simp [State.convTo_path, State.convAs, hhas']

/-! ### Forced stops of charging (R462) -/

/-- R462: the cause of a forced stop. -/
def State.chgCause (s : State) : Nat :=
  if 10 ≤ s.path.ovRun then 1
  else if s.cfgf 0x6024 16 16 ≠ 0 ∧ framesS (60 * s.cfgf 0x6024 16 16) ≤ s.path.chgRun then 2
  else if s.path.bat ≠ .ready then 3 else 0

/-- R462: charging forced to stop. -/
def State.chgForced (s : State) : State :=
  let u := s.emit 0x0608 11 [s.chgCause, s.path.batMv, i32 (s.path.ntc.getD (-32768)), s.path.chgRun / 6000000]
  let u := { u with path := { u.path with chgOn := false, suspended := false, fault := setBit u.path.fault 6 } }
  if u.path.conv = .cc ∨ u.path.conv = .cv then u.convTo .idle else u

theorem State.chgForced_path (s : State) : ∃ conv, s.chgForced.path = { s.path with
      chgOn := false, suspended := false, fault := setBit s.path.fault 6, conv } ∧ conv ≠ .cc ∧ conv ≠ .cv := by
  refine ⟨s.chgForced.path.conv, ?_⟩
  unfold State.chgForced
  dsimp only
  split
  next =>
    refine ⟨by simp [State.convTo_path], ?_⟩
    rw [State.convTo_path, State.convAs]
    dsimp only
    split <;> simp
  next h =>
    obtain ⟨hcc, hcv⟩ := not_or.1 h
    exact ⟨by simp, hcc, hcv⟩
@[simp] theorem State.chgForced_frame (s : State) : Frame s s.chgForced (path := True) (rcd := True) := by
  simp [State.chgForced]
theorem State.chgSlotEnd_path (s : State) (status result : Nat) :
    ∃ slot, (s.chgSlotEnd status result).path = { s.path with chgSlot := slot } := by
  unfold State.chgSlotEnd
  split
  · exact ⟨none, by simp⟩
  · exact ⟨s.path.chgSlot, rfl⟩

theorem chgForcedStop_holds : chgForcedStop := by
  intro s hon hcause
  have hne : s.chgCause ≠ 0 := by
    unfold State.chgCause
    rcases hcause with h | h | h <;> (repeat' split) <;> simp_all
  have hgo : Goes .chgForcedStop s (s.chgForced.chgSlotEnd stABORTED 0x0608) := by
    unfold Goes exec execChgForcedStop
    dsimp only
    exact if_pos ⟨hon, hne⟩
  obtain ⟨conv, hpath, hcc, hcv⟩ := State.chgForced_path s
  obtain ⟨slot, hslot⟩ := State.chgSlotEnd_path s.chgForced stABORTED 0x0608
  rw [hpath] at hslot
  refine ⟨_, hgo, by rw [hslot], by rw [hslot], by rw [hslot]; exact hcc, by rw [hslot]; exact hcv, onlyEnds_iff.2 (by simp), ?_⟩
  simp [State.eq_iff, State.chgForced]

/-- Settles O28, one row each. -/
theorem battery : Obligations.Battery :=
  ⟨batPresent_holds, batMissing_holds, prechargeEnd_holds, detectionPulseEnd_holds, periodicPulse_holds, chgForcedStop_holds⟩

end Sys2Proof.Machine
end

section
/-! O32: the cap's limits, reduced and raised, and the die sensor. -/

namespace Sys2Proof.Machine

open Sys2Proof.Claims

/-! ### The limits of the loads -/

/-- A load's number: a rail's, or a channel's above 0x40. -/
def IsLoad (u : Nat) : Prop := u < 16 ∨ 0x40 ≤ u ∧ u < 0x40 + 24

theorem isLoad_of_mem {s : State} {u : Nat} (h : u ∈ s.capLoads) : IsLoad u := by
  have hrails : s.sys.variant.rails ≤ 16 := by cases s.sys.variant <;> decide
  have hsws : s.sys.variant.sws ≤ 24 := by cases s.sys.variant <;> decide
  unfold IsLoad
  rcases List.mem_append.1 h with h | h
  · have hu := List.mem_range.1 h
    omega
  · obtain ⟨n, hn, rfl⟩ := List.mem_map.1 h
    have hn := List.mem_range.1 hn
    omega
theorem setCapLim_capLimOf {s : State} (hrails : s.rails.length = 16) (hsws : s.sws.length = 24) {u v : Nat} (hu : IsLoad u)
    (hv : IsLoad v) (lim : Option Nat) : (s.setCapLim u lim).capLimOf v = if v = u then lim else s.capLimOf v := by
  unfold State.setCapLim State.capLimOf
  by_cases hu16 : u < 16 <;> by_cases hv16 : v < 16
  · rw [if_pos hu16, if_pos hv16, if_pos hv16, rail_modRail]
    by_cases hvu : v = u <;> simp [hvu, hrails, hu16]
  · have hvu : v ≠ u := by omega
    simp [hu16, hv16, hvu]
  · have hvu : v ≠ u := by omega
    simp [hu16, hv16, hvu]
  · have hlt : u - 64 < s.sws.length := by
      rcases hu with hu | hu <;> omega
    rw [if_neg hu16, if_neg hv16, if_neg hv16, sw_modSw]
    have hsub : v - 64 = u - 64 ↔ v = u := by
      rcases hu with hu | hu <;> rcases hv with hv | hv <;> omega
    by_cases hvu : v = u
    · simp [hvu, hlt]
    · simp [hvu, hsub]

/-- The limits `g` set for the loads `l`. -/
def State.setLims (s : State) (l : List Nat) (g : Nat → Option Nat) : State := s.each l fun s u => s.setCapLim u (g u)

section
variable (s : State) (l : List Nat) (g : Nat → Option Nat)

@[simp] theorem State.setLims_frame : Frame s (s.setLims l g) (rails := True) (sws := True) := by simp [State.setLims]
@[simp] theorem State.setLims_tables : SameTables s (s.setLims l g) := by simp [State.setLims]
@[simp] theorem State.setLims_sys : (s.setLims l g).sys = s.sys := by simp [State.setLims]
@[simp] theorem State.setLims_regs : (s.setLims l g).regs = s.regs := by simp [State.setLims]
@[simp] theorem State.setLims_live : (s.setLims l g).live = s.live := by simp [State.setLims]
@[simp] theorem State.setLims_pending : (s.setLims l g).pending = s.pending := by simp [State.setLims]
end

theorem State.setLims_capLimOf {s : State} (hrails : s.rails.length = 16) (hsws : s.sws.length = 24) {l : List Nat}
    (hl : ∀ u ∈ l, IsLoad u) {v : Nat} (hv : IsLoad v) (g : Nat → Option Nat) :
    (s.setLims l g).capLimOf v = if v ∈ l then g v else s.capLimOf v := by
  unfold State.setLims State.each
  induction l generalizing s with
  | nil => simp
  | cons x xs ih =>
    have hx : IsLoad x := hl x (by simp)
    rw [List.foldl_cons, ih (by simpa using hrails) (by simpa using hsws) fun u hu => hl u (by simp [hu]),
      setCapLim_capLimOf hrails hsws hx hv]
    by_cases hvx : v = x <;> by_cases hvs : v ∈ xs <;> simp [hvx, hvs] <;> simp_all
/-- A unit with another limit is the unit but for it. -/
theorem State.setLims_rail (s : State) (l : List Nat) (g : Nat → Option Nat) (n : Nat) :
    (s.setLims l g).rail n = { s.rail n with capLim := ((s.setLims l g).rail n).capLim } := by
  refine each_inv (fun s u => s.setCapLim u (g u))
    (fun t => t.rail n = { s.rail n with capLim := (t.rail n).capLim }) (fun t u ht => ?_) l s rfl
  unfold State.setCapLim
  split
  · rw [rail_modRail]
    split
    next h => rw [← h.1, ht]
    next => exact ht
  · rw [rail_modSw]
    exact ht
theorem State.setLims_sw (s : State) (l : List Nat) (g : Nat → Option Nat) (n : Nat) :
    (s.setLims l g).sw n = { s.sw n with capLim := ((s.setLims l g).sw n).capLim } := by
  refine each_inv (fun s u => s.setCapLim u (g u))
    (fun t => t.sw n = { s.sw n with capLim := (t.sw n).capLim }) (fun t u ht => ?_) l s rfl
  unfold State.setCapLim
  split
  · rw [sw_modRail]
    exact ht
  · rw [sw_modSw]
    split
    next h => rw [← h.1, ht]
    next => exact ht

/-! ### The stage -/

theorem State.capStage_cap (s : State) : s.capStage.cap = { s.cap with stage := s.capStageNow } := by
  unfold State.capStage
  dsimp only
  split
  next h => rw [h]
  next => simp
/-- The stage is not among what it is judged by. -/
theorem State.capStageNow_of {s t : State} (hsys : t.sys.variant = s.sys.variant) (hlive : t.live = s.live)
    (hrails : t.rails = s.rails) (hsws : t.sws = s.sws) (hcap : t.cap = { s.cap with stage := t.cap.stage }) :
    t.capStageNow = s.capStageNow := by
  unfold State.capStageNow State.capOver State.anyCapLim State.railIdx State.swIdx
  rw [cfgf_of hsys hlive, hsys]
  simp only [rail_of hrails, sw_of hsws]
  rw [hcap]
theorem State.capStage_stage (s : State) : s.capStage.cap.stage = s.capStage.capStageNow := by
  rw [State.capStageNow_of (s := s) (by simp [State.capStage]) (by simp [State.capStage]) (by simp) (by simp)
    (by simp [State.capStage_cap])]
  simp [State.capStage_cap]

/-! ### Reducing -/

/-- The loads of a class that the test passes. -/
def State.loadsOf (s : State) (p : Nat → Bool) (k : Cls) : List Nat := s.capLoads.filter fun u => s.capCls u == k && p u

/-- R270-R273: the class that is reduced, and its loads. -/
def State.redLoads (s : State) : Nat × List Nat :=
  if (s.loadsOf s.reducible .c).isEmpty then (1, s.loadsOf s.reducible .e) else (0, s.loadsOf s.reducible .c)

/-- The reduction of an epoch begun. -/
def State.redBegun (s : State) : State := { s with cap := { s.cap with redDue := false } }

/-- No load left to reduce: the cap is unmet. -/
def State.redUnmet (s : State) : State :=
  if s.cap.unmet then s.redBegun
  else
    let u := s.redBegun
    let u := { u with cap := { u.cap with unmet := true } }
    (u.emit 0x0F05 13 [i32 (roundQ 53 u.cap.pAvg), u.pCap, i32 (roundQ 54 (10 * u.cap.x)), u.epochNo]).capStage

/-- The loads' new limits, with the record of them. -/
def State.redSet (s : State) (cls : Nat) (l : List Nat) : State :=
  let u := s.redBegun.setLims l fun n => some (s.redBegun.reducedLim n)
  let u := { u with cap := { u.cap with redCls := cls, unmet := false } }
  (u.emit 0x0F03 13 [cls, l.length,
    ((l.map fun n => (n, s.redBegun.reducedLim n)).filter fun p => p.2 = s.redBegun.capImin p.1).length, u.epochNo]).capStage

theorem execCapReduce_eq {s : State} (hdue : s.cap.redDue = true) (hfloor : s.brake.inFloor = false) :
    exec .capReduce s = .next (if s.redLoads.2.isEmpty then s.redUnmet else s.redSet s.redLoads.1 s.redLoads.2) := by
  unfold exec execCapReduce
  rw [if_neg (by simp [hdue, hfloor])]
  have hpair : s.redLoads = s.redBegun.redLoads := rfl
  rw [hpair]
  unfold State.redUnmet State.redSet State.redLoads State.setLims State.each
  have hbegun : ({ s with cap := { s.cap with redDue := false } } : State) = s.redBegun := rfl
  have hunmet : s.redBegun.cap.unmet = s.cap.unmet := rfl
  have hof (k : Cls) : (s.redBegun.capLoads.filter fun u => s.redBegun.capCls u == k && s.redBegun.reducible u) =
    s.redBegun.loadsOf s.redBegun.reducible k := rfl
  simp only [hbegun, hof, hunmet]
  generalize s.redBegun.loadsOf s.redBegun.reducible .c = lc
  generalize s.redBegun.loadsOf s.redBegun.reducible .e = le
  cases hlc : lc.isEmpty
  · simp [hlc, List.foldl_map]
  · cases hle : le.isEmpty
    · simp [hle, List.foldl_map]
    · simp only [↓reduceIte, hle]
      split <;> rfl

theorem loadsOf_subset {s : State} {p : Nat → Bool} {k : Cls} {u : Nat} (h : u ∈ s.loadsOf p k) : u ∈ s.capLoads :=
  (List.mem_filter.1 h).1

theorem State.redUnmet_spec (s : State) :
    s.redUnmet.cap = { s.cap with redDue := false, unmet := true, stage := s.redUnmet.cap.stage } ∧
    s.redUnmet = { s with cap := s.redUnmet.cap, rcd := s.redUnmet.rcd } := by
  unfold State.redUnmet
  split
  next h => exact ⟨by simp [State.redBegun, h], by simp [State.redBegun]⟩
  next => exact ⟨by simp [State.capStage_cap, State.redBegun], by simp [State.eq_iff, State.redBegun, State.capStage]⟩
theorem State.redSet_spec (s : State) (cls : Nat) (l : List Nat) :
    (s.redSet cls l).cap = { s.cap with
      redDue := false, unmet := false, redCls := cls, stage := (s.redSet cls l).cap.stage } ∧
    (s.redSet cls l).cap.stage = (s.redSet cls l).capStageNow ∧
    (s.redSet cls l).rails = (s.redBegun.setLims l fun n => some (s.reducedLim n)).rails ∧
    (s.redSet cls l).sws = (s.redBegun.setLims l fun n => some (s.reducedLim n)).sws ∧
    s.redSet cls l = { s with
      rails := (s.redSet cls l).rails, sws := (s.redSet cls l).sws, cap := (s.redSet cls l).cap
      rcd := (s.redSet cls l).rcd } := by
  have hlim (n : Nat) : s.redBegun.reducedLim n = s.reducedLim n := rfl
  unfold State.redSet
  simp only [hlim]
  refine ⟨?_, State.capStage_stage _, by simp, by simp, ?_⟩
  · simp [State.capStage_cap, State.redBegun]
  · simp [State.eq_iff, State.redBegun, State.capStage]
/-- The limits read off the loads' tables alone. -/
theorem capLimOf_of {s t : State} (hrails : t.rails = s.rails) (hsws : t.sws = s.sws) (u : Nat) :
    t.capLimOf u = s.capLimOf u := by
  simp [State.capLimOf, rail_of hrails, sw_of hsws]

theorem capReduce_holds : capReduce := by
  intro s hshape hdue hfloor of l
  obtain ⟨hrails, -, hsws, -, -⟩ := hshape
  have hl : s.redLoads.2 = l := by
    unfold State.redLoads
    exact apply_ite Prod.snd _ _ _
  have hcls : s.redLoads.1 = if (of .c).isEmpty then 1 else 0 := by
    unfold State.redLoads
    exact apply_ite Prod.fst _ _ _
  refine ⟨_, execCapReduce_eq hdue hfloor, ?_⟩
  rw [hl, hcls]
  by_cases hempty : l = []
  · obtain ⟨hcap, hframe⟩ := State.redUnmet_spec s
    rw [if_pos (by simp [hempty])]
    refine ⟨by rw [hcap], fun hne => absurd hempty hne, fun _ => ⟨by rw [hcap], by rw [hframe], by rw [hframe]⟩,
      fun n _ => ?_, fun n _ => ?_, ?_, ?_⟩
    · rw [rail_of (s := s) (by rw [hframe])]
    · rw [sw_of (s := s) (by rw [hframe])]
    · rw [hcap]
    · rw [hframe]
  · obtain ⟨hcap, hstage, hr, hw, hframe⟩ := State.redSet_spec s (if (of .c).isEmpty then 1 else 0) l
    rw [if_neg (by simp [hempty])]
    have hload (u : Nat) (hu : u ∈ l) : IsLoad u := by
      refine isLoad_of_mem (s := s) ?_
      unfold l at hu
      split at hu <;> exact loadsOf_subset hu
    refine ⟨by rw [hcap], fun _ => ⟨fun u hu => ?_, by rw [hcap], by rw [hcap], hstage⟩, fun h => absurd h hempty,
      fun n _ => ?_, fun n _ => ?_, ?_, ?_⟩
    · rw [capLimOf_of hr hw,
        State.setLims_capLimOf (by exact hrails) (by exact hsws) hload (isLoad_of_mem hu)]
      rfl
    · rw [rail_of hr]
      exact State.setLims_rail s.redBegun l _ n
    · rw [sw_of hw]
      exact State.setLims_sw s.redBegun l _ n
    · rw [hcap]
    · rw [hframe]
/-! ### Raising -/

/-- R276: the class that is raised, and its loads. -/
def State.raiseLoads (s : State) : Nat × List Nat :=
  if (s.loadsOf (fun u => (s.capLimOf u).isSome) .e).isEmpty then (0, s.loadsOf (fun u => (s.capLimOf u).isSome) .c)
  else (1, s.loadsOf (fun u => (s.capLimOf u).isSome) .e)

/-- The raise of an epoch begun. -/
def State.raiseBegun (s : State) : State := { s with cap := { s.cap with raiseDue := false } }

/-- R276: a load's raised limit, or none where it reaches the uncapped one. -/
def State.raisedLim (s : State) (u : Nat) : Option Nat :=
  let up := (s.capLimOf u).getD 0 + roundN 55 ((s.cfgf 0x1104 8 8 : Rat) * s.uncapped u / 100)
  if s.uncapped u ≤ up then none else some up

/-- The loads' new limits, with the record of them. -/
def State.raiseSet (s : State) (cls : Nat) (l : List Nat) : State :=
  let u := s.raiseBegun.setLims l s.raiseBegun.raisedLim
  (u.emit 0x0F04 13 [cls, l.length,
    ((l.map fun n => (n, s.raiseBegun.raisedLim n)).filter fun p => p.2 = none).length, u.epochNo]).capStage

theorem execCapRaise_eq {s : State} (hdue : s.cap.raiseDue = true) (hfloor : s.brake.inFloor = false) :
    exec .capRaise s =
      .next (if s.raiseLoads.2.isEmpty then s.raiseBegun else s.raiseSet s.raiseLoads.1 s.raiseLoads.2) := by
  unfold exec execCapRaise
  rw [if_neg (by simp [hdue, hfloor])]
  have hpair : s.raiseLoads = s.raiseBegun.raiseLoads := rfl
  rw [hpair]
  unfold State.raiseSet State.raiseLoads State.setLims State.each
  have hbegun : ({ s with cap := { s.cap with raiseDue := false } } : State) = s.raiseBegun := rfl
  have hof (k : Cls) : (s.raiseBegun.capLoads.filter fun u =>
    s.raiseBegun.capCls u == k && (s.raiseBegun.capLimOf u).isSome) =
    s.raiseBegun.loadsOf (fun u => (s.raiseBegun.capLimOf u).isSome) k := rfl
  have hup (u : Nat) : (if s.raiseBegun.uncapped u ≤ (s.raiseBegun.capLimOf u).getD 0 +
      roundN 55 ((s.raiseBegun.cfgf 0x1104 8 8 : Rat) * s.raiseBegun.uncapped u / 100) then none
      else some ((s.raiseBegun.capLimOf u).getD 0 +
        roundN 55 ((s.raiseBegun.cfgf 0x1104 8 8 : Rat) * s.raiseBegun.uncapped u / 100))) = s.raiseBegun.raisedLim u := rfl
  simp only [hbegun, hof, hup]
  generalize s.raiseBegun.loadsOf (fun u => (s.raiseBegun.capLimOf u).isSome) .c = lc
  generalize s.raiseBegun.loadsOf (fun u => (s.raiseBegun.capLimOf u).isSome) .e = le
  cases hle : le.isEmpty
  · simp [hle, List.foldl_map]
  · cases hlc : lc.isEmpty
    · simp [hlc, List.foldl_map]
    · simp [hlc]

theorem State.raiseSet_spec (s : State) (cls : Nat) (l : List Nat) :
    (s.raiseSet cls l).cap = { s.cap with raiseDue := false, stage := (s.raiseSet cls l).cap.stage } ∧
    (s.raiseSet cls l).rails = (s.raiseBegun.setLims l s.raisedLim).rails ∧
    (s.raiseSet cls l).sws = (s.raiseBegun.setLims l s.raisedLim).sws ∧
    s.raiseSet cls l = { s with
      rails := (s.raiseSet cls l).rails, sws := (s.raiseSet cls l).sws, cap := (s.raiseSet cls l).cap
      rcd := (s.raiseSet cls l).rcd } := by
  have hlim : s.raiseBegun.raisedLim = s.raisedLim := rfl
  unfold State.raiseSet
  simp only [hlim]
  refine ⟨?_, by simp, by simp, ?_⟩
  · simp [State.capStage_cap, State.raiseBegun]
  · simp [State.eq_iff, State.raiseBegun, State.capStage]

theorem capRaise_holds : capRaise := by
  intro s hshape hdue hfloor of l up
  obtain ⟨hrails, -, hsws, -, -⟩ := hshape
  have hl : s.raiseLoads.2 = l := by
    unfold State.raiseLoads
    exact apply_ite Prod.snd _ _ _
  refine ⟨_, execCapRaise_eq hdue hfloor, ?_⟩
  rw [hl]
  by_cases hempty : l = []
  · rw [if_pos (by simp [hempty])]
    exact ⟨rfl, fun u _ => by simp [hempty]; rfl, fun n _ => rfl, fun n _ => rfl, rfl, rfl⟩
  · obtain ⟨hcap, hr, hw, hframe⟩ := State.raiseSet_spec s s.raiseLoads.1 l
    rw [if_neg (by simp [hempty])]
    have hload (u : Nat) (hu : u ∈ l) : IsLoad u := by
      refine isLoad_of_mem (s := s) ?_
      unfold l at hu
      split at hu <;> exact loadsOf_subset (p := fun u => (s.capLimOf u).isSome) hu
    refine ⟨by rw [hcap], fun u hu => ?_, fun n _ => ?_, fun n _ => ?_, ?_, ?_⟩
    · rw [capLimOf_of hr hw,
        State.setLims_capLimOf (by exact hrails) (by exact hsws) hload (isLoad_of_mem hu)]
      rfl
    · rw [rail_of hr]
      exact State.setLims_rail s.raiseBegun l _ n
    · rw [sw_of hw]
      exact State.setLims_sw s.raiseBegun l _ n
    · rw [hcap]
    · rw [hframe]

/-! ### The die sensor -/

theorem tsenseFailed_holds : tsenseFailed := fun s hsensor hrun =>
  ⟨_, if_pos ⟨hsensor, hrun⟩, by simp, by simp [State.eq_iff]⟩
theorem tsenseRecover_holds : tsenseRecover := fun s hsensor hrun =>
  ⟨_, if_pos ⟨hsensor, hrun⟩, by simp, by simp [State.eq_iff]⟩

/-- Settles O32, one row each. -/
theorem cappingAndThermal : Obligations.CappingAndThermal :=
  ⟨capReduce_holds, capRaise_holds, tsenseFailed_holds, tsenseRecover_holds⟩

end Sys2Proof.Machine
end

section
/-! The register list under insertion. -/

namespace Sys2Proof.Machine

open Sys2Proof.Claims

/-- An insertion leaves every other register. -/
theorem regLookup_regInsert_ne {v : Variant} {off o : Nat} (ho : o ≠ off) (w : Word) (l : List (Nat × Word)) :
    regLookup v (regInsert v off w l) o = regLookup v l o := by
  induction l with
  | nil =>
    rw [regInsert]
    split
    · rfl
    · exact if_neg (Ne.symm ho)
  | cons e rest ih =>
    rw [regInsert]
    repeat' split
    · rfl
    · rw [regLookup, if_neg (Ne.symm ho)]
    next heq _ => rw [regLookup, if_neg (heq ▸ Ne.symm ho)]
    next heq _ =>
      rw [regLookup, if_neg (Ne.symm ho), regLookup, if_neg (heq ▸ Ne.symm ho)]
    · rw [regLookup, regLookup, ih]
/-- In a canonical list the value inserted is the value read. -/
theorem regLookup_regInsert_self {v : Variant} {off : Nat} {l : List (Nat × Word)} (hcanon : regWf v l = true) (w : Word) :
    regLookup v (regInsert v off w l) off = w.toNat := by
  induction l with
  | nil =>
    rw [regInsert]
    split
    next h => exact h.symm
    · exact regLookup_head v off w []
  | cons e rest ih =>
    obtain ⟨-, hrest, htail⟩ := regWf_cons hcanon
    rw [regInsert]
    repeat' split
    next hlt h =>
      rw [h]
      exact regLookup_of_lt_head hcanon fun x hx => by cases hx; exact hlt
    · exact regLookup_head v off w _
    next heq h =>
      rw [h]
      exact regLookup_of_lt_head htail fun x hx => heq ▸ hrest x hx
    · exact regLookup_head v off w _
    next hne => rw [regLookup, if_neg (Ne.symm hne), ih htail]

theorem regv_of {s t : State} (hvariant : t.sys.variant = s.sys.variant) (hregs : t.regs = s.regs) (off : Nat) :
    t.regv off = s.regv off := by
  simp [State.regv, hvariant, hregs]

end Sys2Proof.Machine
end

section
/-! O36, O37: rings, through their registers and through descriptors. -/

namespace Sys2Proof.Machine

open Sys2Proof.Claims

/-! ### What a ring's operations may change -/

/-- The record, the rings and what an event signals are all that may differ. -/
def RingWork (s t : State) : Prop :=
  t = { s with
    rcd := t.rcd
    hif := { s.hif with rings := t.hif.rings, event := t.hif.event, posted := t.hif.posted, vecPend := t.hif.vecPend } }

theorem RingWork.refl (s : State) : RingWork s s := rfl
theorem RingWork.trans {a b c : State} (hab : RingWork a b) (hbc : RingWork b c) : RingWork a c := by
  unfold RingWork at *
  rw [hab] at hbc
  exact hbc
/-- The record and the rings are all that may differ: nothing is signalled. -/
def RingQuiet (s t : State) : Prop := t = { s with rcd := t.rcd, hif := { s.hif with rings := t.hif.rings } }

theorem RingQuiet.trans {a b c : State} (hab : RingQuiet a b) (hbc : RingQuiet b c) : RingQuiet a c := by
  unfold RingQuiet at *
  rw [hab] at hbc
  exact hbc
theorem RingQuiet.work {s t : State} (h : RingQuiet s t) : RingWork s t := by
  unfold RingQuiet RingWork at *
  rw [h]
theorem modRing_quiet (s : State) (r : Nat) (f : Ring → Ring) : RingQuiet s (s.modRing r f) := rfl
theorem emit_quiet (s : State) (code src : Nat) (ps : List Nat) : RingQuiet s (s.emit code src ps) := by
  simp [RingQuiet, State.eq_iff]
theorem modRing_work (s : State) (r : Nat) (f : Ring → Ring) : RingWork s (s.modRing r f) := rfl
theorem emit_work (s : State) (code src : Nat) (ps : List Nat) : RingWork s (s.emit code src ps) := by
  simp [RingWork, State.eq_iff]
theorem signal_work (s : State) (vec : Nat) : RingWork s (s.signal vec) := by
  unfold State.signal
  repeat' split
  all_goals rfl
theorem hifEvent_work (s : State) (b : Nat) : RingWork s (s.hifEvent b) := by
  unfold State.hifEvent
  split
  · rfl
  · dsimp only
    split
    · exact RingWork.trans (b := { s with hif := { s.hif with event := setBit s.hif.event b } }) rfl (signal_work _ _)
    · rfl

/-! ### What a ring reads as -/

theorem ring_of_rings {s t : State} (h : t.hif.rings = s.hif.rings) (j : Nat) : t.ring j = s.ring j := by
  simp [State.ring, h]
@[simp] theorem ring_emit (s : State) (code src : Nat) (ps : List Nat) (j : Nat) : (s.emit code src ps).ring j = s.ring j :=
  ring_of (by simp) j
theorem signal_rings (s : State) (vec : Nat) : (s.signal vec).hif.rings = s.hif.rings := by
  unfold State.signal
  repeat' split
  all_goals rfl
theorem hifEvent_rings (s : State) (b : Nat) : (s.hifEvent b).hif.rings = s.hif.rings := by
  unfold State.hifEvent
  split
  · rfl
  · dsimp only
    split
    · exact signal_rings _ _
    · rfl
@[simp] theorem ring_hifEvent (s : State) (b j : Nat) : (s.hifEvent b).ring j = s.ring j := ring_of_rings (hifEvent_rings s b) j

/-- A change of the ring `r` alone, among the rings. -/
def RingsAlone (r : Nat) (s t : State) : Prop := RingWork s t ∧ RingsBut [r] s t

theorem RingsBut.trans {a b c : State} {l : List Nat} (hab : RingsBut l a b) (hbc : RingsBut l b c)
    (hlen : b.hif.rings.length = a.hif.rings.length) : RingsBut l a c := fun j hj hjl =>
  (hbc j (hlen ▸ hj) hjl).trans (hab j hj hjl)

section
variable {s : State} {r : Nat}

theorem ringTo_ring (hr : r < s.hif.rings.length) (st : RSt) (source : Nat) :
    (s.ringTo r st source).ring r = { s.ring r with st := st } := by
  simp [State.ringTo, hr]
theorem ringTo_ring_ne {j : Nat} (hj : j ≠ r) (st : RSt) (source : Nat) : (s.ringTo r st source).ring j = s.ring j := by
  simp [State.ringTo, hj]
theorem ringTo_quiet (st : RSt) (source : Nat) : RingQuiet s (s.ringTo r st source) :=
  (modRing_quiet s r _).trans (emit_quiet _ _ _ _)
theorem ringTo_work (st : RSt) (source : Nat) : RingWork s (s.ringTo r st source) := (ringTo_quiet st source).work
@[simp] theorem ringPlaced_modRing (f : Ring → Ring) (g : Ring) : (s.modRing r f).ringPlaced g = s.ringPlaced g := rfl
@[simp] theorem ringPlaced_ringTo (st : RSt) (source : Nat) (g : Ring) :
    (s.ringTo r st source).ringPlaced g = s.ringPlaced g := by
  simp [State.ringTo, State.ringPlaced, State.inWindow]

theorem ringError_ring (hr : r < s.hif.rings.length) (cause info : Nat) :
    ((s.ringError r cause info).ring r).st = .error ∧ ((s.ringError r cause info).ring r).errCause = cause := by
  simp [State.ringError, hr]
theorem ringError_ring_ne {j : Nat} (hj : j ≠ r) (cause info : Nat) : (s.ringError r cause info).ring j = s.ring j := by
  simp [State.ringError, hj]
theorem ringError_work (cause info : Nat) : RingWork s (s.ringError r cause info) :=
  ((modRing_work s r _).trans (emit_work _ _ _ _)).trans (hifEvent_work _ _)

/-- R569: a ring put in use with the configuration `g`, empty. -/
def Ring.enabled (g : Ring) : Ring :=
  { g with
    st := .active, errCause := 0, errInfo := 0, phase := true, prod := 0, cons := 0, taken := 0, written := 0
    unsig := 0, unsigTick := 0, recentW := [], tkLeft := 0 }

theorem ringEnableWith_placed (hr : r < s.hif.rings.length) {g : Ring} (hplaced : s.ringPlaced g = true) (source : Nat) :
    (s.ringEnableWith r g source).ring r = g.enabled := by
  unfold State.ringEnableWith
  dsimp only
  rw [if_pos (by simpa using hplaced), ringTo_ring (by simpa using hr)]
  simp [hr, Ring.enabled]
theorem ringEnableWith_unplaced (hr : r < s.hif.rings.length) {g : Ring} (hplaced : s.ringPlaced g = false) (source : Nat) :
    ((s.ringEnableWith r g source).ring r).st = .error ∧ ((s.ringEnableWith r g source).ring r).errCause = 3 := by
  unfold State.ringEnableWith
  dsimp only
  rw [if_neg (by simp [hplaced])]
  exact ringError_ring (by simpa using hr) _ _
theorem ringEnableWith_ring_ne {j : Nat} (hj : j ≠ r) (g : Ring) (source : Nat) :
    (s.ringEnableWith r g source).ring j = s.ring j := by
  unfold State.ringEnableWith
  dsimp only
  split
  · simp [ringTo_ring_ne, hj]
  · simp [ringError_ring_ne, ringTo_ring_ne, hj]
theorem ringEnableWith_work (g : Ring) (source : Nat) : RingWork s (s.ringEnableWith r g source) := by
  unfold State.ringEnableWith
  dsimp only
  split
  · exact (modRing_work s r _).trans (ringTo_work _ _)
  · exact ((modRing_work s r _).trans (ringTo_work _ _)).trans (ringError_work _ _)

theorem ringDisable_ring (hr : r < s.hif.rings.length) (hon : (s.ring r).st ≠ .disabled) (source : Nat) :
    (s.ringDisable r source).ring r =
      { s.ring r with st := .disabled, errCause := 0, errInfo := 0, prod := 0, cons := 0, unsig := 0 } := by
  simp [State.ringDisable, hon, ringTo_ring hr, hr]
theorem ringDisable_ring_ne {j : Nat} (hj : j ≠ r) (source : Nat) : (s.ringDisable r source).ring j = s.ring j := by
  unfold State.ringDisable
  split
  · rfl
  · simp [ringTo_ring_ne, hj]
theorem ringDisable_quiet (source : Nat) : RingQuiet s (s.ringDisable r source) := by
  unfold State.ringDisable
  split
  · rfl
  · exact (ringTo_quiet _ _).trans (modRing_quiet _ _ _)

theorem ringReset_ring (hr : r < s.hif.rings.length) (hon : (s.ring r).st ≠ .disabled) (source : Nat) :
    (s.ringReset r source).ring r = { s.ring r with
      st := .active, errCause := 0, errInfo := 0, phase := true, prod := 0, cons := 0, unsig := 0, recentW := []
      tkLeft := 0 } := by
  unfold State.ringReset
  dsimp only
  rw [if_neg hon]
  split
  next hact => simp [hr, ← hact]
  next => simp [ringTo_ring, hr]
theorem ringReset_ring_ne {j : Nat} (hj : j ≠ r) (source : Nat) : (s.ringReset r source).ring j = s.ring j := by
  unfold State.ringReset
  split
  · rfl
  · dsimp only
    split
    · simp [hj]
    · simp [ringTo_ring_ne, hj]
theorem ringReset_disabled (hoff : (s.ring r).st = .disabled) (source : Nat) : s.ringReset r source = s := if_pos hoff
theorem ringReset_quiet (source : Nat) : RingQuiet s (s.ringReset r source) := by
  unfold State.ringReset
  split
  · rfl
  · dsimp only
    split
    · exact modRing_quiet _ _ _
    · exact (ringTo_quiet _ _).trans (modRing_quiet _ _ _)

/-! ### Enabling, disabling and resetting through the registers -/

theorem ringCtrl_ring_ne {j : Nat} (hj : j ≠ r) (en : Bool) : (s.ringCtrl r en).ring j = s.ring j := by
  unfold State.ringCtrl
  dsimp only
  repeat' split
  · rfl
  · exact ring_emit ..
  · exact ringEnableWith_ring_ne hj _ _
  · exact ring_emit ..
  · exact ringDisable_ring_ne hj _
theorem ringCtrl_work (en : Bool) : RingWork s (s.ringCtrl r en) := by
  unfold State.ringCtrl
  dsimp only
  repeat' split
  · exact RingWork.refl s
  · exact emit_work ..
  · exact ringEnableWith_work ..
  · exact emit_work ..
  · exact (ringDisable_quiet _).work

/-- R596, R605: the ring after a write of RING_CTRL that the lock lets through. -/
def State.ringCtrlDone (s : State) (r : Nat) (w : Word) : State :=
  let u := s.ringCtrl r (w.getLsbD 0)
  if w.getLsbD 1 then u.ringReset r 0 else u

theorem ringCtrlDone_ring_ne {j : Nat} (hj : j ≠ r) (w : Word) : (s.ringCtrlDone r w).ring j = s.ring j := by
  unfold State.ringCtrlDone
  dsimp only
  split
  · rw [ringReset_ring_ne hj, ringCtrl_ring_ne hj]
  · rw [ringCtrl_ring_ne hj]
theorem ringCtrlDone_work (w : Word) : RingWork s (s.ringCtrlDone r w) := by
  unfold State.ringCtrlDone
  dsimp only
  split
  · exact (ringCtrl_work _).trans (ringReset_quiet 0).work
  · exact ringCtrl_work _
theorem ringCtrl_enables (hoff : (s.ring r).st = .disabled) : s.ringCtrl r true =
    if s.ringRefused (s.ringRegs r (s.ring r)) then s.emit 0x0903 14 [r, 0, 0, 3]
    else s.ringEnableWith r (s.ringRegs r (s.ring r)) 0 := by
  simp [State.ringCtrl, hoff]
theorem ringCtrl_disables (hon : (s.ring r).st ≠ .disabled) : s.ringCtrl r false =
    if s.ringDeleteCause r ≠ 0 then s.emit 0x0903 14 [r, (s.ring r).st.code, (s.ring r).st.code, 3]
    else s.ringDisable r 0 := by
  simp [State.ringCtrl, hon]

theorem ringEnable_goes (w : Word) (hr : r < 64) (hready : s.isReady fRING = true) (hlink : s.sys.linkUp = true)
    (hfree : s.ringLocked r = false) : Goes (.ringEnable r w) s (s.ringCtrlDone r w) := by
  have hlock : (s.ringCtrl r (w.getLsbD 0)).ringLocked r = false := by
    simpa [State.ringLocked] using hfree
  refine (if_pos (by simp [hready, hlink, hr])).trans ((if_neg (by simp [hfree])).trans (congrArg Host.Outcome.next ?_))
  rw [hlock, Bool.not_false, Bool.and_true]
  rfl
theorem ringEnable_locked (w : Word) (hr : r < 64) (hready : s.isReady fRING = true) (hlink : s.sys.linkUp = true)
    (hlock : s.ringLocked r = true) : ∃ t, Goes (.ringEnable r w) s t ∧ t = { s with rcd := t.rcd } := by
  by_cases hsame : w.getLsbD 0 = ((s.ring r).st != .disabled)
  · refine ⟨s, ?_, rfl⟩
    refine (if_pos (by simp [hready, hlink, hr])).trans ((if_neg (by rw [hsame]; simp)).trans ?_)
    have hkeep : s.ringCtrl r (w.getLsbD 0) = s := if_pos hsame
    rw [hkeep]
    dsimp only
    rw [hlock]
    simp
  · refine ⟨_, (if_pos (by simp [hready, hlink, hr])).trans (if_pos ?_), by simp [State.writeDenied, State.eq_iff]⟩
    rw [hlock, Bool.true_and]
    simpa using hsame

end

theorem ringEnable_holds : ringEnable := by
  intro s r w hshape hr hready hlink g on
  have hrlen : r < s.hif.rings.length := by
    obtain ⟨-, -, -, hrings, -⟩ := hshape
    omega
  cases hlock : s.ringLocked r
  · refine ⟨_, ringEnable_goes w hr hready hlink hlock, by simp, fun _ hoff hen href => ?_, fun _ hoff hen href hplaced => ?_,
      fun _ hoff hen href hplaced => ?_, fun _ hon hdis hcause => ?_, fun _ hon hdis hcause => ?_,
      fun j _ hj => ringCtrlDone_ring_ne (by simpa using hj) w, ringCtrlDone_work w⟩
    all_goals unfold State.ringCtrlDone
    · have hst : (s.ring r).st = .disabled := by simpa [on] using hoff
      have hctrl := (ringCtrl_enables hst).trans (if_pos href)
      rw [hen, hctrl]
      have hreset : (s.emit 0x0903 14 [r, 0, 0, 3]).ringReset r 0 = s.emit 0x0903 14 [r, 0, 0, 3] :=
        ringReset_disabled (by simpa using hst) 0
      dsimp only
      rw [hreset, ite_self]
      simp [State.eq_iff]
    · have hst : (s.ring r).st = .disabled := by simpa [on] using hoff
      have hctrl := (ringCtrl_enables hst).trans (if_neg (by simpa using href))
      have hring := ringEnableWith_placed hrlen hplaced 0
      rw [hen, hctrl]
      dsimp only
      split
      · rw [ringReset_ring (by simpa using hrlen) (by rw [hring]; simp [Ring.enabled]), hring]
        rfl
      · exact hring
    · have hst : (s.ring r).st = .disabled := by simpa [on] using hoff
      subst hen
      have h0 : (1 : Word).getLsbD 0 = true := by decide
      have h1 : (1 : Word).getLsbD 1 = false := by decide
      have hctrl := (ringCtrl_enables hst).trans (if_neg (by simpa using href))
      rw [h0, h1, hctrl]
      exact ringEnableWith_unplaced hrlen hplaced 0
    · have hst : (s.ring r).st ≠ .disabled := by simpa [on] using hon
      have hctrl := (ringCtrl_disables hst).trans (if_neg (by simpa using hcause))
      have hring := ringDisable_ring hrlen hst 0
      rw [hdis, hctrl]
      dsimp only
      rw [ringReset_disabled (by rw [hring]), ite_self]
      exact hring
    · have hst : (s.ring r).st ≠ .disabled := by simpa [on] using hon
      subst hdis
      have h0 : (0 : Word).getLsbD 0 = false := by decide
      have h1 : (0 : Word).getLsbD 1 = false := by decide
      have hctrl := (ringCtrl_disables hst).trans (if_pos hcause)
      rw [h0, h1, hctrl]
      simp [State.eq_iff]
  · obtain ⟨t, hgo, hframe⟩ := ringEnable_locked w hr hready hlink hlock
    refine ⟨t, hgo, fun _ => hframe, by simp, by simp, by simp, by simp, by simp, fun j _ _ => ?_, ?_⟩
    · rw [hframe]
      rfl
    · rw [hframe]

theorem ringCtrlReset_holds : ringCtrlReset := by
  intro s r hshape hr hready hlink
  have hrlen : r < s.hif.rings.length := by
    obtain ⟨-, -, -, hrings, -⟩ := hshape
    omega
  refine ⟨if s.ringLocked r then s else s.ringReset r 0, ?_, ?_, ?_, fun j _ hj => ?_, ?_⟩
  · refine congrArg Host.Outcome.next ?_
    cases hlocked : s.ringLocked r <;> simp [hready, hlink, hr, hlocked]
  · rintro (hoff | hlocked)
    · rw [ringReset_disabled hoff, ite_self]
    · rw [if_pos hlocked]
  · intro hon hfree
    rw [if_neg (by simp [hfree]), ringReset_ring hrlen hon]
  · split
    · rfl
    · exact ringReset_ring_ne (by simpa using hj) 0
  · split
    · rfl
    · exact ringReset_quiet 0

/-- Settles O36, one row each. -/
theorem ringRegisters : Obligations.RingRegisters := ⟨ringEnable_holds, ringCtrlReset_holds⟩

end Sys2Proof.Machine
end

section
/-! O55: register writes, the field bridge, events and the requests of GLB_CTRL. -/

namespace Sys2Proof.Machine

open Sys2Proof.Claims

/-! ### One register -/

/-- The word a write leaves in a register: its permitted fields as written, the refused ones as they were. -/
def State.judged (s : State) (off w : Nat) : Nat :=
  judgedWord s.sys.variant off (s.regv off) w (deniedFields s.sys.variant s.sys.lock off (s.regv off) w)

theorem State.putReg_regs (s : State) (off w : Nat) :
    (s.putReg off w).regs = regInsert s.sys.variant off (BitVec.ofNat 32 (s.judged off w)) s.regs := by
  unfold State.putReg
  dsimp only
  split <;> simp [State.writeDenied, State.judged]
/-- R776: the register written reads as the judged word; every other one as before. -/
theorem State.putReg_regv {s : State} {off : Nat} (hcanon : regWf s.sys.variant s.regs = true) (w : Nat) :
    (s.putReg off w).regv off = s.judged off w % 2 ^ 32 := by
  have hvariant : (s.putReg off w).sys.variant = s.sys.variant := by simp
  rw [State.regv, State.putReg_regs, hvariant, regLookup_regInsert_self hcanon, BitVec.toNat_ofNat]
theorem State.putReg_regv_ne (s : State) {off o : Nat} (ho : o ≠ off) (w : Nat) : (s.putReg off w).regv o = s.regv o := by
  have hvariant : (s.putReg off w).sys.variant = s.sys.variant := by simp
  rw [State.regv, State.putReg_regs, hvariant, regLookup_regInsert_ne ho]
  rfl
theorem State.putReg_spec (s : State) (off w : Nat) :
    (s.putReg off w).sys = { s.sys with bridgePending := s.sys.bridgePending || isSetup off } ∧
    (deniedFields s.sys.variant s.sys.lock off (s.regv off) w = [] → (s.putReg off w).rcd = s.rcd) ∧
    s.putReg off w = { s with
      regs := (s.putReg off w).regs, rcd := (s.putReg off w).rcd, sys := (s.putReg off w).sys } := by
  unfold State.putReg
  dsimp only
  split
  next h => exact ⟨rfl, fun _ => rfl, rfl⟩
  next h => exact ⟨by simp [State.writeDenied], fun hno => absurd (by simp [hno]) h, by simp [State.eq_iff, State.writeDenied]⟩


/-- A write of a TEST register with the unit unlocked. -/
theorem State.putTest_spec {s : State} (off w : Nat) (hunlocked : s.maint.unlocked = true) :
    (s.putTest off w).regs = (s.putReg off w).regs ∧ (s.putTest off w).sys = (s.putReg off w).sys ∧
    s.putTest off w = { s with
      regs := (s.putTest off w).regs, rcd := (s.putTest off w).rcd, sys := (s.putTest off w).sys
      maint := { s.maint with lfsr := (s.putTest off w).maint.lfsr } } := by
  obtain ⟨-, -, hframe⟩ := State.putReg_spec s off w
  unfold State.putTest
  dsimp only
  rw [if_neg (by simp [hunlocked])]
  generalize s.putReg off w = u at hframe
  rw [hframe]
  repeat' split
  all_goals simp [State.eq_iff]

/-! ### A write to BAR0 -/

/-- The parts of the state a write to BAR0 may change, below the vectors' table. -/
def BarWrite (s t : State) : Prop :=
  t = { s with
    regs := t.regs, rcd := t.rcd, sys := { s.sys with bridgePending := t.sys.bridgePending }
    hif := { s.hif with scratch := t.hif.scratch }, maint := { s.maint with lfsr := t.maint.lfsr } }

theorem State.putReg_barWrite (s : State) (off w : Nat) : BarWrite s (s.putReg off w) := by
  obtain ⟨hsys, -, hframe⟩ := State.putReg_spec s off w
  unfold BarWrite
  rw [hsys] at hframe ⊢
  exact hframe.trans (by rw [hframe])

section
variable {s : State} {off : Nat} {w : Word}

theorem State.putAny_none (hoff : off < 0x10000) (hnone : regFields s.sys.variant off = []) : s.putAny off w = s := by
  unfold State.putAny
  rw [if_neg (by omega), if_pos (by simp [hnone])]
theorem State.putAny_ring (hsome : regFields s.sys.variant off ≠ []) (hring : 0x8000 ≤ off ∧ off < 0x9000) :
    s.putAny off w = s.putRing off w.toNat := by
  unfold State.putAny
  rw [if_neg (by omega), if_neg (by simpa using hsome), if_neg (by omega), if_pos hring]
theorem State.putAny_test (hsome : regFields s.sys.variant off ≠ []) (htest : 0xE000 ≤ off ∧ off < 0xF000) :
    s.putAny off w = s.putTest off w.toNat := by
  unfold State.putAny
  rw [if_neg (by omega), if_neg (by simpa using hsome), if_neg (by omega), if_neg (by omega), if_pos htest]
/-- Any other register takes the judged word; GLB_SCRATCH is kept besides. -/
theorem State.putAny_plain (hoff : off < 0x10000) (hsome : regFields s.sys.variant off ≠ [])
    (hring : ¬ (0x8000 ≤ off ∧ off < 0x9000)) (htest : ¬ (0xE000 ≤ off ∧ off < 0xF000)) :
    ∃ scratch, s.putAny off w =
      { s.putReg off w.toNat with hif := { (s.putReg off w.toNat).hif with scratch := scratch } } := by
  unfold State.putAny
  rw [if_neg (by omega), if_neg (by simpa using hsome), if_neg hring, if_neg htest]
  split
  · exact ⟨w, rfl⟩
  · exact ⟨_, rfl⟩
end

theorem State.putRing_disabled {s : State} {off : Nat} (w : Nat) (h : (s.ring ((off - 0x8000) / 0x40)).st = .disabled) :
    s.putRing off w = s.putReg off w := by
  simp [State.putRing, h]
theorem State.putRing_cases (s : State) (off w : Nat) :
    s.putRing off w = s.putReg off w ∨ ∃ ps, s.putRing off w = s.emit 0x0903 14 ps := by
  unfold State.putRing
  dsimp only
  split
  · exact .inr ⟨_, rfl⟩
  · exact .inl rfl
theorem State.putTest_locked {s : State} (off w : Nat) (hlocked : s.maint.unlocked = false) : s.putTest off w = s := by
  simp [State.putTest, hlocked]

theorem State.putAny_others (s : State) {off : Nat} (w : Word) (hoff : off < 0x10000) :
    (∀ o, o ≠ off → (s.putAny off w).regv o = s.regv o) ∧ BarWrite s (s.putAny off w) := by
  by_cases hsome : regFields s.sys.variant off = []
  · rw [State.putAny_none hoff hsome]
    exact ⟨fun _ _ => rfl, rfl⟩
  by_cases hring : 0x8000 ≤ off ∧ off < 0x9000
  · rw [State.putAny_ring hsome hring]
    rcases State.putRing_cases s off w.toNat with h | ⟨ps, h⟩
    · rw [h]
      exact ⟨fun o ho => State.putReg_regv_ne s ho _, State.putReg_barWrite s off _⟩
    · rw [h]
      exact ⟨fun o _ => regv_of (by simp) (by simp) o, by simp [BarWrite, State.eq_iff]⟩
  by_cases htest : 0xE000 ≤ off ∧ off < 0xF000
  · rw [State.putAny_test hsome htest]
    cases hun : s.maint.unlocked
    · rw [State.putTest_locked off _ hun]
      exact ⟨fun _ _ => rfl, rfl⟩
    · obtain ⟨hregs, hsys, hframe⟩ := State.putTest_spec off w.toNat hun
      refine ⟨fun o ho => ?_, ?_⟩
      · rw [regv_of (by rw [hsys]) hregs, State.putReg_regv_ne s ho]
      · rw [(State.putReg_spec s off w.toNat).1] at hsys
        have hhif : (s.putTest off w.toNat).hif = s.hif := by rw [hframe]
        exact hframe.trans (by rw [hsys, hhif])
  · obtain ⟨scratch, h⟩ := State.putAny_plain (w := w) hoff hsome hring htest
    obtain ⟨-, -, hframe⟩ := State.putReg_spec s off w.toNat
    have hbar := State.putReg_barWrite s off w.toNat
    rw [h]
    refine ⟨fun o ho => State.putReg_regv_ne s ho _, ?_⟩
    generalize s.putReg off w.toNat = u at hbar
    unfold BarWrite at *
    rw [hbar]

/-! ### The vectors' table (R558) -/

theorem State.putMsix_mask (s : State) (vec : Nat) (w : Word) : s.putMsix (16 * vec + 12) w =
    if w.getLsbD 0 then { s with hif := { s.hif with vecMask := setBit s.hif.vecMask vec } }
    else State.sendPending { s with hif := { s.hif with vecMask := clearBit s.hif.vecMask vec } } := by
  have hdiv : (16 * vec + 12) / 16 = vec := by omega
  have hmod : (16 * vec + 12) % 16 / 4 = 3 := by omega
  unfold State.putMsix
  rw [hdiv, hmod]
  rfl
theorem State.putMsix_data (s : State) (vec : Nat) (w : Word) : s.putMsix (16 * vec + 8) w =
    { s with hif := { s.hif with msixTab := s.hif.msixTab.set vec (s.hif.msixTab.getD vec 0 &&&
      ~~~(BitVec.ofNat 96 (0xFFFFFFFF * 2 ^ 64)) ||| BitVec.ofNat 96 (w.toNat * 2 ^ 64)) } } := by
  have hdiv : (16 * vec + 8) / 16 = vec := by omega
  have hmod : (16 * vec + 8) % 16 / 4 = 2 := by omega
  unfold State.putMsix
  rw [hdiv, hmod]
  rfl
/-- A word put in the place of a table entry's third. -/
theorem putThird (old : BitVec 96) (w : Word) :
    let x := old &&& ~~~(BitVec.ofNat 96 (0xFFFFFFFF * 2 ^ 64)) ||| BitVec.ofNat 96 (w.toNat * 2 ^ 64)
    x.extractLsb' 64 32 = w ∧ x.extractLsb' 0 64 = old.extractLsb' 0 64 := by
  obtain ⟨keep, hkeep, hbit⟩ : ∃ keep : BitVec 96, ~~~(BitVec.ofNat 96 (0xFFFFFFFF * 2 ^ 64)) = keep ∧
      ∀ i, keep.getLsbD i = decide (i < 64) := by
    refine ⟨BitVec.ofNat 96 (2 ^ 64 - 1), by decide, fun i => ?_⟩
    rw [BitVec.getLsbD_ofNat, Nat.testBit_two_pow_sub_one]
    by_cases hi : i < 64
    · simp [hi, show i < 96 by omega]
    · simp [hi]
  have hword : BitVec.ofNat 96 (w.toNat * 2 ^ 64) = w.setWidth 96 <<< 64 := by
    apply BitVec.eq_of_toNat_eq
    simp [Nat.shiftLeft_eq]
  intro x
  simp only [x, hkeep, hword]
  refine ⟨?_, ?_⟩
  · ext i hi
    have hout : keep.getLsbD (64 + i) = false := by rw [hbit]; simp
    simp [hi, hout]
    rw [decide_eq_true (by omega : 64 + i < 96), decide_eq_true (by omega : i < 96), Bool.true_and, Bool.true_and]
  · ext i hi
    simp [hi, hbit]
theorem State.putAny_msix {s : State} {vec a : Nat} (w : Word) (hvec : vec < 64) (ha : a < 16) (ha4 : a % 4 = 0) :
    s.putAny (0x11000 + 16 * vec + a) w = s.putMsix (16 * vec + a) w := by
  unfold State.putAny
  have hsub : 0x11000 + 16 * vec + a - 0x11000 = 16 * vec + a := by omega
  rw [if_pos (by omega), hsub]

theorem registerWrite_holds : registerWrite := by
  refine ⟨?_, fun s vec w hlink hvec htab => ⟨?_, ?_⟩⟩
  · intro s off w hwf hlink hoff v no x ring test
    obtain ⟨-, hcanon, -⟩ := hwf
    have hx (u : State) (h : u.regs = (s.putReg off w.toNat).regs) (hv : u.sys.variant = s.sys.variant) :
        u.regv off = x % 2 ^ 32 := (regv_of (by simp [hv]) h off).trans (State.putReg_regv hcanon w.toNat)
    have hgo : Goes (.registerWrite off w) s (s.putAny off w) := congrArg Host.Outcome.next (if_pos hlink)
    obtain ⟨hothers, hbar⟩ := State.putAny_others s w hoff
    refine ⟨s.putAny off w, hgo, fun hnone => State.putAny_none hoff hnone, fun hsome hring htest => ?_,
      fun hsome hring hdis => ?_, fun hsome hring hen hfree => ?_, fun hsome htest hun => ?_, fun htest hlocked => ?_,
      hothers, hbar⟩
    · obtain ⟨scratch, h⟩ := State.putAny_plain (w := w) hoff hsome hring htest
      obtain ⟨hsys, hrcd, -⟩ := State.putReg_spec s off w.toNat
      rw [h]
      exact ⟨hx _ rfl (by simp), fun hset => by simp [hsys, hset], hrcd⟩
    · rw [State.putAny_ring hsome hring, State.putRing_disabled _ hdis]
      exact hx _ rfl (by simp)
    · rw [State.putAny_ring hsome hring]
      simp [State.putRing, hen, hfree, State.eq_iff]
    · rw [State.putAny_test hsome htest]
      obtain ⟨hregs, hsys, -⟩ := State.putTest_spec off w.toNat hun
      exact hx _ hregs (by simp [hsys])
    · by_cases hsome : regFields s.sys.variant off = []
      · exact State.putAny_none hoff hsome
      · rw [State.putAny_test hsome htest, State.putTest_locked _ _ hlocked]
  · refine ⟨s.putAny (0x11000 + 16 * vec + 8) w, congrArg Host.Outcome.next (if_pos hlink), ?_⟩
    rw [State.putAny_msix w hvec (by omega) (by omega), State.putMsix_data]
    obtain ⟨hword, hlow⟩ := putThird (s.hif.msixTab.getD vec 0) w
    have hlen : vec < s.hif.msixTab.length := by omega
    refine ⟨?_, ?_, fun j hj => ?_, rfl⟩
    · simpa [List.getD, hlen] using hword
    · simpa [List.getD, hlen] using hlow
    · simp [List.getD, List.getElem?_set, Ne.symm hj]
  · refine ⟨s.putAny (0x11000 + 16 * vec + 12) w, congrArg Host.Outcome.next (if_pos hlink), ?_⟩
    rw [State.putAny_msix w hvec (by omega) (by omega), State.putMsix_mask]
    split
    · exact ⟨rfl, rfl⟩
    · unfold State.sendPending
      split <;> exact ⟨rfl, rfl⟩

/-! ### The field bridge, events and the lock -/

theorem fieldForward_holds : fieldForward := fun _ hrunning => ⟨_, congrArg Host.Outcome.next (if_pos hrunning), rfl⟩
theorem fieldBridgeFlushClear_holds : fieldBridgeFlushClear := fun _ hlink =>
  ⟨_, congrArg Host.Outcome.next (if_pos hlink), rfl⟩
theorem hifEventClear_holds : hifEventClear := by
  intro s w hlink
  refine ⟨_, congrArg Host.Outcome.next (if_pos hlink), fun b hb => ?_, rfl⟩
  simp [hb]
theorem State.lockUp_spec (s : State) (source : Nat) :
    (s.lockUp source).sys = { s.sys with lock := true } ∧ (s.sys.lock = true → s.lockUp source = s) ∧
    s.lockUp source = { s with sys := (s.lockUp source).sys, rcd := (s.lockUp source).rcd } := by
  unfold State.lockUp
  split
  next h => exact ⟨by rw [← h], fun _ => rfl, rfl⟩
  next h => exact ⟨by simp, fun hlock => absurd hlock h, by simp [State.eq_iff]⟩
theorem setupLock_holds : setupLock := fun s hlink =>
  ⟨_, congrArg Host.Outcome.next (if_pos hlink), State.lockUp_spec s 0⟩

/-! ### Requests of a reset (R138, R142) -/

theorem State.askWarm_spec (s : State) (cause : Nat) :
    (s.askWarm cause).sys = { s.sys with warmPending := some cause, warmTick := s.clk.tick } ∧
    s.askWarm cause = { s with
      sys := (s.askWarm cause).sys, rails := (s.askWarm cause).rails, phases := (s.askWarm cause).phases
      sws := (s.askWarm cause).sws, seq := (s.askWarm cause).seq, tdm := (s.askWarm cause).tdm
      hif := (s.askWarm cause).hif, rcd := (s.askWarm cause).rcd } ∧
    OnlyEnds s (s.askWarm cause) := by
  unfold State.askWarm
  dsimp only
  split
  · exact ⟨rfl, rfl, rfl⟩
  · exact ⟨by simp, by simp [State.eq_iff], onlyEnds_iff.2 (by simp)⟩

theorem warmResetRequest_holds : warmResetRequest := by
  refine ⟨fun s w hlink hbit0 hbit1 hbit2 hkey hnone => ?_, fun s w hlink hbit0 hbits hkey => ?_⟩
  · have hctrl : s.ctrlWrite w = if s.running && !s.sys.recovery then s.askWarm 3 else
        { s with sys := { s.sys with warmPending := some 3, warmTick := s.clk.tick } } := by
      unfold State.ctrlWrite
      rw [hbit0, hbit1, hbit2]
      simp [hkey, hnone]
    have hgo : Goes (.warmResetRequest w) s (s.ctrlWrite w) := congrArg Host.Outcome.next (if_pos hlink)
    refine ⟨_, hgo, ?_⟩
    rw [hctrl]
    obtain ⟨hsys, hframe, hends⟩ := State.askWarm_spec s 3
    split
    next h =>
      refine ⟨by simp [hsys], by simp [hsys], hends, fun hno => ?_, hframe⟩
      rcases hno with hno | hno <;> simp [hno] at h
    next => exact ⟨rfl, rfl, rfl, fun _ => rfl, rfl⟩
  · have hctrl : s.ctrlWrite w = s.emit 0x0028 14 [w.toNat, 0, 0, 0] := by
      have hany : (w.getLsbD 1 || w.getLsbD 2) = true := by rcases hbits with h | h <;> rw [h] <;> simp
      unfold State.ctrlWrite
      rw [hbit0, hany]
      simp [hkey]
    have hgo : Goes (.warmResetRequest w) s (s.ctrlWrite w) := congrArg Host.Outcome.next (if_pos hlink)
    exact ⟨_, hgo, by rw [hctrl]; simp [State.eq_iff]⟩

theorem coldResetRequest_holds : coldResetRequest := by
  intro s w hlink hbit2 hkey
  have hgo : Goes (.coldResetRequest w) s (s.ctrlWrite w) := congrArg Host.Outcome.next (if_pos hlink)
  have hctrl : s.ctrlWrite w =
      let u := if w.getLsbD 0 then s.lockUp 0 else s
      { u with sys := { u.sys with coldPending := true } } := by
    unfold State.ctrlWrite
    rw [hbit2]
    simp [hkey]
  obtain ⟨hsys, -, hframe⟩ := State.lockUp_spec s 0
  refine ⟨_, hgo, ?_⟩
  rw [hctrl]
  generalize w.getLsbD 0 = lock
  cases lock
  · simp
  · refine ⟨by simp [hsys], ?_⟩
    simp only [↓reduceIte]
    rw [hframe]

/-- Settles O55, one row each. -/
theorem registerWrites : Obligations.RegisterWrites :=
  ⟨registerWrite_holds, fieldForward_holds, fieldBridgeFlushClear_holds, hifEventClear_holds, setupLock_holds,
    warmResetRequest_holds, coldResetRequest_holds⟩

end Sys2Proof.Machine
end

section
/-! O37: the descriptors of the rings and the windows, NOP and WALL_SET. -/

namespace Sys2Proof.Machine

open Sys2Proof.Claims

/-! ### NOP and WALL_SET -/

theorem nop_holds : nop := by
  intro s k hserved
  refine ⟨_, applyDesc_plain _ hserved rfl, served_ends hserved _ _, complete_only .., ?_⟩
  simp [State.eq_iff]

theorem wallSet_holds : wallSet := by
  intro s k hserved
  refine ⟨_, applyDesc_plain _ hserved rfl, rfl, hold_tag (by exact hserved.1), hold_tagsBut _ k, ?_⟩
  rfl

/-! ### A ring's configuration in its registers -/

theorem State.loadReg_regv {s : State} {off : Nat} (hcanon : regWf s.sys.variant s.regs = true) (w : Nat) :
    (s.loadReg off w).regv off = writeFields s.sys.variant off w % 2 ^ 32 := by
  unfold State.loadReg State.regv
  dsimp only
  rw [regLookup_regInsert_self hcanon, BitVec.toNat_ofNat]
theorem State.loadReg_regv_ne (s : State) {off o : Nat} (ho : o ≠ off) (w : Nat) : (s.loadReg off w).regv o = s.regv o :=
  regLookup_regInsert_ne ho _ _

/-- The low half of a ring's base: 20 bits above the page's 12. -/
theorem ringBase_fields (v : Variant) {r : Nat} (hr : r < 64) :
    ∃ reset acc, regFields v (ringOff r) = [⟨12, 20, reset, [], acc⟩] := by
  have hall : ∀ v : Variant, ∀ r : Fin 64, (regFields v (ringOff r)).map (fun f => (f.lo, f.w, f.ok)) = [(12, 20, [])] := by
    intro v
    cases v <;> decide
  have h := hall v ⟨r, hr⟩
  match hf : regFields v (ringOff r), h with
  | [⟨lo, w, reset, ok, acc⟩], h =>
    simp at h
    obtain ⟨rfl, rfl, rfl⟩ := h
    exact ⟨reset, acc, rfl⟩
theorem ringBase_written (v : Variant) {r b : Nat} (hr : r < 64) (hpage : b % 4096 = 0) :
    writeFields v (ringOff r) (b % 2 ^ 32) % 2 ^ 32 = b % 2 ^ 32 := by
  obtain ⟨reset, acc, hfields⟩ := ringBase_fields v hr
  simp only [writeFields, hfields, List.foldl_cons, List.foldl_nil, fieldValue, List.isEmpty_nil, Bool.true_or, ↓reduceIte]
  omega
theorem State.ringToRegs_base {s : State} {r : Nat} (hcanon : regWf s.sys.variant s.regs = true) (hr : r < 64) (h : Ring)
    (hpage : h.base % 4096 = 0) : (s.ringToRegs r h).regv (ringOff r) = h.base % 2 ^ 32 := by
  unfold State.ringToRegs
  dsimp only
  rw [State.loadReg_regv_ne _ (by omega), State.loadReg_regv_ne _ (by omega), State.loadReg_regv_ne _ (by omega),
    State.loadReg_regv hcanon, ringBase_written _ hr hpage]

/-! ### Creating a ring -/

@[simp] theorem ring_complete (s : State) (k st r j : Nat) : (s.complete k st r).ring j = s.ring j := by
  refine ring_of_rings ?_ j
  change (s.complete k st r).hif.rest.rings = s.hif.rest.rings
  rw [State.complete_rest]
@[simp] theorem regv_complete (s : State) (k st r off : Nat) : (s.complete k st r).regv off = s.regv off :=
  regv_of (by simp) (by simp) off

/-- The slot served is served still, where only rings and the record have changed. -/
theorem RingWork.ends {s t : State} {k op : Nat} {fn : Option Nat} (h : RingWork s t) (hserved : Served s k op fn)
    (st r : Nat) : Ends (t.complete k st r) k st r := by
  have htags : t.hif.tags = s.hif.tags := by rw [h]
  have htag : t.tag k = s.tag k := by rw [State.tag, htags]; rfl
  exact complete_ends t k st r (by rw [htags]; exact hserved.1) (by rw [htag]; exact .inl hserved.2.1)
    (by rw [htag]; exact hserved.2.2.1)

theorem ringCreate_holds : ringCreate := by
  intro s k hwf hserved r h hr hcause
  obtain ⟨⟨-, -, -, hrings, -⟩, hcanon, -⟩ := hwf
  refine ⟨_, applyDesc_plain _ hserved rfl, ?_⟩
  have hpage : h.base % 4096 = 0 := by
    simp only [State.ringCause] at hcause
    split_ifs at hcause with h1 h2 h3
    all_goals simp_all
  have hfresh : ¬ (2 ≤ r ∧ (s.ring r).st ≠ .disabled ∧ (s.ring r).same h = true) := by
    intro hdone
    have hone : s.ringCause r h = 1 := if_pos (.inr hdone.2.1)
    omega
  obtain ⟨u, hu⟩ : ∃ u, u = s.ringToRegs r h := ⟨_, rfl⟩
  have huhif : u.hif = s.hif := by simp [hu]
  have hulen : r < u.hif.rings.length := by rw [huhif]; omega
  have huserved (v : State) (hv : RingWork u v) (st res : Nat) : Ends (v.complete k st res) k st res := by
    have htags : v.hif.tags = s.hif.tags := by rw [hv, ← huhif]
    have htag : v.tag k = s.tag k := by rw [State.tag, htags]; rfl
    exact complete_ends v k st res (by rw [htags]; exact hserved.1) (by rw [htag]; exact .inl hserved.2.1)
      (by rw [htag]; exact hserved.2.2.1)
  have hop : s.ringCreateOp k (s.tag k).desc =
      (u.ringEnableWith r h 1).complete k stDONE (if ((u.ringEnableWith r h 1).ring r).st = .active then 0 else 1) := by
    subst hu
    unfold State.ringCreateOp
    dsimp only
    rw [if_neg hfresh, if_neg (by simpa using hcause)]
  have hwork := ringEnableWith_work (s := u) (r := r) h 1
  have hplaced : u.ringPlaced h = s.ringPlaced h := by simp [State.ringPlaced, State.inWindow, huhif]
  rw [hop]
  refine ⟨fun hin => ?_, fun hout => ?_, ?_, fun j _ hj => ?_, ?_⟩
  · have hring := ringEnableWith_placed hulen (hplaced.trans hin) 1
    have hactive : h.enabled.st = .active := rfl
    rw [hring, if_pos hactive]
    exact ⟨huserved _ hwork _ _, by rw [ring_complete, hring]; rfl⟩
  · obtain ⟨hst, herr⟩ := ringEnableWith_unplaced hulen (hplaced.trans hout) 1
    rw [hst, if_neg (by simp)]
    exact ⟨huserved _ hwork _ _, by rw [ring_complete, hst], by rw [ring_complete, herr]⟩
  · rw [regv_complete, regv_of (s := u) (by simp) (by simp), hu]
    exact State.ringToRegs_base hcanon hr h hpage
  · rw [ring_complete, ringEnableWith_ring_ne (by simpa using hj), ring_of huhif]
  · simp [State.eq_iff, hu]

/-! ### Deleting and resetting a ring -/

/-- A ring's slot ended after work that signals nothing. -/
theorem RingQuiet.completed {s t : State} (h : RingQuiet s t) (k st r : Nat) :
    (t.complete k st r).hif = { s.hif with
      rings := (t.complete k st r).hif.rings, tags := (t.complete k st r).hif.tags
      decided := (t.complete k st r).hif.decided, decLog := (t.complete k st r).hif.decLog
      discarded := (t.complete k st r).hif.discarded, runIds := (t.complete k st r).hif.runIds
      repeats := (t.complete k st r).hif.repeats } ∧
    t.complete k st r = { s with hif := (t.complete k st r).hif, rcd := (t.complete k st r).rcd } := by
  have honly : OnlyEnds t (t.complete k st r) := complete_only t k st r
  unfold OnlyEnds at honly
  refine ⟨?_, ?_⟩
  · rw [honly, h]
  · rw [h]
    simp [State.eq_iff]

theorem ringDelete_holds : ringDelete := by
  intro s k hshape hserved r hlow hr hcause
  obtain ⟨-, -, -, hrings, -⟩ := hshape
  by_cases hoff : (s.ring r).st = .disabled
  · have hgo : Goes (.ringDelete k) s (s.complete k stDONE 0) :=
      (applyDesc_plain _ hserved rfl).trans (congrArg Host.Outcome.next (if_pos ⟨hlow, hoff⟩))
    obtain ⟨hhif, hframe⟩ := RingQuiet.completed (s := s) (t := s) rfl k stDONE 0
    rw [if_pos hoff]
    exact ⟨_, hgo, by rw [ring_complete, hoff], served_ends hserved _ _, fun j _ _ => ring_complete .., hhif, hframe⟩
  · have hgo : Goes (.ringDelete k) s ((s.ringDisable r 1).complete k stDONE (s.untaken r)) :=
      (applyDesc_plain _ hserved rfl).trans (congrArg Host.Outcome.next
        ((if_neg (by simp [r] at hoff ⊢; exact fun _ => hoff)).trans (if_neg (by simpa using hcause))))
    have hquiet := ringDisable_quiet (s := s) (r := r) 1
    obtain ⟨hhif, hframe⟩ := hquiet.completed k stDONE (s.untaken r)
    rw [if_neg hoff]
    refine ⟨_, hgo, ?_, hquiet.work.ends hserved _ _, fun j _ hj => ?_, hhif, hframe⟩
    · rw [ring_complete, ringDisable_ring (by omega) hoff]
    · rw [ring_complete, ringDisable_ring_ne (by simpa using hj)]

theorem resetRing_holds : resetRing := by
  intro s k hshape hserved r hlow hr hon
  obtain ⟨-, -, -, hrings, -⟩ := hshape
  have hgo : Goes (.resetRing k) s ((s.ringReset r 1).complete k stDONE (s.untaken r)) :=
    (applyDesc_plain _ hserved rfl).trans (congrArg Host.Outcome.next (if_neg (by
      rw [not_or]
      exact ⟨Nat.not_lt.2 hlow, hon⟩)))
  have hquiet := ringReset_quiet (s := s) (r := r) 1
  obtain ⟨hhif, hframe⟩ := hquiet.completed k stDONE (s.untaken r)
  refine ⟨_, hgo, hquiet.work.ends hserved _ _, ?_, fun j _ hj => ?_, hhif, hframe⟩
  · rw [ring_complete, ringReset_ring (by omega) hon]
  · rw [ring_complete, ringReset_ring_ne (by simpa using hj)]

/-! ### A window -/

theorem wins_complete (s : State) (k st r : Nat) : (s.complete k st r).hif.wins = s.hif.wins := by
  change (s.complete k st r).hif.rest.wins = s.hif.rest.wins
  rw [State.complete_rest]

/-- R561: the active rings that no window holds. -/
def State.strayRings (s : State) : List Nat :=
  (List.range 64).filter fun r => (s.ring r).st == .active && !s.ringPlaced (s.ring r)

theorem windowCheck_work (s : State) : RingWork s s.windowCheck.1 :=
  each_inv (fun s r => s.ringError r 3 ((s.ring r).base % 2 ^ 32)) (RingWork s)
    (fun t r ht => ht.trans (ringError_work 3 _)) s.strayRings s (RingWork.refl s)
theorem windowCheck_stray {s : State} (hrings : s.hif.rings.length = 64) {r : Nat} (hr : r ∈ s.strayRings) :
    (s.windowCheck.1.ring r).st = .error ∧ (s.windowCheck.1.ring r).errCause = 3 := by
  have hlt : r < 64 := List.mem_range.1 (List.mem_filter.1 hr).1
  have herror : s.windowCheck.1.hif.rings.length = 64 ∧
      (s.windowCheck.1.ring r).st = .error ∧ (s.windowCheck.1.ring r).errCause = 3 := by
    refine each_est (fun s r => s.ringError r 3 ((s.ring r).base % 2 ^ 32))
      (fun t => t.hif.rings.length = 64 ∧ (t.ring r).st = .error ∧ (t.ring r).errCause = 3)
      (fun t => t.hif.rings.length = 64) r (fun t m ht => by simpa using ht)
      (fun t ht => ⟨by simpa using ht, ringError_ring (by omega) _ _⟩) (fun t m ht => ⟨by simpa using ht.1, ?_⟩) s.strayRings
      hr s hrings
    by_cases hm : r = m
    · subst hm
      exact ringError_ring (by omega) _ _
    · rw [ringError_ring_ne hm]
      exact ht.2
  exact herror.2
theorem windowCheck_others (s : State) {r : Nat} (hr : r ∉ s.strayRings) : s.windowCheck.1.ring r = s.ring r := by
  have hone (l : List Nat) (t : State) (hl : r ∉ l) :
      (t.each l fun s r => s.ringError r 3 ((s.ring r).base % 2 ^ 32)).ring r = t.ring r := by
    induction l generalizing t with
    | nil => rfl
    | cons x xs ih =>
      obtain ⟨hx, hxs⟩ : r ≠ x ∧ r ∉ xs := by simpa using hl
      exact (ih _ hxs).trans (ringError_ring_ne hx _ _)
  exact hone s.strayRings s hr

/-- R569: a window with its new span, recorded. -/
def State.windowPut (s : State) (i base pages attr : Nat) : State :=
  let u := { s with hif := { s.hif with wins := s.hif.wins.modify i fun _ =>
    { base := base, pages := pages, rd := attr % 2 == 1, wr := attr / 2 % 2 == 1 } } }
  u.emit 0x0905 14 [i, lo32 base, hi32 base, pages % 2 ^ 30 + attr % 4 * 2 ^ 30]

theorem State.windowPut_frame (s : State) (i base pages attr : Nat) :
    s.windowPut i base pages attr = { s with
      rcd := (s.windowPut i base pages attr).rcd
      hif := { s.hif with wins := s.hif.wins.modify i fun _ =>
        { base := base, pages := pages, rd := attr % 2 == 1, wr := attr / 2 % 2 == 1 } } } := by
  simp [State.windowPut, State.eq_iff]

theorem dmaWindowSet_holds : dmaWindowSet := by
  intro s k hshape hwins hserved d i base pages attr win s' bad hi hpage hspan
  obtain ⟨-, -, -, hrings, -⟩ := hshape
  obtain ⟨u, hu⟩ : ∃ u, u = s.windowPut i base pages attr := ⟨_, rfl⟩
  have hgo : Goes (.dmaWindowSet k) s ((u.windowCheck.1).complete k stDONE u.windowCheck.2) := by
    subst hu
    exact (applyDesc_plain _ hserved rfl).trans (congrArg Host.Outcome.next
      ((if_neg (not_or.2 ⟨not_not.2 hpage, not_lt.2 hspan⟩)).trans rfl))
  have huhif : u.hif = s'.hif := by rw [hu, State.windowPut_frame]
  have hurest : u = { s with hif := u.hif, rcd := u.rcd } := by
    rw [hu, State.windowPut_frame]
  have hring (j : Nat) : u.ring j = s.ring j := (ring_of huhif j).trans rfl
  have hstray : u.strayRings = bad := by
    have hplaced (g : Ring) : u.ringPlaced g = s'.ringPlaced g := by simp [State.ringPlaced, State.inWindow, huhif]
    simp [State.strayRings, hring, hplaced, bad]
  have hwork := windowCheck_work u
  have hwins' (st res : Nat) : (u.windowCheck.1.complete k st res).hif.wins = s'.hif.wins := by
    rw [wins_complete, hwork, huhif]
  have hdone (st res : Nat) : Ends (u.windowCheck.1.complete k st res) k st res := by
    have htags : u.windowCheck.1.hif.tags = s.hif.tags := by rw [hwork, huhif]
    have htag : u.windowCheck.1.tag k = s.tag k := by rw [State.tag, htags]; rfl
    exact complete_ends _ k st res (by rw [htags]; exact hserved.1) (by rw [htag]; exact .inl hserved.2.1)
      (by rw [htag]; exact hserved.2.2.1)
  have hcount : u.windowCheck.2 = bad.length := congrArg List.length hstray
  refine ⟨_, hgo, ?_, fun j hj => ?_, ?_, fun j hj => ?_, fun j hj hjb => ?_, ?_⟩
  · rw [hwins']
    simp [s', List.getD, hwins, hi]
  · rw [hwins']
    simp [s', List.getD, List.getElem?_modify, Ne.symm hj]
  · rw [hcount]
    exact hdone stDONE bad.length
  · rw [ring_complete]
    exact windowCheck_stray (by rw [huhif]; exact hrings) (hstray ▸ hj)
  · rw [ring_complete, windowCheck_others u (hstray ▸ hjb), hring]
  · rw [hwork, hurest]
    simp [State.eq_iff]

/-- Settles O37, one row each. -/
theorem ringCommands : Obligations.RingCommands :=
  ⟨nop_holds, wallSet_holds, ringCreate_holds, ringDelete_holds, resetRing_holds, dmaWindowSet_holds⟩

end Sys2Proof.Machine
end

section
/-! O38: BRAKE_TIGHTEN of a unit the register map has no limit for. -/

namespace Sys2Proof.Machine

open Sys2Proof.Claims

/-- A BRAKE_TIGHTEN (R628) of item 1, VMAX, to 5 mV, for a unit of kind 1 with the index 5,000. -/
def tightenFarDesc : RawDesc :=
  BitVec.ofNat 512 (0x0D02 + 1 * 256 ^ 3 + 5000 * 256 ^ 6 + 1 * 256 ^ 24 + 5 * 256 ^ 28)

/-- The machine that serves it, alone and running. -/
def tightenFar : State :=
  { sys.supply := .boot
    sys.booted := true
    sys.ready := setBit 0 fBRAKE
    tdm.st := .single
    hif.tags := { st := .held, desc := tightenFarDesc } :: List.replicate 127 {} }

theorem tightenFar_served : Served tightenFar 0 0x0D02 (some fBRAKE) :=
  ⟨by decide +kernel, by decide +kernel, by decide +kernel, by decide +kernel, by decide +kernel, by decide +kernel, by decide +kernel, by decide +kernel, by decide +kernel, by decide +kernel, by decide +kernel,
    .inr ⟨by decide +kernel, by decide +kernel⟩⟩

/-- The register the limit would be in lies past the map, so it reads 0 whatever is loaded. -/
theorem tightenFar_regs : (tightenFar.tightenOp 0 tightenFarDesc).regs = [] := by
  have hset : (tightenFar.setLimit 1 5000 5).regs = [] := by decide +kernel
  have hitem : descField tightenFarDesc 24 1 = 1 := by decide +kernel
  have hval : descField tightenFarDesc 28 4 = 5 := by decide +kernel
  have hindex : descIndex tightenFarDesc = 5000 := by decide +kernel
  unfold State.tightenOp
  simp only [hitem, hval, hindex]
  rw [if_neg (by decide +kernel), if_neg (by decide +kernel), if_neg (by decide +kernel)]
  simpa using hset

/-- A command goes to one state. -/
theorem Goes.unique {c : Instr} {s t u : State} (ht : Goes c s t) (hu : Goes c s u) : t = u :=
  Host.Outcome.next.inj (ht.symm.trans hu)

/-- Refutes O38: the statement's `brakeTighten` bounds the index of the unit by nothing, and a limit of an index beyond the
register map is not kept: it reads 0 where the statement has it read the value asked for. -/
theorem not_imagesAndBanks : ¬ Obligations.ImagesAndBanks := by
  rintro ⟨-, -, -, -, -, htighten⟩
  have hwf : tightenFar.wf := ⟨⟨rfl, rfl, rfl, rfl, rfl⟩, rfl, rfl⟩
  obtain ⟨t, hgo, -, hset, -⟩ := htighten tightenFar 0 hwf tightenFar_served (by decide +kernel) (by decide +kernel)
  obtain ⟨-, hvalue, -⟩ := hset (.inr (by decide +kernel)) (by decide +kernel) (by decide +kernel)
  have hrun : Goes (.brakeTighten 0) tightenFar (tightenFar.tightenOp 0 tightenFarDesc) :=
    applyDesc_plain (fun d s => s.tightenOp 0 d) tightenFar_served (by decide +kernel)
  rw [Goes.unique hgo hrun] at hvalue
  have hoff : (tightenField (descField (tightenFar.tag 0).desc 24 1) (descIndex (tightenFar.tag 0).desc)).1 = 0xC100 + 16 * 5000 := by
    decide +kernel
  have hread : (tightenFar.tightenOp 0 tightenFarDesc).regv (0xC100 + 16 * 5000) = 0 := by
    rw [State.regv, tightenFar_regs]
    have hvariant : (tightenFar.tightenOp 0 tightenFarDesc).sys.variant = .a4832 := by simp [tightenFar]
    rw [hvariant]
    decide +kernel
  rw [hoff, hread] at hvalue
  exact absurd hvalue (by decide +kernel)

end Sys2Proof.Machine
end

section
/-! O15: the mask of a rail's power-good, and a forecast entry from its speculation to its retirement. -/

namespace Sys2Proof.Machine

open Sys2Proof.Claims

@[simp] theorem Rail.entry_setEntry (r : Rail) (lead : Bool) (e : Option Fc) : (r.setEntry lead e).entry lead = e := by
  cases lead <;> rfl

theorem pgmaskEnd_holds : pgmaskEnd := by
  intro s n e hn hmask hend hdue
  refine ⟨s.modRail n fun r => { r with mask := false, maskEnd := none, qual := if r.pg then r.qual else 0 }, ?_, by simp [hn],
    fun j _ hj => by simp_all, by simp [State.eq_iff]⟩
  simp [Goes, exec, execPgmaskEnd, hend, hmask, hdue]

/-- R225, R226, R228: the entry as its speculation starts. -/
def State.specEntry (s : State) (n : Nat) (e : Fc) : Fc :=
  { e with
    spec := true, specTick := s.clk.tick, baseline := (s.rail n).iout, count := s.specCountFor n e.di
    biasOn := s.railf n 0x8C 16 8 != 0 }

theorem State.specStart_eq {s : State} {n : Nat} {lead : Bool} {e : Fc} (he : (s.rail n).entry lead = some e)
    (hdue : s.specDue n e = true) : s.specStart n lead = (s.modRail n fun r =>
      { r.setEntry lead (some (s.specEntry n e)) with specAct := satInc 32 r.specAct }).applyCounts n := by
  simp only [State.specStart, he, hdue, ↓reduceIte]
  rfl

theorem speculationStart_holds : speculationStart := by
  intro s n lead e hn he hdue
  refine ⟨s.specStart n lead, rfl, ?_, ?_, fun j _ hj => ?_, fun j _ hj => ?_, ?_⟩
  all_goals rw [State.specStart_eq he hdue]
  · rw [rail_applyCounts, rail_modRail_self _ _ _ hn]
    exact Rail.entry_setEntry ..
  · simp [hn]
  · simp_all
  · simp [hj]
  · simp [State.eq_iff]

theorem biasEnd_holds : biasEnd := by
  intro s n lead e hn he hbias hdue
  refine ⟨s.modRail n fun r => r.setEntry lead (some { e with biasOn := false }), ?_, by simp [hn], fun j _ hj => by simp_all,
    by simp [State.eq_iff]⟩
  simp [Goes, exec, execBiasEnd, he, hbias, hdue]

/-- R238: the entry gone, and counted as retired. -/
def State.entryGone (s : State) (n : Nat) (lead : Bool) (e : Fc) : State :=
  (s.modRail n fun r => { r.setEntry lead none with
    fcRet := satInc 32 r.fcRet, specUndo := if e.spec then satInc 32 r.specUndo else r.specUndo }).applyCounts n

theorem State.retireFc_eq {s : State} {n : Nat} {lead : Bool} {e : Fc} (he : (s.rail n).entry lead = some e)
    (status result : Nat) : s.retireFc n lead status result = match e.slot with
      | some k => (s.entryGone n lead e).complete k status result
      | none => s.entryGone n lead e := by
  simp only [State.retireFc, he]
  rfl
theorem State.retireFc_spec {s : State} {n : Nat} {lead : Bool} {e : Fc} (he : (s.rail n).entry lead = some e)
    (status result : Nat) :
    (s.retireFc n lead status result).rails = (s.entryGone n lead e).rails ∧
    (s.retireFc n lead status result).phases = (s.entryGone n lead e).phases := by
  rw [State.retireFc_eq he]
  split <;> simp

theorem forecastRetire_holds : forecastRetire := by
  intro s n lead e hn he hdue
  obtain ⟨hrails, hphases⟩ := State.retireFc_spec he stDONE 2
  have hgone : (s.entryGone n lead e).hif = s.hif := by simp [State.entryGone]
  refine ⟨s.retireFc n lead stDONE 2, ?_, ?_, ?_, fun k hk hlen hst hkept => ?_, fun j _ hj => ?_, fun j _ hj => ?_,
    onlyEnds_iff.2 (by simp), ?_⟩
  · simp [Goes, exec, execForecastRetire, he, hdue]
  · rw [rail_of hrails, State.entryGone, rail_applyCounts, rail_modRail_self _ _ _ hn]
    exact Rail.entry_setEntry ..
  · rw [rail_of hrails, State.entryGone, rail_applyCounts, rail_modRail_self _ _ _ hn]
  · rw [State.retireFc_eq he, hk]
    refine complete_ends _ k _ _ (by rw [hgone]; exact hlen) ?_ ?_
    · rw [tag_of hgone]
      exact .inr hst
    · rw [tag_of hgone]
      exact hkept
  · rw [rail_of hrails, State.entryGone]
    simp_all
  · rw [phase_of hphases, State.entryGone]
    simp [hj]
  · rw [State.retireFc_eq he]
    split <;> simp [State.eq_iff, State.entryGone]

/-- Settles O15, one row each. -/
theorem speculation : Obligations.Speculation :=
  ⟨pgmaskEnd_holds, speculationStart_holds, biasEnd_holds, forecastRetire_holds⟩

end Sys2Proof.Machine
end

section
/-! O41: MAINT_START and MAINT_STOP. -/

namespace Sys2Proof.Machine

open Sys2Proof.Claims

/-! ### A slot among several that end alike -/

/-- The slot has ended so, or a completion of it would end it. -/
def EndsOr (s : State) (k st r : Nat) : Prop :=
  Ends s k st r ∨ k < s.hif.tags.length ∧ ((s.tag k).st = .held ∨ (s.tag k).st = .applied) ∧ (s.tag k).discard = false

theorem EndsOr.completeOne {s : State} {k st r : Nat} (h : EndsOr s k st r) (j : Nat) : EndsOr (s.completeOne j st r) k st r := by
  rcases h with h | ⟨hk, hst, hkept⟩
  · exact .inl (h.completeOne j st r)
  · by_cases hj : k = j
    · subst hj
      exact .inl (completeOne_ends s k st r hk hst hkept)
    · have htag : (s.completeOne j st r).tag k = s.tag k := by rw [completeOne_tag, if_neg fun h => hj h.1]
      exact .inr ⟨by simpa using hk, by rw [htag]; exact hst, by rw [htag]; exact hkept⟩
theorem EndsOr.congr {s t : State} {k st r : Nat} (h : EndsOr s k st r) (htags : t.hif.tags = s.hif.tags)
    (hdecided : t.hif.decided = s.hif.decided) : EndsOr t k st r := by
  simp only [EndsOr, Ends, State.tag, htags, hdecided] at *
  exact h
/-- Once completed, the slot has ended so, whatever other completions came before alike. -/
theorem EndsOr.ends {s : State} {k st r : Nat} (h : EndsOr s k st r) : Ends (s.complete k st r) k st r := by
  rcases h with h | ⟨hk, hst, hkept⟩
  · exact Ends.complete h k st r
  · exact complete_ends s k st r hk hst hkept
theorem EndsOr.complete {s : State} {k st r : Nat} (h : EndsOr s k st r) (j : Nat) : EndsOr (s.complete j st r) k st r := by
  unfold State.complete
  extract_lets s₁ _ s₂ reps s₃
  have h₂ : EndsOr s₂ k st r := (h.completeOne j).congr rfl rfl
  have h₃ : EndsOr s₃ k st r :=
    each_inv (fun s j => s.completeOne j st r) (fun s => EndsOr s k st r) (fun s j hs => hs.completeOne j) reps s₂ h₂
  exact h₃.congr rfl rfl
theorem EndsOr.completeAll {s : State} {k st r : Nat} (h : EndsOr s k st r) {ks : List Nat} (hk : k ∈ ks) :
    Ends (s.completeAll ks st r) k st r :=
  each_est (fun s j => s.complete j st r) (fun s => Ends s k st r) (fun s => EndsOr s k st r) k (fun _ j hs => hs.complete j)
    (fun _ hs => hs.ends) (fun _ j hs => Ends.complete hs j st r) ks hk s h

/-! ### An activity that ends -/

/-- What the end of an activity keeps of the maintenance unit. -/
def SameResults (a b : Maint) : Prop :=
  b.swTested = a.swTested ∧ b.swFail = a.swFail ∧ b.calSkip = a.calSkip ∧ b.dryStep = a.dryStep ∧ b.dryFound = a.dryFound

theorem State.maintEnd_ended {s : State} {c : Nat} (hon : s.maintOn c = true) (outcome detail : Nat) :
    Ended (s.maintEnd c outcome detail) c outcome ∧ SameResults s.maint (s.maintEnd c outcome detail).maint := by
  unfold State.maintEnd Ended SameResults
  rw [if_neg (by simp [hon])]
  simp
theorem State.maintEnd_stops {s : State} {c k : Nat} (hon : s.maintOn c = true) (outcome detail : Nat)
    (hk : (c, k) ∈ s.maint.stopSlots) (h : EndsOr s k stDONE 1) : Ends (s.maintEnd c outcome detail) k stDONE 1 := by
  unfold State.maintEnd
  rw [if_neg (by simp [hon])]
  refine EndsOr.completeAll (h.congr (by simp) (by simp)) ?_
  exact List.mem_map.2 ⟨(c, k), List.mem_filter.2 ⟨hk, by simp⟩, rfl⟩
theorem State.searchEnd_own {s : State} (hown : s.path.srMaint = false) (result lim tested : Nat) (sag : Int) :
    (s.searchEnd result lim tested sag).maint = s.maint ∧ (s.searchEnd result lim tested sag).hif = s.hif := by
  unfold State.searchEnd
  split
  · exact ⟨rfl, rfl⟩
  · simp [hown]
/-- An activity cut short ends through `maintEnd`, with its results and what waits for its stop as they were. -/
theorem State.maintCut_eq (s : State) (c outcome : Nat) : ∃ (u : State) (detail : Nat),
    s.maintCut c outcome = u.maintEnd c outcome detail ∧
    u.maint.running = s.maint.running ∧ u.maint.stopSlots = s.maint.stopSlots ∧ SameResults s.maint u.maint ∧
    u.hif = s.hif := by
  unfold State.maintCut SameResults
  split
  · refine ⟨_, _, rfl, ?_⟩
    split <;> simp
  · exact ⟨_, _, rfl, by simp⟩
  · exact ⟨_, _, rfl, by simp⟩
  · exact ⟨_, _, rfl, by simp⟩
  · exact ⟨_, _, rfl, by simp⟩
  · obtain ⟨hmaint, hhif⟩ := State.searchEnd_own (s := { s with path := { s.path with srMaint := false } }) rfl 2 0 0 0
    exact ⟨_, _, rfl, by simp [hmaint, hhif]⟩
  · exact ⟨_, _, rfl, by simp⟩
  · exact ⟨_, _, rfl, by simp⟩
theorem State.maintCut_ended {s : State} {c : Nat} (hon : s.maintOn c = true) (outcome : Nat) :
    Ended (s.maintCut c outcome) c outcome ∧ SameResults s.maint (s.maintCut c outcome).maint := by
  obtain ⟨u, detail, hcut, hrun, -, hsame, -⟩ := State.maintCut_eq s c outcome
  have huon : u.maintOn c = true := by simpa [State.maintOn, hrun] using hon
  obtain ⟨hended, hsame'⟩ := State.maintEnd_ended huon outcome detail
  rw [hcut]
  unfold SameResults at *
  exact ⟨hended, by simp [hsame', hsame]⟩
theorem State.maintCut_stops {s : State} {c k : Nat} (hon : s.maintOn c = true) (outcome : Nat)
    (hk : (c, k) ∈ s.maint.stopSlots) (h : EndsOr s k stDONE 1) : Ends (s.maintCut c outcome) k stDONE 1 := by
  obtain ⟨u, detail, hcut, hrun, hstops, -, hhif⟩ := State.maintCut_eq s c outcome
  rw [hcut]
  refine State.maintEnd_stops (by simpa [State.maintOn, hrun] using hon) outcome detail (hstops ▸ hk) ?_
  exact h.congr (by rw [hhif]) (by rw [hhif])

/-! ### The descriptors -/

/-- A record leaves the slots of the trace. -/
@[simp] theorem State.emit_trSlots (s : State) (code src : Nat) (ps : List Nat) :
    (s.emit code src ps).rcd.trSlots = s.rcd.trSlots := by
  unfold State.emit State.occur State.traceTrigger
  dsimp only
  repeat' split
  all_goals simp

theorem maintStop_holds : maintStop := by
  intro s k d c hserved hpresent hlow hhigh
  refine ⟨_, applyDesc_plain _ hserved rfl, ?_⟩
  obtain ⟨u, hu⟩ : ∃ u, u = ({ s with maint := { s.maint with stopSlots := s.maint.stopSlots ++ [(c, k)] } } : State).hold k :=
    ⟨_, rfl⟩
  have hop : s.maintStopOp k d =
      if s.maintOn c then (if s.stopsNow c then u.maintCut c 1 else u) else s.complete k stDONE 0 := by
    have hnow : u.stopsNow c = s.stopsNow c := by rw [hu]; rfl
    unfold State.maintStopOp
    dsimp only
    rw [if_neg (by simpa using hpresent), if_neg (by omega), ← hu, hnow]
    cases s.maintOn c <;> rfl
  have huon : u.maintOn c = s.maintOn c := by rw [hu]; rfl
  have htag : u.tag k = { s.tag k with st := .applied } := by rw [hu]; exact hold_tag (by exact hserved.1)
  have hserves : k < s.hif.tags.length ∧ ((s.tag k).st = .held ∨ (s.tag k).st = .applied) ∧ (s.tag k).discard = false :=
    ⟨hserved.1, .inl hserved.2.1, hserved.2.2.1⟩
  have humaint : u.maint = { s.maint with stopSlots := s.maint.stopSlots ++ [(c, k)] } := by rw [hu]; rfl
  have hrest : u = { s with maint := u.maint, hif := u.hif } := by rw [hu]; rfl
  have honly : u.hif.rest = s.hif.rest := by rw [hu]; rfl
  rw [hop]
  cases hon : s.maintOn c
  · exact ⟨fun _ => ⟨served_ends hserved _ _, by simp [State.eq_iff]⟩, by simp, by simp, complete_only .., by simp [State.eq_iff]⟩
  · cases hnow : s.stopsNow c
    · refine ⟨by simp, by simp, fun _ _ => ⟨htag, ?_, humaint, hrest⟩, onlyEnds_iff.2 honly, ?_⟩
      · rw [hu]
        exact hold_tagsBut _ k
      · simp only [↓reduceIte, Bool.false_eq_true]
        rw [hu]
        rfl
    · have hends : Ends (u.maintCut c 1) k stDONE 1 := by
        refine State.maintCut_stops (huon.trans hon) 1 (by simp [humaint]) (.inr ⟨?_, ?_, ?_⟩)
        · rw [hu]
          simpa using hserved.1
        · rw [htag]
          exact .inr rfl
        · rw [htag]
          exact hserved.2.2.1
      refine ⟨by simp, fun _ _ => ⟨(State.maintCut_ended (huon.trans hon) 1).1.1, hends⟩, by simp,
        onlyEnds_iff.2 (by simp [honly]), ?_⟩
      simp only [↓reduceIte]
      rw [hrest]
      simp [State.eq_iff]

/-- R752: an activity begun. -/
def State.maintRuns (s : State) (k c rid arg : Nat) : State :=
  let u := { s with maint := { s.maint with
    running := setBit s.maint.running c, arg := s.maint.arg.set c arg
    startTick := s.maint.startTick.set c s.clk.tick } }
  ((u.emit 0x0D01 14 [c, arg, rid, u.frame]).keepRun 0x0A01 rid 0 k).maintBegin c arg

theorem State.maintRuns_spec (s : State) (k c rid arg : Nat) :
    (s.maintRuns k c rid arg).maint.running = setBit s.maint.running c ∧
    (s.maintRuns k c rid arg).hif.tags = s.hif.tags ∧ (s.maintRuns k c rid arg).hif.decided = s.hif.decided ∧
    (s.maintRuns k c rid arg).hif.rest = s.hif.rest ∧
    (c = 7 → (s.maintRuns k c rid arg).path.searching = true) ∧ (c = 2 → (s.maintRuns k c rid arg).tdm.drillPhase = 1) ∧
    (c = 4 → (s.maintRuns k c rid arg).maint.calLeft = s.calList) ∧
    (c = 5 → (s.maintRuns k c rid arg).maint.compactLeft = s.compactSectors) ∧
    (c = 8 → (s.maintRuns k c rid arg).maint.dryStep = 0) := by
  unfold State.maintRuns
  dsimp only
  refine ⟨?_, ?_, ?_, ?_, fun hc => ?_, fun hc => ?_, fun hc => ?_, fun hc => ?_, fun hc => ?_⟩
  · unfold State.maintBegin
    split <;> simp [State.keepRun, State.searchStart]
  · simp [State.keepRun]
  · simp [State.keepRun]
  · simp
  · subst hc
    rfl
  · subst hc
    rfl
  · subst hc
    simp [State.maintBegin, State.calList, State.phaseIdx, State.railIdx, State.swIdx]
  · subst hc
    simp [State.maintBegin, State.compactSectors]
  · subst hc
    rfl

theorem maintStart_holds : maintStart := by
  intro s k d c arg hserved hnew
  refine ⟨_, applyDesc_plain _ hserved rfl, ?_⟩
  have hframe : s.maintStartOp k d = { s with
      path := (s.maintStartOp k d).path, tdm := (s.maintStartOp k d).tdm, hif := (s.maintStartOp k d).hif
      rcd := (s.maintStartOp k d).rcd, maint := (s.maintStartOp k d).maint } := by
    simp [State.eq_iff]
  have honly : OnlyEnds s (s.maintStartOp k d) := onlyEnds_iff.2 (by simp)
  have hop : s.maintStartOp k d =
      if maintAbsent s.sys.variant c then s.reject k stABSENT 0
      else if c = 0 ∨ 8 < c then s.reject k stBADPARAM 1
      else if s.maintBadArg c arg then s.reject k stBADPARAM 2
      else match s.maintForbids c with
        | some f => (State.emit { s with maint := { s.maint with refused := satInc 32 s.maint.refused } } 0x0D03 14
            [c, f]).complete k stMAINT f
        | none => if !s.maintCond c arg then s.reject k stBADPARAM 3
            else (s.maintRuns k c (descField d 26 2) arg).complete k stDONE 0 := by
    unfold State.maintStartOp
    simp only [hnew]
    rfl
  refine ⟨fun habsent => ⟨?_, honly⟩, fun hpresent hbad => ⟨?_, honly⟩, fun hpresent hlow hhigh =>
    ⟨fun hbad => ⟨?_, honly⟩, fun hok f hf => ?_, fun hok hfree hcond => ⟨?_, honly⟩, fun hok hfree hcond => ?_⟩, hframe⟩
  · rw [hop, if_pos habsent]
    exact reject_ends hserved _ _
  · rw [hop, if_neg (by simp [hpresent]), if_pos hbad]
    exact reject_ends hserved _ _
  · rw [hop, if_neg (by simp [hpresent]), if_neg (by omega), if_pos hbad]
    exact reject_ends hserved _ _
  · refine ⟨?_, ?_, honly⟩
    all_goals rw [hop, if_neg (by simp [hpresent]), if_neg (by omega), if_neg (by simp [hok]), hf]
    · exact served_ends' hserved (by simp) _ _
    · simp
  · rw [hop, if_neg (by simp [hpresent]), if_neg (by omega), if_neg (by simp [hok]), hfree]
    simp only [hcond]
    exact reject_ends hserved _ _
  · obtain ⟨hrun, htags, -, -, h7, h2, h4, h5, h8⟩ := State.maintRuns_spec s k c (descField d 26 2) arg
    have hopt : s.maintStartOp k d = (s.maintRuns k c (descField d 26 2) arg).complete k stDONE 0 := by
      rw [hop, if_neg (by simp [hpresent]), if_neg (by omega), if_neg (by simp [hok]), hfree]
      simp [hcond]
    have htag : (s.maintRuns k c (descField d 26 2) arg).tag k = s.tag k := by rw [State.tag, htags]; rfl
    refine ⟨?_, ?_, honly, fun hc => ?_, fun hc => ?_, fun hc => ?_, fun hc => ?_, fun hc => ?_⟩
    all_goals rw [hopt]
    · simpa using hrun
    · exact complete_ends _ k _ _ (by rw [htags]; exact hserved.1) (by rw [htag]; exact .inl hserved.2.1)
        (by rw [htag]; exact hserved.2.2.1)
    · simpa using h7 hc
    · simpa using h2 hc
    · simpa using h4 hc
    · simpa using h5 hc
    · simpa using h8 hc

/-- Settles O41, one row each. -/
theorem maintenanceStartStop : Obligations.MaintenanceStartStop := ⟨maintStart_holds, maintStop_holds⟩

end Sys2Proof.Machine
end

section
/-! O42: the steps of the maintenance activities, and the perturbation unit. -/

namespace Sys2Proof.Machine

open Sys2Proof.Claims

/-- An activity after one of its steps: stopped where that was asked, completed after the last step, else running. -/
def State.stepDone (s : State) (c : Nat) (last : Bool) : State :=
  if s.stopAsked c then s.maintCut c 1 else if last then s.maintCut c 0 else s

theorem State.stepDone_spec {s : State} {c : Nat} (hon : s.maintOn c = true) (last : Bool) :
    SameResults s.maint (s.stepDone c last).maint ∧
    (s.stopAsked c = true → Ended (s.stepDone c last) c 1) ∧
    (s.stopAsked c = false → last = true → Ended (s.stepDone c last) c 0) ∧
    (s.stopAsked c = false → last = false → s.stepDone c last = s) := by
  obtain ⟨hstopped, hsame1⟩ := State.maintCut_ended hon 1
  obtain ⟨hended, hsame0⟩ := State.maintCut_ended hon 0
  unfold State.stepDone
  cases s.stopAsked c <;> cases last <;> simp [hstopped, hsame1, hended, hsame0]
  exact ⟨rfl, rfl, rfl, rfl, rfl⟩
/-- The end of an activity that is neither assist, drill nor search leaves path and twin alone. -/
theorem State.maintCut_frame' (s : State) {c : Nat} (h1 : c ≠ 1) (h2 : c ≠ 2) (h7 : c ≠ 7) (outcome : Nat) :
    FrameEnds s (s.maintCut c outcome) (rcd := True) (maint := True) := by
  unfold State.maintCut
  split <;> simp_all
theorem State.stepDone_frame (s : State) {c : Nat} (h1 : c ≠ 1) (h2 : c ≠ 2) (h7 : c ≠ 7) (last : Bool) :
    FrameEnds s (s.stepDone c last) (rcd := True) (maint := True) ∧ (s.stepDone c last).sys = s.sys ∧
    (s.stepDone c last).regs = s.regs ∧ (s.stepDone c last).live = s.live ∧ (s.stepDone c last).pending = s.pending := by
  have hcut (outcome : Nat) := State.maintCut_frame' s h1 h2 h7 outcome
  unfold State.stepDone
  split
  · exact ⟨hcut 1, by simp, by simp, by simp, by simp⟩
  · cases last
    · simp
    · exact ⟨hcut 0, by simp, by simp, by simp, by simp⟩

/-! ### The self-test of the channels (R754) -/

/-- The channel `n` tested, those of `rest` left. -/
def State.channelTested (s : State) (result : SelfTest) (n : Nat) (rest : List Nat) : State :=
  let u := { s with maint := { s.maint with
    swTested := setBit s.maint.swTested n, swLeft := BitVec.ofNat 24 (maskOf rest) } }
  match result with
  | .passed => u
  | .failed check m =>
    State.emit { u with maint := { u.maint with swFail := setBit u.maint.swFail n } } 0x0D04 (swEng n) [n, check, m, 0]

theorem State.channelTested_spec (s : State) (result : SelfTest) (n : Nat) (rest : List Nat) :
    (s.channelTested result n rest).maint = { s.maint with
      swTested := setBit s.maint.swTested n, swLeft := BitVec.ofNat 24 (maskOf rest)
      swFail := match result with | .passed => s.maint.swFail | .failed _ _ => setBit s.maint.swFail n } ∧
    s.channelTested result n rest = { s with
      rcd := (s.channelTested result n rest).rcd, maint := (s.channelTested result n rest).maint } := by
  cases result <;> simp [State.channelTested, State.eq_iff]

theorem selftestChannel_holds : selftestChannel := by
  intro s result n rest hon hleft
  obtain ⟨hmaint, hframe⟩ := State.channelTested_spec s result n rest
  generalize hu : s.channelTested result n rest = u at hmaint hframe
  have hgo : Goes (.selftestChannel result) s (u.stepDone 3 rest.isEmpty) := by
    subst hu
    change execSelftestChannel result s = _
    unfold execSelftestChannel State.channelTested
    rw [if_pos hon, hleft]
    cases result <;> rfl
  have huon : u.maintOn 3 = true := by simpa [State.maintOn, hmaint] using hon
  have hasked : u.stopAsked 3 = s.stopAsked 3 := by simp [State.stopAsked, hmaint]
  obtain ⟨hsame, hstop, hlast, hmore⟩ := State.stepDone_spec huon rest.isEmpty
  obtain ⟨hfr, hsys, hregs, hlive, hpend⟩ := State.stepDone_frame u (c := 3) (by simp) (by simp) (by simp) rest.isEmpty
  rw [hasked] at hstop hlast hmore
  obtain ⟨htested, hfail, -, -, -⟩ := hsame
  refine ⟨_, hgo, ?_, ?_, hstop, fun hno hrest => hlast hno (by simp [hrest]), fun hno hrest => ?_, onlyEnds_iff.2 ?_, ?_⟩
  · rw [htested, hmaint]
  · rw [hfail, hmaint] <;> cases result <;> rfl
  · rw [hmore hno (by simp [hrest]), hmaint]
    exact ⟨rfl, rfl⟩
  · simp [hfr]
    rw [hframe]
  · rw [State.eq_iff]
    simp [hfr, hsys, hregs, hlive, hpend]
    rw [hframe]
    simp

/-! ### The converters' calibration (R755) -/

/-- The converter `conv` calibrated with its new offset, or skipped. -/
def State.converterCalibrated (s : State) (conv : Nat) (offset : Option Int) : State :=
  let u := { s with maint := { s.maint with calLeft := s.maint.calLeft.filter (· ≠ conv) } }
  match offset with
  | some o =>
    if s.calIdle conv then (if conv < 32 then u.modPhase conv fun p => { p with iofs := o } else u)
    else { u with maint := { u.maint with calSkip := s.maint.calSkip + 1 } }
  | none => { u with maint := { u.maint with calSkip := s.maint.calSkip + 1 } }

theorem State.converterCalibrated_spec (s : State) (conv : Nat) (offset : Option Int) :
    (∃ skip, (s.converterCalibrated conv offset).maint =
      { s.maint with calLeft := s.maint.calLeft.filter (· ≠ conv), calSkip := skip }) ∧
    s.converterCalibrated conv offset = { s with
      phases := (s.converterCalibrated conv offset).phases, maint := (s.converterCalibrated conv offset).maint } ∧
    (∀ o, offset = some o → s.calIdle conv = true → conv < 32 → conv < s.phases.length →
      (s.converterCalibrated conv offset).phase conv = { s.phase conv with iofs := o } ∧
      (s.converterCalibrated conv offset).maint.calSkip = s.maint.calSkip) ∧
    (offset = none ∨ s.calIdle conv = false → (s.converterCalibrated conv offset).phases = s.phases ∧
      (s.converterCalibrated conv offset).maint.calSkip = s.maint.calSkip + 1) ∧
    PhasesBut [conv] s (s.converterCalibrated conv offset) := by
  unfold State.converterCalibrated
  cases offset with
  | none => exact ⟨⟨_, rfl⟩, rfl, by simp, fun _ => ⟨rfl, rfl⟩, fun _ _ _ => rfl⟩
  | some o =>
    dsimp only
    cases hidle : s.calIdle conv
    · exact ⟨⟨_, rfl⟩, rfl, by simp, fun _ => ⟨rfl, rfl⟩, fun _ _ _ => rfl⟩
    · by_cases hconv : conv < 32
      · refine ⟨⟨s.maint.calSkip, by simp [hconv]⟩, by simp [hconv, State.eq_iff], fun o' ho _ _ hlen => ?_, by simp, fun j _ hj => ?_⟩
        · cases ho
          rw [if_pos rfl, if_pos hconv]
          exact ⟨phase_modPhase_self _ _ _ hlen, rfl⟩
        · rw [if_pos rfl, if_pos hconv]
          exact phase_modPhase_ne _ _ _ _ (by simpa using hj)
      · rw [if_pos rfl, if_neg hconv]
        exact ⟨⟨_, rfl⟩, rfl, fun _ _ _ h => absurd h hconv, by simp, fun _ _ _ => rfl⟩

theorem adcCalConverter_holds : adcCalConverter := by
  intro s conv offset hon hleft
  obtain ⟨⟨skip, hmaint⟩, hframe, hput, hskip, hbut⟩ := State.converterCalibrated_spec s conv offset
  generalize hu : s.converterCalibrated conv offset = u at hmaint hframe hput hskip hbut
  have hgo : Goes (.adcCalConverter conv offset) s (u.stepDone 4 u.maint.calLeft.isEmpty) := by
    subst hu
    change execAdcCalConverter conv offset s = _
    unfold execAdcCalConverter
    rw [if_pos (by simp [hon] at hleft ⊢; exact hleft)]
    rfl
  have huon : u.maintOn 4 = true := by simpa [State.maintOn, hmaint] using hon
  have hasked : u.stopAsked 4 = s.stopAsked 4 := by simp [State.stopAsked, hmaint]
  have hempty : u.maint.calLeft.isEmpty = true ↔ ∀ x ∈ s.maint.calLeft, x = conv := by
    rw [hmaint]
    simp
  obtain ⟨hsame, hstop, hlast, hmore⟩ := State.stepDone_spec huon u.maint.calLeft.isEmpty
  obtain ⟨hfr, hsys, hregs, hlive, hpend⟩ :=
    State.stepDone_frame u (c := 4) (by simp) (by simp) (by simp) u.maint.calLeft.isEmpty
  rw [hasked] at hstop hlast hmore
  generalize u.stepDone 4 u.maint.calLeft.isEmpty = t at *
  have hphases : t.phases = u.phases := by simp [hfr]
  obtain ⟨-, -, hsk, -, -⟩ := hsame
  refine ⟨t, hgo, fun o ho hidle h32 hlen => ?_, fun hno => ?_, fun j hj hjc => ?_, hstop,
    fun hno hall => hlast hno (hempty.2 hall), fun hno ⟨x, hx, hne⟩ => ?_, onlyEnds_iff.2 ?_, ?_⟩
  · rw [phase_of hphases, hsk]
    exact hput o ho hidle h32 hlen
  · rw [hphases, hsk]
    exact hskip hno
  · rw [phase_of hphases]
    exact hbut j hj hjc
  · rw [hmore hno (by rw [Bool.eq_false_iff]; exact fun h => hne (hempty.1 h x hx)), hmaint]
  · simp [hfr]
    rw [hframe]
  · rw [State.eq_iff]
    simp [hfr, hsys, hregs, hlive, hpend]
    rw [hframe]
    simp

/-! ### The log's compaction (R752) -/

/-- A record leaves the state of the erased slot ahead. -/
@[simp] theorem State.emit_trErased (s : State) (code src : Nat) (ps : List Nat) :
    (s.emit code src ps).rcd.trErased = s.rcd.trErased := by
  unfold State.emit State.occur State.traceTrigger
  dsimp only
  repeat' split
  all_goals simp

theorem State.maintEnd_trErased (s : State) (c outcome detail : Nat) :
    (s.maintEnd c outcome detail).rcd.trErased = s.rcd.trErased := by
  unfold State.maintEnd
  split <;> simp

theorem logCompactSector_holds : logCompactSector := by
  intro s hon
  obtain ⟨u, hu⟩ : ∃ u, u = ({ s with maint := { s.maint with compactLeft := s.maint.compactLeft - 1 } } : State) := ⟨_, rfl⟩
  have hmaint : u.maint = { s.maint with compactLeft := s.maint.compactLeft - 1 } := by rw [hu]
  have huon : u.maintOn 5 = true := by simpa [State.maintOn, hmaint] using hon
  have hgo : Goes .logCompactSector s (if s.stopAsked 5 then u.maintCut 5 1
      else if s.maint.compactLeft - 1 = 0 then
        ({ u with rcd := { u.rcd with trErased := true } } : State).maintCut 5 0 else u) := by
    subst hu
    exact if_pos hon
  refine ⟨_, hgo, fun hasked => ?_, fun hno hlast => ?_, fun hno hmore => ?_, ?_, ?_⟩
  · rw [if_pos hasked]
    exact (State.maintCut_ended huon 1).1
  · rw [if_neg (by simp [hno]), if_pos (by omega)]
    exact ⟨State.maintEnd_trErased _ 5 0 0,
      (State.maintCut_ended (s := { u with rcd := { u.rcd with trErased := true } }) huon 0).1⟩
  · rw [if_neg (by simp [hno]), if_neg (by omega)]
    exact ⟨hmaint, by rw [hu]⟩
  · have hcut (v : State) (outcome : Nat) := State.maintCut_frame' v (c := 5) (by simp) (by simp) (by simp) outcome
    refine onlyEnds_iff.2 ?_
    subst hu
    repeat' split
    all_goals simp [hcut]
  · have hcut (v : State) (outcome : Nat) := State.maintCut_frame' v (c := 5) (by simp) (by simp) (by simp) outcome
    subst hu
    rw [State.eq_iff]
    repeat' split
    all_goals simp [hcut]

/-! ### The swap of the firmware (R728, R756) -/

theorem safePoint_holds : safePoint := by
  intro s hon hsafe hwarm
  have hgo : Goes .safePoint s (if s.bankFault s.otherBank = 0
      then ({ s with cfg := { s.cfg with journalB := s.otherIsB } } : State).askWarm 4
      else s.judgeOther.maintCut 6 2) := by
    change execSafePoint s = _
    unfold execSafePoint
    rw [if_pos (by simp [hon, hsafe, hwarm])]
    split <;> rfl
  refine ⟨_, hgo, ?_⟩
  by_cases hvalid : s.bankFault s.otherBank = 0
  · rw [if_pos hvalid]
    obtain ⟨hsys, hframe, hends⟩ := State.askWarm_spec { s with cfg := { s.cfg with journalB := s.otherIsB } } 4
    refine ⟨fun _ => ⟨by rw [hframe], by rw [hsys], fun hst hpeer => ?_⟩, fun h => absurd hvalid h, hends, by rw [hframe]⟩
    unfold State.askWarm
    rw [if_pos ⟨hst, hpeer⟩]
  · rw [if_neg hvalid]
    have hcut := State.maintCut_frame' s.judgeOther (c := 6) (by simp) (by simp) (by simp) 2
    refine ⟨fun h => absurd h hvalid,
      fun _ => ⟨(State.maintCut_ended (s := s.judgeOther) (by simpa [State.maintOn] using hon) 2).1, ?_, ?_⟩,
      onlyEnds_iff.2 ?_, ?_⟩
    · simp [hcut, State.judgeOther, hvalid]
    · simp [hcut, State.judgeOther]
    · simp [hcut]
    · rw [State.eq_iff]
      simp [hcut]

theorem swapWaitExpiry_holds : swapWaitExpiry := by
  intro s hon hwarm hlate
  have hcut := State.maintCut_frame' s (c := 6) (by simp) (by simp) (by simp) 2
  refine ⟨s.maintCut 6 2, congrArg Host.Outcome.next (if_pos (by rw [hon, hwarm, decide_eq_true hlate]; rfl)),
    (State.maintCut_ended hon 2).1, onlyEnds_iff.2 ?_, ?_⟩
  · simp [hcut]
  · rw [State.eq_iff]
    simp [hcut]

/-! ### The dry run (R757) -/

/-- One step of the dry run reported, counted and done. -/
def State.stepDryRun (s : State) (p i : Nat) (st : Step) : State :=
  let u := (s.dryFindings st).foldl (fun u c => u.emit 0x0D05 10 [p, i, c, s.dryFrames st]) s
  { u with maint := { u.maint with
      dryStep := i + 1, dryFound := u.maint.dryFound + (s.dryFindings st).length
      dryOn := if st.action = 1 ∨ st.action = 4 then u.maint.dryOn ++ [st.target] else u.maint.dryOn } }

theorem foldl_emit_frame (s : State) (code src : Nat) (l : List Nat) (f : Nat → List Nat) :
    ∃ r, l.foldl (fun u c => u.emit code src (f c)) s = { s with rcd := r } := by
  induction l generalizing s with
  | nil => exact ⟨s.rcd, rfl⟩
  | cons c cs ih =>
    obtain ⟨r, hr⟩ := ih (s.emit code src (f c))
    exact ⟨r, by rw [List.foldl_cons, hr]; simp [State.eq_iff]⟩

theorem State.stepDryRun_spec (s : State) (p i : Nat) (st : Step) : ∃ r on, s.stepDryRun p i st = { s with
    rcd := r, maint := { s.maint with
      dryStep := i + 1, dryFound := s.maint.dryFound + (s.dryFindings st).length, dryOn := on } } := by
  obtain ⟨r, hr⟩ := foldl_emit_frame s 0x0D05 10 (s.dryFindings st) fun c => [p, i, c, s.dryFrames st]
  unfold State.stepDryRun
  rw [hr]
  exact ⟨r, _, rfl⟩

theorem dryrunStep_holds : dryrunStep := by
  intro s hon hlate p st n
  obtain ⟨r, on, hspec⟩ := State.stepDryRun_spec s p s.maint.dryStep st
  generalize hu : s.stepDryRun p s.maint.dryStep st = u at hspec
  have hgo : Goes .dryrunStep s (if progCount u.cfg.seqSect p ≤ s.maint.dryStep + 1 then u.maintCut 8 0
      else if u.stopAsked 8 then u.maintCut 8 1 else u) := by
    subst hu
    change execDryrunStep s = _
    unfold execDryrunStep
    dsimp only
    rw [if_pos (by rw [hon, decide_eq_true hlate]; rfl)]
    rfl
  have huon : u.maintOn 8 = true := by rw [hspec]; exact hon
  have hasked : u.stopAsked 8 = s.stopAsked 8 := by rw [hspec]; rfl
  have hcut (outcome : Nat) := State.maintCut_frame' u (c := 8) (by simp) (by simp) (by simp) outcome
  have hended (outcome : Nat) := State.maintCut_ended huon outcome
  have hstep (outcome : Nat) : (u.maintCut 8 outcome).maint.dryStep = u.maint.dryStep := by
    obtain ⟨-, -, -, -, h, -⟩ := hended outcome
    exact h
  have hfound (outcome : Nat) : (u.maintCut 8 outcome).maint.dryFound = u.maint.dryFound := by
    obtain ⟨-, -, -, -, -, h⟩ := hended outcome
    exact h
  have hcount : progCount u.cfg.seqSect p = n := by rw [hspec]
  rw [hasked, hcount] at hgo
  refine ⟨_, hgo, ?_, ?_, fun hlast => ?_, fun hmore hstop => ?_, fun hmore hno => ?_, ?_⟩
  · repeat' split
    · rw [hstep 0, hspec]
    · rw [hstep 1, hspec]
    · rw [hspec]
  · repeat' split
    · rw [hfound 0, hspec]
    · rw [hfound 1, hspec]
    · rw [hspec]
  · rw [if_pos hlast]
    exact (hended 0).1
  · rw [if_neg (by omega), if_pos hstop]
    exact (hended 1).1
  · rw [if_neg (by omega), if_neg (by simp [hno]), hspec]
  · have hcutRest (outcome : Nat) : OnlyEnds s (u.maintCut 8 outcome) ∧ u.maintCut 8 outcome = { s with
        hif := (u.maintCut 8 outcome).hif, rcd := (u.maintCut 8 outcome).rcd
        maint := (u.maintCut 8 outcome).maint } := by
      constructor
      · rw [onlyEnds_iff]
        simp [hcut]
        rw [hspec]
      · rw [State.eq_iff]
        simp [hcut]
        rw [hspec]
        simp
    repeat' split
    · exact hcutRest 0
    · exact hcutRest 1
    · rw [hspec]
      exact ⟨rfl, rfl⟩

/-! ### The perturbation unit's lock (R765, R766) -/

theorem State.testLockTo_spec (s : State) (b : Bool) (cause : Nat) :
    (s.testLockTo b cause).maint = { s.maint with unlocked := b } ∧
    s.testLockTo b cause = { s with rcd := (s.testLockTo b cause).rcd, maint := (s.testLockTo b cause).maint } ∧
    (s.maint.unlocked = b → s.testLockTo b cause = s) := by
  unfold State.testLockTo
  split
  next h => exact ⟨by rw [← h], rfl, fun _ => rfl⟩
  next h => exact ⟨by simp, by simp [State.eq_iff], fun hb => absurd hb h⟩

theorem testUnlock_holds : testUnlock := by
  intro s w hlink hkey hbench hlocked
  obtain ⟨hmaint, hframe, -⟩ := State.testLockTo_spec { s with maint := { s.maint with
    injected := 0, lfsr := BitVec.ofNat 32 (if s.cfgv 0xE004 = 0 then 1 else s.cfgv 0xE004) } } true 1
  have hguard : (s.sys.linkUp && w.toNat / 2 ^ 16 == 0xB3C4 && decide (100 ≤ s.maint.benchHigh) &&
      !s.maint.unlocked) = true := by
    rw [hlink, hkey, decide_eq_true hbench, hlocked]
    rfl
  refine ⟨_, if_pos hguard, ?_, ?_, ?_, ?_⟩
  · rw [hmaint]
  · rw [hmaint]
  · rw [hmaint]
  · rw [hframe]

theorem testLock_holds : testLock := by
  intro s w hlink hkey
  obtain ⟨hmaint, hframe, hstay⟩ := State.testLockTo_spec s false 1
  exact ⟨_, congrArg Host.Outcome.next (if_pos (by rw [hlink, bne_iff_ne.2 hkey]; rfl)), hmaint, hstay, hframe⟩

/-- Registers dropped from a list read as at reset; the others read as before. -/
theorem regLookup_filter (v : Variant) (keep : Nat → Bool) (l : List (Nat × Word)) (off : Nat) :
    regLookup v (l.filter fun p => keep p.1) off = if keep off then regLookup v l off else regReset v off := by
  induction l with
  | nil => simp [regLookup]
  | cons p rest ih =>
    obtain ⟨o, w⟩ := p
    by_cases ho : o = off
    · subst ho
      cases hk : keep o <;> simp_all [regLookup]
    · cases hk : keep o <;> simp_all [regLookup]

theorem State.testClear_reads (s : State) (off : Nat) :
    (0xE000 ≤ off ∧ off < 0xF000 → s.testClear.regv off = regReset s.sys.variant off ∧
      s.testClear.cfgv off = regReset s.sys.variant off) ∧
    (off < 0xE000 ∨ 0xF000 ≤ off → s.testClear.regv off = s.regv off ∧ s.testClear.cfgv off = s.cfgv off) := by
  have hregs := regLookup_filter s.sys.variant (fun o => o < 0xE000 || 0xF000 ≤ o) s.regs off
  have hlive := regLookup_filter s.sys.variant (fun o => o < 0xE000 || 0xF000 ≤ o) s.live off
  refine ⟨fun ⟨hlo, hhi⟩ => ?_, fun h => ?_⟩
  · rw [if_neg (by simp; omega)] at hregs hlive
    exact ⟨hregs, hlive⟩
  · rw [if_pos (by simp; omega)] at hregs hlive
    exact ⟨hregs, hlive⟩

theorem benchLow_holds : benchLow := by
  intro s hlow
  obtain ⟨hmaint, hframe, -⟩ := State.testLockTo_spec s false 2
  have hreads := State.testClear_reads (s.testLockTo false 2)
  rw [hframe] at hreads
  refine ⟨_, congrArg Host.Outcome.next (if_pos hlow), ?_, fun off hlo hhi => ?_, fun off hno => ?_, ?_⟩
  · change { (s.testLockTo false 2).maint with dbHeld := [] } = _
    rw [hmaint]
  · rw [hframe]
    exact (hreads off).1 ⟨hlo, hhi⟩
  · rw [hframe]
    exact (hreads off).2 hno
  · rw [hframe]
    rfl

/-- Settles O42: every activity's step is one change of the state, after which `State.stepDone` says how the activity
stands, and the lock of the perturbation unit changes one flag. -/
theorem maintenanceSteps : Obligations.MaintenanceSteps :=
  ⟨selftestChannel_holds, adcCalConverter_holds, logCompactSector_holds, safePoint_holds, swapWaitExpiry_holds,
    dryrunStep_holds, testUnlock_holds, testLock_holds, benchLow_holds⟩

end Sys2Proof.Machine
end

section
/-! O45: what a leader does with the messages of its nodes, and with a node that is silent. -/

namespace Sys2Proof.Machine

open Sys2Proof.Claims

/-! ### The nodes of a leader -/

theorem node_modNode_self (s : State) (n : Nat) (f : Node → Node) (h : n < s.dray.nodes.length) :
    (s.modNode n f).node n = f (s.node n) := by
  simp [State.modNode, State.node, List.getElem?_eq_getElem h]
theorem node_modNode_ne (s : State) (n m : Nat) (f : Node → Node) (h : m ≠ n) : (s.modNode n f).node m = s.node m := by
  simp [State.modNode, State.node, Ne.symm h]
theorem node_of {s t : State} (h : t.dray.nodes = s.dray.nodes) (n : Nat) : t.node n = s.node n := by
  rw [State.node, State.node, h]
theorem node_default (s : State) (n : Nat) (h : s.dray.nodes.length ≤ n) : s.node n = {} := by
  simp [State.node, List.getElem?_eq_none h]

/-- The Drayline part and the host interface as they were, the nodes too. -/
theorem State.emit_node (s : State) (code src : Nat) (ps : List Nat) (n : Nat) : (s.emit code src ps).node n = s.node n :=
  node_of (by simp) n

/-! ### Frames received (R652, R653, R673) -/

section
variable (s : State) (h : DrayHdr)
theorem State.countRx_spec : ∃ rxUp upPlca rxDn, s.countRx h = { s with
    dray := { s.dray with rxUp := rxUp, upPlca := upPlca, rxDn := rxDn } } := by
  unfold State.countRx
  split
  · exact ⟨_, _, _, rfl⟩
  · exact ⟨_, s.dray.upPlca, _, rfl⟩
@[simp] theorem State.countRx_stale : (s.countRx h).staleReason h = s.staleReason h := by
  obtain ⟨a, b, c, heq⟩ := s.countRx_spec h
  rw [heq]
  rfl
@[simp] theorem State.countRx_conflicts : (s.countRx h).conflicts h = s.conflicts h := by
  obtain ⟨a, b, c, heq⟩ := s.countRx_spec h
  rw [heq]
  rfl
@[simp] theorem State.countRx_earlier (p : DrayUp) : (s.countRx h).earlier h p = s.earlier h p := by
  obtain ⟨a, b, c, heq⟩ := s.countRx_spec h
  rw [heq]
  rfl
theorem State.dropStale_dropped (reason : Nat) : Dropped s ((s.countRx h).dropStale h reason) := by
  obtain ⟨a, b, c, heq⟩ := s.countRx_spec h
  rw [heq]
  exact ⟨by simp [State.dropStale], by simp [State.dropStale, State.eq_iff]⟩
end

/-! ### An upward message taken (R646, R666, R675) -/

/-- The acknowledgements a message carries end commands of its node, and nothing else of the Drayline differs. -/
theorem State.nodeAcks_dray (s : State) (n : Nat) (p : DrayUp) : ∃ (caps : Node → List (Nat × Option Nat)) (queue : List DrayQ),
    (s.nodeAcks n p).dray = { s.dray with
      nodes := s.dray.nodes.modify n fun d => { d with capSlots := caps d }, queue := queue } := by
  generalize ht : s.nodeAcks n p = t
  unfold State.nodeAcks at ht
  extract_lets fits done s₁ s₂ acked fin _ s₃ at ht
  have hcaps : s₂.dray = s₁.dray := by simp [s₂]
  have hended : FrameEnds s₃ t := by
    subst ht
    exact foldl_frameEnds (fun s q => by cases q <;> simp) _ _
  have hdray : t.dray = s₃.dray := by simp [hended]
  refine ⟨fun d => d.capSlots.filter fun c => !fits c, s₂.dray.queue.filter fun q => !acked q, ?_⟩
  rw [hdray]
  change { s₂.dray with queue := s₂.dray.queue.filter fun q => !acked q } = _
  rw [hcaps]
  rfl

/-- The vehicle's entries with the summary of a message taken (R666). -/
def State.vehicleTaking (s : State) (h : DrayHdr) (p : DrayUp) : List VEntry :=
  match s.entryOf h.src (p.subject % 8) with
  | some i => s.dray.vehicle.modify i fun _ =>
    { joinedEver := true, lost := false, epoch := h.epoch, subj := p.subjEpoch, summary := p.summary }
  | none => s.dray.vehicle

theorem State.vehicleTaking_self {s : State} {h : DrayHdr} {p : DrayUp} {i : Nat}
    (hi : s.entryOf h.src (p.subject % 8) = some i) (hlt : i < s.dray.vehicle.length) :
    (s.vehicleTaking h p).getD i {} =
      { joinedEver := true, lost := false, epoch := h.epoch, subj := p.subjEpoch, summary := p.summary } := by
  unfold State.vehicleTaking
  rw [hi]
  simp [List.getElem?_eq_getElem hlt]
theorem State.vehicleTaking_ne {s : State} {h : DrayHdr} {p : DrayUp} {i : Nat}
    (hi : s.entryOf h.src (p.subject % 8) ≠ some i) : (s.vehicleTaking h p).getD i {} = s.dray.vehicle.getD i {} := by
  unfold State.vehicleTaking
  split
  next j hj =>
    have hne : j ≠ i := fun hji => hi (by rw [hj, hji])
    simp [hne]
  · rfl

/-- What an accepted upward message makes of the Drayline part: its node is joined and heard, and its summary's entry the
one sent. -/
theorem State.upIn_dray (s : State) (h : DrayHdr) (p : DrayUp) : ∃ (f : Node → Node) (tracks : List Track) (queue : List DrayQ),
    (∀ d, (f d).joined = true ∧ (f d).mac = h.mac ∧ (f d).heard = true ∧ (f d).silent = 0) ∧
    (s.upIn h p).dray = { s.dray with
      tracks := tracks, nodes := s.dray.nodes.modify h.src f, queue := queue, vehicle := s.vehicleTaking h p } := by
  unfold State.upIn
  extract_lets n new was s₁ s₂ s₃ e _ s₄ s₅
  have h₂ : s₂.dray = s₁.dray ∧ s₂.sys = s₁.sys := by
    unfold s₂
    repeat' split
    all_goals simp [State.joinRecord]
  have h₄ : s₄.dray = { s₃.dray with vehicle := s.vehicleTaking h p } := by
    have hentry : s₃.entryOf n (p.subject % 8) = s.entryOf h.src (p.subject % 8) := by
      change (match s₂.sys.role with | .manager => _ | .zone => _ | .branch => _) = _
      rw [h₂.2]
      rfl
    have hvehicle : s₃.dray.vehicle = s.dray.vehicle := by
      change s₂.dray.vehicle = _
      rw [h₂.1]
      rfl
    unfold s₄ State.vehicleTaking
    rw [hentry, ← hvehicle]
    cases s.entryOf h.src (p.subject % 8) <;> rfl
  have h₅ : ∃ g : Node → Node, (∀ d, (g d).joined = d.joined ∧ (g d).mac = d.mac ∧ (g d).heard = d.heard ∧
      (g d).silent = d.silent) ∧ s₅.dray = { s₄.dray with nodes := s₄.dray.nodes.modify n g } := by
    unfold s₅
    split
    · exact ⟨fun d => { d with stage := some (bytesAt p.summary 35 1) }, fun _ => ⟨rfl, rfl, rfl, rfl⟩, rfl⟩
    · exact ⟨id, fun _ => ⟨rfl, rfl, rfl, rfl⟩, by rw [List.modify_id]⟩
  obtain ⟨g, hg, h₅⟩ := h₅
  obtain ⟨caps, queue, hacks⟩ := State.nodeAcks_dray s₅ n p
  refine ⟨fun d => { (g { d with joined := true, mac := h.mac, heard := true, silent := 0 }) with
    capSlots := caps (g { d with joined := true, mac := h.mac, heard := true, silent := 0 }) },
    s₁.dray.tracks, queue, fun d => hg _, ?_⟩
  have h₃ : s₃.dray = { s₂.dray with nodes := (s₂.dray.nodes.modify n fun d =>
      { d with joined := true, mac := h.mac, heard := true, silent := 0 }) } := rfl
  rw [hacks, h₅, h₄, h₃, h₂.1, List.modify_modify_eq, List.modify_modify_eq]
  rfl

/-! ### The claims on accepted and refused messages (R646, R653, R666, R673) -/

theorem State.upward_of_accepted {s : State} {h : DrayHdr} {p : DrayUp} (hok : Accepted s h p) (f : State → State) :
    s.upward h p f = f ((s.countRx h).upIn h p) := by
  obtain ⟨hhears, hconf, hstale, hearlier, -, -⟩ := hok
  simp [State.upward, hhears, hconf, hstale, hearlier]

theorem State.hearsDown_src {s : State} {h : DrayHdr} (hhears : s.hearsDown h = true) : h.src < 8 := by
  simp [State.hearsDown] at hhears
  omega

theorem upTaken_upIn {s : State} {h : DrayHdr} {p : DrayUp} (hok : Accepted s h p) :
    UpTaken s ((s.countRx h).upIn h p) h p := by
  obtain ⟨hhears, -, -, -, hnodes, hvehicle⟩ := hok
  have hsrc := State.hearsDown_src hhears
  obtain ⟨f, tracks, queue, hf, hdray⟩ := State.upIn_dray (s.countRx h) h p
  have hfr := State.upIn_frame (s.countRx h) h p
  have hsys : ((s.countRx h).upIn h p).sys = (s.countRx h).sys := by simp
  have hregs : ((s.countRx h).upIn h p).regs = (s.countRx h).regs := by simp
  have hlive : ((s.countRx h).upIn h p).live = (s.countRx h).live := by simp
  have hpend : ((s.countRx h).upIn h p).pending = (s.countRx h).pending := by simp
  obtain ⟨rxUp, upPlca, rxDn, hcount⟩ := s.countRx_spec h
  generalize (s.countRx h).upIn h p = t at *
  rw [hcount] at hdray
  have hself : t.node h.src = f (s.node h.src) := by
    rw [← node_modNode_self s h.src f (by omega)]
    exact node_of (by rw [hdray]; rfl) _
  obtain ⟨hjoined, hmac, hheard, hsilent⟩ := hf (s.node h.src)
  refine ⟨by rw [hself, hjoined], by rw [hself, hmac], by rw [hself, hheard], by rw [hself, hsilent], fun m hm => ?_,
    fun i hi hlt => ?_, fun i hi => ?_, ?_, ?_⟩
  · rw [← node_modNode_ne s h.src m f hm]
    exact node_of (by rw [hdray]; rfl) _
  · rw [hdray]
    exact State.vehicleTaking_self (s := s) hi (by omega)
  · rw [hdray]
    exact State.vehicleTaking_ne (s := s) hi
  · rw [onlyEnds_iff]
    simp [hfr, hcount]
  · rw [State.eq_iff]
    simp [hfr, hcount]
    exact ⟨⟨by rw [hsys, hcount], by rw [hregs, hcount], by rw [hlive, hcount]⟩, by rw [hpend, hcount]⟩
theorem State.upIn_nodes_length (s : State) (h : DrayHdr) (p : DrayUp) :
    ((s.countRx h).upIn h p).dray.nodes.length = s.dray.nodes.length := by
  obtain ⟨f, tracks, queue, -, hdray⟩ := State.upIn_dray (s.countRx h) h p
  obtain ⟨rxUp, upPlca, rxDn, hcount⟩ := s.countRx_spec h
  rw [hdray, hcount]
  simp

/-- A change of the node's other fields leaves the message taken. -/
theorem upTaken_modNode {s t : State} {h : DrayHdr} {p : DrayUp} (ht : UpTaken s t h p) {f : Node → Node}
    (hlen : h.src < t.dray.nodes.length)
    (hf : ∀ d, (f d).joined = d.joined ∧ (f d).mac = d.mac ∧ (f d).heard = d.heard ∧ (f d).silent = d.silent) :
    UpTaken s (t.modNode h.src f) h p := by
  obtain ⟨hjoined, hmac, hheard, hsilent, hothers, hentry, hkept, hends, hframe⟩ := ht
  obtain ⟨hfjoined, hfmac, hfheard, hfsilent⟩ := hf (t.node h.src)
  have hself := node_modNode_self t h.src f hlen
  refine ⟨by rw [hself, hfjoined, hjoined], by rw [hself, hfmac, hmac], by rw [hself, hfheard, hheard],
    by rw [hself, hfsilent, hsilent], fun m hm => ?_, hentry, hkept, hends, ?_⟩
  · rw [node_modNode_ne _ _ _ _ hm, hothers m hm]
  · rw [hframe]
    rfl
theorem upTaken_congr {s t u : State} {h : DrayHdr} {p : DrayUp} (ht : UpTaken s t h p)
    (hnodes : u.dray.nodes = t.dray.nodes) (hvehicle : u.dray.vehicle = t.dray.vehicle) (hhif : u.hif = t.hif)
    (hframe : u = { t with dray := u.dray, rcd := u.rcd }) : UpTaken s u h p := by
  obtain ⟨hjoined, hmac, hheard, hsilent, hothers, hentry, hkept, hends, htframe⟩ := ht
  have hnode (m : Nat) : u.node m = t.node m := node_of hnodes m
  rw [UpTaken, hnode, hvehicle, OnlyEnds, hhif]
  refine ⟨hjoined, hmac, hheard, hsilent, fun m hm => by rw [hnode, hothers m hm], hentry, hkept, hends, ?_⟩
  rw [hframe, htframe]

theorem State.conflictIn_spec (s : State) (h : DrayHdr) (hsrc : h.src < s.dray.nodes.length) :
    ((s.conflictIn h).node h.src).mac2 = some h.mac ∧ (s.conflictIn h).dray.vehicle = s.dray.vehicle ∧
    (∀ m, m ≠ h.src → (s.conflictIn h).node m = s.node m) ∧
    s.conflictIn h = { s with dray := (s.conflictIn h).dray, rcd := (s.conflictIn h).rcd } := by
  have hself := node_modNode_self s h.src (fun n => { n with mac2 := some h.mac, mac2Silent := 0 }) hsrc
  have hne (m : Nat) := node_modNode_ne s h.src m fun n => { n with mac2 := some h.mac, mac2Silent := 0 }
  unfold State.conflictIn
  dsimp only
  split
  · exact ⟨by rw [hself], rfl, hne, rfl⟩
  · exact ⟨by rw [State.emit_node, hself], by simp [State.modNode], fun m hm => by rw [State.emit_node, hne m hm],
      by simp [State.eq_iff, State.modNode]⟩

theorem turned_upward {s : State} {h : DrayHdr} (hhears : s.hearsDown h = true) (hnodes : s.dray.nodes.length = 8)
    (p : DrayUp) (f : State → State) : Turned s (s.upward h p f) h p := by
  have hsrc := State.hearsDown_src hhears
  refine ⟨fun hconf => ?_, fun hconf hwhy => ?_⟩
  · have hgo : s.upward h p f = (s.countRx h).conflictIn h := by simp [State.upward, hhears, hconf]
    obtain ⟨rxUp, upPlca, rxDn, hcount⟩ := s.countRx_spec h
    rw [hgo]
    obtain ⟨hmac2, hvehicle, hothers, hframe⟩ := State.conflictIn_spec (s.countRx h) h (by rw [hcount]; simpa [hnodes] using hsrc)
    refine ⟨hmac2, by rw [hvehicle, hcount], fun m hm => ?_, ?_⟩
    · rw [hothers m hm, hcount]
      rfl
    · rw [hframe, hcount]
  · have hgo : ∃ reason, s.upward h p f = (s.countRx h).dropStale h reason := by
      by_cases hstale : s.staleReason h = 0
      · exact ⟨4, by simp [State.upward, hhears, hconf, hstale, hwhy.resolve_left (absurd hstale)]⟩
      · exact ⟨s.staleReason h, by simp [State.upward, hhears, hconf, hstale]⟩
    obtain ⟨reason, hgo⟩ := hgo
    rw [hgo]
    exact s.dropStale_dropped h reason

theorem report_holds : report :=
  ⟨fun s h p hok => ⟨_, congrArg Host.Outcome.next (State.upward_of_accepted hok id), upTaken_upIn hok⟩,
    fun s h p hhears hnodes => ⟨_, rfl, turned_upward hhears hnodes p id⟩⟩

theorem stage_holds : stage := by
  refine ⟨fun s h v hhears => ?_, fun s h v p hok => ?_, fun s h v p hhears hnodes => ⟨_, rfl, turned_upward hhears hnodes p _⟩⟩
  · obtain ⟨rxUp, upPlca, rxDn, hcount⟩ := s.countRx_spec h
    by_cases hstale : s.staleReason h = 0
    · refine ⟨{ (s.countRx h).keepTrack h with seq := { (s.countRx h).seq with stageUp := some (v % 256) } }, ?_,
        absurd hstale, fun _ => ?_, ?_⟩
      · change execStage h v none s = _
        simp [execStage, hhears, hstale]
      · rw [hcount]
      · rw [hcount]
        rfl
    · have hdropped := s.dropStale_dropped h (s.staleReason h)
      refine ⟨_, ?_, fun _ => hdropped, fun h0 => absurd h0 hstale, ?_⟩
      · change execStage h v none s = _
        simp [execStage, hhears, hstale]
      · rw [hdropped.2]
  · have htaken := upTaken_upIn hok
    have hlen : h.src < ((s.countRx h).upIn h p).dray.nodes.length := by
      rw [State.upIn_nodes_length, hok.2.2.2.2.1]
      exact State.hearsDown_src hok.1
    refine ⟨_, congrArg Host.Outcome.next (State.upward_of_accepted hok _),
      upTaken_modNode htaken hlen fun _ => ⟨rfl, rfl, rfl, rfl⟩, ?_⟩
    rw [node_modNode_self _ _ _ hlen]

/-- The alarm of a message taken: recorded, to be acknowledged, and passed on by a Zone (R667, R668). -/
def State.alarmIn (h : DrayHdr) (p : DrayUp) (s : State) : State :=
  let s := s.emit 0x0A05 14 [1, h.src, p.subject % 8, p.event % 256]
  let s := { s with dray.ackQ := s.dray.ackQ ++ [(h.src, h.seq % 4096, s.clk.tick)] }
  if s.sys.role = .zone ∧ p.subject % 8 = 0 ∧ s.upUsed = true then
    let mine (a : AlarmQ) : Bool := a.subject == h.src
    let old := (s.dray.alarms.find? mine).getD ⟨h.src, 0, [], [], 0, s.clk.tick⟩
    let a : AlarmQ := { old with cause := old.cause ||| (p.event % 256), summary := p.summary, subjEpoch := h.epoch }
    { s with dray.alarms := (s.dray.alarms.filter fun a => !mine a) ++ [a] }
  else s

theorem find?_subject (l : List AlarmQ) (n : Nat) (d : AlarmQ) (hd : d.subject = n) :
    ((l.find? fun a => a.subject == n).getD d).subject = n := by
  cases hfind : l.find? fun a => a.subject == n with
  | none => exact hd
  | some a => simpa using List.find?_some hfind

theorem State.alarmIn_spec (s : State) (h : DrayHdr) (p : DrayUp) :
    (∃ alarms, (s.alarmIn h p).dray = { s.dray with
        ackQ := s.dray.ackQ ++ [(h.src, h.seq % 4096, s.clk.tick)], alarms := alarms } ∧
      (s.sys.role = .zone → p.subject % 8 = 0 → s.upUsed = true →
        ∃ a ∈ alarms, a.subject = h.src ∧ a.summary = p.summary ∧ a.subjEpoch = h.epoch) ∧
      (s.sys.role ≠ .zone → alarms = s.dray.alarms)) ∧
    s.alarmIn h p = { s with dray := (s.alarmIn h p).dray, rcd := (s.alarmIn h p).rcd } := by
  have hemit : ∃ r, s.emit 0x0A05 14 [1, h.src, p.subject % 8, p.event % 256] = { s with rcd := r } :=
    ⟨_, by simp [State.eq_iff]; rfl⟩
  obtain ⟨r, hr⟩ := hemit
  unfold State.alarmIn
  rw [hr]
  dsimp only
  split
  next hzone =>
    refine ⟨⟨_, rfl, fun _ _ _ => ⟨_, List.mem_append_right _ List.mem_cons_self, ?_, rfl, rfl⟩,
      fun hno => absurd hzone.1 hno⟩, rfl⟩
    exact find?_subject s.dray.alarms h.src _ rfl
  next hzone => exact ⟨⟨_, rfl, fun hz h0 hup => absurd ⟨hz, h0, hup⟩ hzone, fun _ => rfl⟩, rfl⟩

theorem alarm_holds : alarm := by
  refine ⟨fun s h p hok => ?_, fun s h p hhears hnodes => ⟨_, rfl, turned_upward hhears hnodes p (State.alarmIn h p)⟩⟩
  have hgo : Goes (.alarm h p) s (((s.countRx h).upIn h p).alarmIn h p) :=
    congrArg Host.Outcome.next (State.upward_of_accepted hok (State.alarmIn h p))
  refine ⟨_, hgo, ?_⟩
  have htaken := upTaken_upIn hok
  obtain ⟨f, tracks, queue, -, hdray⟩ := State.upIn_dray (s.countRx h) h p
  obtain ⟨rxUp, upPlca, rxDn, hcount⟩ := s.countRx_spec h
  generalize (s.countRx h).upIn h p = u at *
  have hack : u.dray.ackQ = s.dray.ackQ := by rw [hdray, hcount]
  have halarms : u.dray.alarms = s.dray.alarms := by rw [hdray, hcount]
  obtain ⟨-, -, -, -, -, -, -, -, hu⟩ := id htaken
  have htick : u.clk = s.clk := by rw [hu]
  have hrole : u.sys = s.sys := by rw [hu]
  have hused : u.upUsed = s.upUsed := by rw [hu]; rfl
  obtain ⟨⟨alarms, hd, hzone, hother⟩, hframe⟩ := State.alarmIn_spec u h p
  rw [hack, htick] at hd
  rw [hrole, hused] at hzone
  rw [hrole, halarms] at hother
  have hhif : (u.alarmIn h p).hif = u.hif := by rw [hframe]
  refine ⟨upTaken_congr htaken (by rw [hd]) (by rw [hd]) hhif hframe, by rw [hd], ?_, ?_⟩
  · rw [hd]
    exact hzone
  · rw [hd]
    exact hother

/-! ### A node that is silent (R627, R676) -/

theorem idConflictClear_holds : idConflictClear := by
  intro s n hmac2 hsilent
  have hlen : n < s.dray.nodes.length := by
    by_contra hge
    simp [node_default s n (by omega)] at hmac2
  refine ⟨_, congrArg Host.Outcome.next (if_pos (by rw [hmac2, decide_eq_true hsilent]; rfl)), ?_, fun m hm => ?_, ?_⟩
  · exact node_modNode_self s n _ hlen
  · exact node_modNode_ne s n m _ hm
  · rfl

/-- A forecast to the node. -/
def DrayQ.isFor (n : Nat) : DrayQ → Bool
  | .fc _ node _ _ _ _ _ _ _ _ => node == n
  | .st .. => false

/-- The forecast's descriptor ends aborted. -/
def State.abortQueued (s : State) : DrayQ → State
  | .fc slot _ _ _ _ _ _ _ _ _ => s.complete slot stABORTED 1
  | .st .. => s

theorem State.abortQueued_frame (s : State) (q : DrayQ) : FrameEnds s (s.abortQueued q) := by
  cases q <;> simp [State.abortQueued]
theorem ends_abortQueued {s : State} {k st r : Nat} (h : Ends s k st r) (q : DrayQ) : Ends (s.abortQueued q) k st r := by
  cases q with
  | fc slot => exact Ends.complete h slot stABORTED 1
  | st => exact h

/-- The node gone and its frames with it, with nothing recorded and no descriptor ended yet. -/
def State.nodeGone (s : State) (n : Nat) : State :=
  let u := s.modNode n fun d => { d with joined := false, silent := 0, heard := false, capSlots := [], stage := none }
  let hit (i : Nat) : Bool := match u.sys.role with
    | .manager => i / 8 + 1 == n
    | .zone => i == n
    | .branch => false
  { u with dray := { u.dray with
      queue := u.dray.queue.filter fun q => !q.isFor n
      vehicle := u.dray.vehicle.mapIdx fun i (e : VEntry) => if hit i && e.joinedEver then { e with lost := true } else e } }

/-- What a lost node's commands end as. -/
def State.abortNode (s : State) (caps : List (Nat × Option Nat)) (gone : List DrayQ) : State :=
  gone.foldl State.abortQueued (caps.foldl (fun s c => s.complete c.1 stABORTED 1) s)

theorem State.abortNode_frame (s : State) (caps : List (Nat × Option Nat)) (gone : List DrayQ) :
    FrameEnds s (s.abortNode caps gone) := by
  have hcaps : FrameEnds s (caps.foldl (fun s c => s.complete c.1 stABORTED 1) s) :=
    foldl_frameEnds (fun _ _ => by simp) caps s
  have hgone := foldl_frameEnds State.abortQueued_frame gone (caps.foldl (fun s c => s.complete c.1 stABORTED 1) s)
  simp only [State.abortNode, FrameEnds, hcaps, hgone, and_self]

theorem State.abortNode_kept (s : State) (caps : List (Nat × Option Nat)) (gone : List DrayQ) :
    (s.abortNode caps gone).sys = s.sys ∧ (s.abortNode caps gone).regs = s.regs ∧
    (s.abortNode caps gone).live = s.live ∧ (s.abortNode caps gone).pending = s.pending := by
  have hq (s : State) (q : DrayQ) : (s.abortQueued q).sys = s.sys ∧ (s.abortQueued q).regs = s.regs ∧
      (s.abortQueued q).live = s.live ∧ (s.abortQueued q).pending = s.pending := by
    cases q <;> simp [State.abortQueued]
  simp only [forall_and] at hq
  simp [State.abortNode, hq]
theorem ends_abortNode {s : State} {k : Nat} (hk : k < s.hif.tags.length) (hst : (s.tag k).st = .applied)
    (hkept : (s.tag k).discard = false) (o : Option Nat) (gone : List DrayQ) :
    Ends (s.abortNode [(k, o)] gone) k stABORTED 1 := by
  have hend : Ends (s.complete k stABORTED 1) k stABORTED 1 := complete_ends s k stABORTED 1 hk (.inr hst) hkept
  exact List.foldlRecOn gone State.abortQueued (motive := fun u => Ends u k stABORTED 1) hend
    fun _ hu q _ => ends_abortQueued hu q

theorem State.alarmRaise_spec (s : State) (bits : Nat) : ∃ alarms, s.alarmRaise bits = { s with
    dray := { s.dray with alarms := alarms } } := by
  unfold State.alarmRaise
  split
  · exact ⟨s.dray.alarms, rfl⟩
  · exact ⟨_, rfl⟩

theorem nodeLoss_holds : nodeLoss := by
  intro s n hjoined hsilent hdown
  have hlen : n < s.dray.nodes.length := by
    by_contra hge
    simp [node_default s n (by omega)] at hjoined
  let session := ((s.dray.tracks.find? fun t => t.port == 1 && t.node == n).map (·.session)).getD 0
  have hgo : Goes (.nodeLoss n) s ((((s.nodeGone n).joinRecord 1 n session 2).abortNode (s.node n).capSlots
      (s.dray.queue.filter (DrayQ.isFor n))).alarmRaise 0x40) := by
    change execNodeLoss n s = _
    unfold execNodeLoss
    dsimp only
    rw [if_pos (by rw [hjoined, hdown, decide_eq_true hsilent]; rfl)]
    rfl
  obtain ⟨hdray, hframe⟩ : ((s.nodeGone n).joinRecord 1 n session 2).dray = (s.nodeGone n).dray ∧
      (s.nodeGone n).joinRecord 1 n session 2 = { s with
        dray := (s.nodeGone n).dray, rcd := ((s.nodeGone n).joinRecord 1 n session 2).rcd } :=
    ⟨by simp [State.joinRecord], by simp [State.joinRecord, State.eq_iff, State.nodeGone, State.modNode]⟩
  generalize (s.nodeGone n).joinRecord 1 n session 2 = u at *
  have habort := u.abortNode_frame (s.node n).capSlots (s.dray.queue.filter (DrayQ.isFor n))
  generalize hv : u.abortNode (s.node n).capSlots (s.dray.queue.filter (DrayQ.isFor n)) = v at *
  obtain ⟨alarms, halarm⟩ := v.alarmRaise_spec 0x40
  rw [halarm] at hgo
  have hd : v.dray = (s.nodeGone n).dray := by simp [habort, hdray]
  have hnode (m : Nat) : State.node { v with dray := { v.dray with alarms := alarms } } m = (s.nodeGone n).node m :=
    node_of (by rw [hd]) m
  refine ⟨_, hgo, ?_, fun m hm => ?_, fun q hq => ?_, fun k e hcaps hk hst hkept => ?_, ?_, ?_⟩
  · rw [hnode]
    exact node_modNode_self s n _ hlen
  · rw [hnode]
    exact node_modNode_ne s n m _ hm
  · rw [hd] at hq
    obtain ⟨hmem, hfor⟩ := List.mem_filter.1 hq
    refine ⟨hmem, ?_⟩
    rintro a b c d e f g i j rfl
    simp [DrayQ.isFor] at hfor
  · rw [hcaps] at hv
    have hhif : u.hif = s.hif := by rw [hframe]
    have hend : Ends v k stABORTED 1 := by
      rw [← hv]
      exact ends_abortNode (by rw [hhif]; exact hk) (by rw [State.tag, hhif]; exact hst) (by rw [State.tag, hhif]; exact hkept) e _
    exact hend
  · rw [onlyEnds_iff]
    simp [habort]
    rw [hframe]
  · obtain ⟨hsys, hregs, hlive, hpend⟩ := u.abortNode_kept (s.node n).capSlots (s.dray.queue.filter (DrayQ.isFor n))
    have hvu : v = { u with hif := v.hif } := by
      rw [State.eq_iff]
      rw [hv] at hsys hregs hlive hpend
      simp [habort, hsys, hregs, hlive, hpend]
    rw [hvu, hframe]

/-- Settles O45: every accepted message is `State.upIn`, every refused one is counted or is a second address, and a node lost
takes its frames and commands with it. -/
theorem drayLeader : Obligations.DrayLeader :=
  ⟨report_holds, stage_holds, alarm_holds, nodeLoss_holds, idConflictClear_holds⟩

end Sys2Proof.Machine
end

section
/-! O44: what a led node does with the messages of its leader, and without them. -/

namespace Sys2Proof.Machine

open Sys2Proof.Claims

/-! ### Alignment (R74–R77) -/

theorem State.alignTo_spec (s : State) (st : AlignState) : ∃ r, s.alignTo st = { s with
    rcd := r, clk := { s.clk with alignState := st } } :=
  ⟨(s.alignTo st).rcd, by simp [State.alignTo, State.eq_iff]⟩
theorem State.alignLockRecord_spec (s : State) : ∃ r, s.alignLockRecord = { s with rcd := r } :=
  ⟨s.alignLockRecord.rcd, by simp [State.alignLockRecord, State.eq_iff]⟩

theorem alignLock_holds : alignLock := by
  intro s hst hrun
  obtain ⟨r, hto⟩ := s.alignTo_spec .locked
  obtain ⟨r', hrec⟩ := (s.alignTo .locked).alignLockRecord_spec
  refine ⟨_, congrArg Host.Outcome.next (if_pos ⟨hst, hrun⟩), ?_, ?_⟩
  · rw [hrec, hto]
  · rw [hrec, hto]

theorem holdover_holds : holdover := by
  intro s hst hno
  obtain ⟨r, hto⟩ := s.alignTo_spec .holdover
  refine ⟨_, congrArg Host.Outcome.next (if_pos ⟨hst, hno⟩), ?_, ?_⟩
  · rw [hto]
  · rw [hto]

/-- The first sample: the offset to the nearest frame. -/
def State.offsetSet (s : State) (leader own : Int) : State :=
  { s with
    clk := { s.clk with
      alignOfs := nearestFrame (leader - own), ofsSet := true
      alignErr := own + nearestFrame (leader - own) - leader, lockRun := 0 }
    dray := { s.dray with alignNew := false } }

/-- A later sample: its error, and the run of small errors. -/
def State.errorTaken (s : State) (leader own : Int) : State :=
  State.freeStep { s with clk := { s.clk with
    alignErr := own + s.clk.alignOfs - leader
    alignRate := roundQ 112 (s.freeIn (-15000) 15000)
    lockRun := if (own + s.clk.alignOfs - leader).natAbs ≤ 2000 then s.clk.lockRun + 1 else 0 } }

theorem State.alignSample_first {s : State} (hset : s.clk.ofsSet = false ∨ s.dray.alignNew = true) (leader own : Int) :
    ∃ r adv, s.alignSample leader own = { s.offsetSet leader own with
      rcd := r, clk := { (s.offsetSet leader own).clk with alignState := .acquiring }
      dray := { (s.offsetSet leader own).dray with sessionAdv := adv } } := by
  have hgo : s.alignSample leader own = if s.dray.alignNew && s.clk.ofsSet
      then (let v := (s.offsetSet leader own).alignTo .acquiring
        { v.alignLockRecord with dray := { v.alignLockRecord.dray with sessionAdv := v.downUsed } })
      else (s.offsetSet leader own).alignTo .acquiring := by
    unfold State.alignSample
    rw [if_pos (by simpa using hset)]
    rfl
  obtain ⟨r, hto⟩ := (s.offsetSet leader own).alignTo_spec .acquiring
  obtain ⟨r', hrec⟩ := ((s.offsetSet leader own).alignTo .acquiring).alignLockRecord_spec
  generalize s.offsetSet leader own = u at *
  dsimp only at hgo
  rw [hgo, hrec, hto]
  split
  · exact ⟨_, _, rfl⟩
  · exact ⟨_, u.dray.sessionAdv, rfl⟩
theorem State.alignSample_later {s : State} (hset : ¬ (s.clk.ofsSet = false ∨ s.dray.alignNew = true)) (leader own : Int) :
    ∃ r st, s.alignSample leader own = { s.errorTaken leader own with
      rcd := r, clk := { (s.errorTaken leader own).clk with alignState := st } } := by
  have hgo : s.alignSample leader own = if (s.errorTaken leader own).clk.alignState = .holdover
      then (s.errorTaken leader own).alignTo .acquiring else s.errorTaken leader own := by
    unfold State.alignSample
    rw [if_neg (by simpa using hset)]
    rfl
  obtain ⟨r, hto⟩ := (s.errorTaken leader own).alignTo_spec .acquiring
  generalize s.errorTaken leader own = u at *
  rw [hgo]
  split
  · exact ⟨r, _, hto⟩
  · exact ⟨u.rcd, u.clk.alignState, rfl⟩

/-- R75: the first sample sets the offset, the others measure its error. -/
theorem State.alignSample_spec (s : State) (leader own : Int) :
    (s.clk.ofsSet = false ∨ s.dray.alignNew = true → (s.alignSample leader own).clk.ofsSet = true ∧
      (s.alignSample leader own).clk.alignOfs = nearestFrame (leader - own) ∧
      (s.alignSample leader own).clk.alignState = .acquiring) ∧
    (¬ (s.clk.ofsSet = false ∨ s.dray.alignNew = true) → (s.alignSample leader own).clk.alignOfs = s.clk.alignOfs ∧
      (s.alignSample leader own).clk.alignErr = own + s.clk.alignOfs - leader ∧
      (s.alignSample leader own).clk.lockRun =
        if (s.alignSample leader own).clk.alignErr.natAbs ≤ 2000 then s.clk.lockRun + 1 else 0) ∧
    ∃ c r new adv ctr, s.alignSample leader own = { s with
      clk := c, dray := { s.dray with alignNew := new, sessionAdv := adv }, rcd := r, freeCtr := ctr } := by
  by_cases hset : s.clk.ofsSet = false ∨ s.dray.alignNew = true
  · obtain ⟨r, adv, heq⟩ := State.alignSample_first hset leader own
    rw [heq]
    exact ⟨fun _ => ⟨rfl, rfl, rfl⟩, fun h => absurd hset h, _, _, _, _, _, rfl⟩
  · obtain ⟨r, st, heq⟩ := State.alignSample_later hset leader own
    rw [heq]
    exact ⟨fun h => absurd h hset, fun _ => ⟨rfl, rfl, rfl⟩, _, _, s.dray.alignNew, s.dray.sessionAdv, _, rfl⟩

/-! ### The leader's forecasts retired (R674, R677) -/

theorem State.retireFc_lead (s : State) (n status result : Nat) :
    ((s.retireFc n true status result).rail n).fcLead = none ∧
    (∀ m, (s.rail m).fcLead = none → ((s.retireFc n true status result).rail m).fcLead = none) := by
  cases he : (s.rail n).entry true with
  | none =>
    have hsame : s.retireFc n true status result = s := by simp [State.retireFc, he]
    rw [hsame]
    exact ⟨he, fun _ h => h⟩
  | some e =>
    have hn : n < s.rails.length := by
      by_contra hge
      rw [rail_default (by omega)] at he
      exact absurd he (by simp [Rail.entry])
    obtain ⟨hrails, -⟩ := State.retireFc_spec he status result
    have hself : ((s.retireFc n true status result).rail n).fcLead = none := by
      rw [rail_of hrails, State.entryGone, rail_applyCounts, rail_modRail_self _ _ _ hn]
      rfl
    refine ⟨hself, fun m hm => ?_⟩
    by_cases hmn : m = n
    · rw [hmn, hself]
    · rw [rail_of hrails, State.entryGone, rail_applyCounts, rail_modRail_ne _ _ _ _ hmn, hm]

theorem State.retireLead_none (s : State) {n : Nat} (hn : n ∈ s.railIdx) : ((s.retireLead).rail n).fcLead = none := by
  refine each_est (fun s n => s.retireFc n true stDONE 2) (fun t => (t.rail n).fcLead = none) (fun _ => True) n
    (fun _ _ _ => trivial) (fun t _ => (t.retireFc_lead n stDONE 2).1) (fun t j ht => (t.retireFc_lead j stDONE 2).2 n ht)
    s.railIdx hn s trivial

theorem State.joinRecord_spec (s : State) (port node session event : Nat) :
    ∃ r, s.joinRecord port node session event = { s with rcd := r } :=
  ⟨(s.joinRecord port node session event).rcd, by simp [State.joinRecord, State.eq_iff]⟩

/-! ### A beacon (R74–R77, R662, R674, R675) -/

/-- A new session's forecasts are retired, and its first sample sets the offset. -/
def State.sessionTaken (s : State) (h : DrayHdr) : State :=
  let new := s.newSession h
  let s := s.keepTrack h
  let s := if new then (s.joinRecord 0 0 h.session 3).retireLead else s
  if new then { s with dray.alignNew := true } else s

theorem State.sessionTaken_spec (s : State) (h : DrayHdr) :
    (s.newSession h = true → ∀ n ∈ s.railIdx, ((s.sessionTaken h).rail n).fcLead = none) ∧
    (s.newSession h = false → (s.sessionTaken h).rails = s.rails ∧ (s.sessionTaken h).phases = s.phases ∧
      (s.sessionTaken h).hif = s.hif) ∧ OnlyEnds s (s.sessionTaken h) ∧
    ∃ rs ps hf r tracks, s.sessionTaken h = { s with
      rails := rs, phases := ps, hif := hf, rcd := r
      dray := { s.dray with tracks := tracks, alignNew := s.dray.alignNew || s.newSession h } } := by
  unfold State.sessionTaken
  cases hnew : s.newSession h
  · refine ⟨by simp, fun _ => ⟨rfl, rfl, rfl⟩, rfl, s.rails, s.phases, s.hif, s.rcd, (s.keepTrack h).dray.tracks, ?_⟩
    simp [State.keepTrack]
  · obtain ⟨u, hu⟩ : ∃ u, u = (s.keepTrack h).joinRecord 0 0 h.session 3 := ⟨_, rfl⟩
    have hkept : ∃ r, u = { s.keepTrack h with rcd := r } := ⟨_, by rw [hu]; simp [State.joinRecord, State.eq_iff]; rfl⟩
    obtain ⟨r, hr⟩ := hkept
    have hframe : u.retireLead = { u with rails := u.retireLead.rails, phases := u.retireLead.phases, hif := u.retireLead.hif } := by
      simp [State.eq_iff]
    have hends : OnlyEnds u u.retireLead := onlyEnds_iff.2 (by simp)
    have hnone (n : Nat) (hn : n ∈ u.railIdx) := u.retireLead_none hn
    dsimp only
    rw [if_pos rfl, if_pos rfl, ← hu]
    generalize u.retireLead = v at *
    refine ⟨fun _ n hn => hnone n (by rw [hr]; exact hn), by simp, ?_, v.rails, v.phases, v.hif, u.rcd, u.dray.tracks, ?_⟩
    · rw [onlyEnds_iff] at hends ⊢
      change v.hif.rest = _
      rw [hends, hr]
      rfl
    · rw [hframe, hr]
      simp [State.keepTrack]

/-- The stamp of a beacon taken: a sample where its predecessor's is known. -/
def State.stampTaken (s : State) (h : DrayHdr) (prevSfd stamp : Nat) : State :=
  let s := match s.dray.lastStamp with
    | some own =>
      if prevSfd ≠ 0 ∧ s.dray.lastEp + 1 = h.epoch then
        let s := { s with dray.beaconEp := (h.epoch + 1) % 2 ^ 32 }
        let s := s.alignSample ((prevSfd : Int) + s.cfgf 0xA004 0 16) own
        { s with
          clk.noBeacon := 0, dray.upSilent := 0, dray.upHeard := true
          dray.upState := if s.dray.upState = 3 then 1 else s.dray.upState }
      else s
    | none => s
  { s with dray.lastStamp := some stamp, dray.lastEp := h.epoch }

/-- Whether the leader counts the node as joined. -/
def State.joinTaken (s : State) (h : DrayHdr) (joined : BitVec 8) : State :=
  let j := joined.getLsbD s.upId
  let s := if j = s.dray.upJoined then s else
    { s with dray.upJoined := j }.joinRecord 0 s.upId h.session (if j then 1 else 2)
  { s with dray.upState := if j && s.dray.upState != 3 then 2 else if s.dray.upState = 2 then 1 else s.dray.upState }

theorem State.beaconIn_eq (s : State) (h : DrayHdr) (prevSfd : Nat) (joined : BitVec 8) (stamp : Nat) :
    s.beaconIn h prevSfd joined stamp = ((s.sessionTaken h).stampTaken h prevSfd stamp).joinTaken h joined := by
  unfold State.beaconIn State.joinTaken State.stampTaken State.sessionTaken
  dsimp only <;> rfl

theorem State.joinTaken_spec (s : State) (h : DrayHdr) (joined : BitVec 8) : ∃ r up, s.joinTaken h joined = { s with
    rcd := r, dray := { s.dray with upJoined := joined.getLsbD s.upId, upState := up } } := by
  obtain ⟨r, hr⟩ : ∃ r, (if joined.getLsbD s.upId = s.dray.upJoined then s else
      State.joinRecord { s with dray := { s.dray with upJoined := joined.getLsbD s.upId } } 0
        s.upId h.session
        (if joined.getLsbD s.upId then 1 else 2)) =
      { s with rcd := r, dray := { s.dray with upJoined := joined.getLsbD s.upId } } := by
    split
    next hj => exact ⟨s.rcd, by rw [hj]⟩
    · exact State.joinRecord_spec _ _ _ _ _
  unfold State.joinTaken
  dsimp only
  dsimp only at hr
  rw [hr]
  exact ⟨r, _, rfl⟩

theorem State.stampTaken_spec (s : State) (h : DrayHdr) (prevSfd stamp : Nat) :
    let leader : Int := (prevSfd : Int) + s.cfgf 0xA004 0 16
    let set := s.clk.ofsSet = false ∨ s.dray.alignNew = true
    let t := s.stampTaken h prevSfd stamp
    (∀ own, s.dray.lastStamp = some own → prevSfd ≠ 0 → s.dray.lastEp + 1 = h.epoch →
      t.dray.beaconEp = (h.epoch + 1) % 2 ^ 32 ∧ t.dray.upSilent = 0 ∧ t.clk.noBeacon = 0 ∧
      (set → t.clk.ofsSet = true ∧ t.clk.alignOfs = nearestFrame (leader - own) ∧ t.clk.alignState = .acquiring) ∧
      (¬ set → t.clk.alignOfs = s.clk.alignOfs ∧ t.clk.alignErr = own + s.clk.alignOfs - leader ∧
        t.clk.lockRun = if t.clk.alignErr.natAbs ≤ 2000 then s.clk.lockRun + 1 else 0)) ∧
    (s.dray.lastStamp = none ∨ prevSfd = 0 ∨ s.dray.lastEp + 1 ≠ h.epoch → t.clk = s.clk) ∧
    t.dray.lastStamp = some stamp ∧ t.dray.lastEp = h.epoch ∧
    t = { s with clk := t.clk, dray := t.dray, rcd := t.rcd, freeCtr := t.freeCtr } := by
  dsimp only
  by_cases hpair : ∃ own, s.dray.lastStamp = some own ∧ prevSfd ≠ 0 ∧ s.dray.lastEp + 1 = h.epoch
  · obtain ⟨own, hown, hsfd, hep⟩ := hpair
    obtain ⟨u, hu⟩ : ∃ u : State, u = { s with dray := { s.dray with beaconEp := (h.epoch + 1) % 2 ^ 32 } } := ⟨_, rfl⟩
    obtain ⟨hset, herr, c, r, new, adv, ctr, heq⟩ := u.alignSample_spec ((prevSfd : Int) + s.cfgf 0xA004 0 16) own
    obtain ⟨x, hx⟩ : ∃ x, x = u.alignSample ((prevSfd : Int) + s.cfgf 0xA004 0 16) own := ⟨_, rfl⟩
    rw [← hx] at hset herr heq
    have hgo : s.stampTaken h prevSfd stamp = { x with
        clk := { x.clk with noBeacon := 0 }
        dray := { x.dray with
          upSilent := 0, upHeard := true, upState := if x.dray.upState = 3 then 1 else x.dray.upState
          lastStamp := some stamp, lastEp := h.epoch } } := by
      unfold State.stampTaken
      rw [hown]
      dsimp only
      rw [if_pos ⟨hsfd, hep⟩, hx, hu]
      rfl
    have hbeacon : x.dray.beaconEp = (h.epoch + 1) % 2 ^ 32 := by rw [heq, hu]
    have huclk : u.clk = s.clk := by rw [hu]
    have hunew : u.dray.alignNew = s.dray.alignNew := by rw [hu]
    rw [huclk, hunew] at hset herr
    rw [hgo]
    refine ⟨fun own' hown' _ _ => ?_, fun hno => ?_, rfl, rfl, ?_⟩
    · obtain rfl : own = own' := Option.some.inj (hown.symm.trans hown')
      exact ⟨hbeacon, rfl, rfl, hset, herr⟩
    · rcases hno with hno | hno | hno
      · rw [hno] at hown
        cases hown
      · exact absurd hno hsfd
      · exact absurd hep hno
    · rw [heq, hu]
  · have hgo : s.stampTaken h prevSfd stamp = { s with
        dray := { s.dray with lastStamp := some stamp, lastEp := h.epoch } } := by
      unfold State.stampTaken
      cases hown : s.dray.lastStamp with
      | none => rfl
      | some own =>
        dsimp only
        rw [if_neg fun hcond => hpair ⟨own, hown, hcond.1, hcond.2⟩]
    rw [hgo]
    exact ⟨fun own hown hsfd hep => absurd ⟨own, hown, hsfd, hep⟩ hpair, fun _ => rfl, rfl, rfl, rfl⟩

theorem beacon_holds : beacon := by
  intro s h prevSfd leaderState stamp joined flags hhears new leader set
  by_cases hstale : s.staleReason h = 0
  · obtain ⟨hnone, hsame, hends, rs, ps, hf, r, tracks, hu⟩ := (s.countRx h).sessionTaken_spec h
    obtain ⟨hpair, hno, hstamp, hep, hv⟩ := ((s.countRx h).sessionTaken h).stampTaken_spec h prevSfd stamp
    obtain ⟨r', up, hw⟩ := (((s.countRx h).sessionTaken h).stampTaken h prevSfd stamp).joinTaken_spec h joined
    have hgo : Goes (.beacon h prevSfd leaderState joined flags stamp) s ((s.countRx h).beaconIn h prevSfd joined stamp) := by
      change execBeacon h prevSfd leaderState joined flags stamp s = _
      simp [execBeacon, hhears, hstale]
    rw [State.beaconIn_eq] at hgo
    obtain ⟨rxUp, upPlca, rxDn, hcount⟩ := s.countRx_spec h
    have hnew : (s.countRx h).newSession h = new := by rw [hcount]; rfl
    generalize (s.countRx h).sessionTaken h = u at *
    generalize u.stampTaken h prevSfd stamp = v at *
    rw [hnew] at hnone hsame hu
    have huclk : u.clk = s.clk := by rw [hu, hcount]
    have huset : (s.clk.ofsSet = false ∨ u.dray.alignNew = true) ↔ set := by
      rw [hu, hcount]
      simp [set]
    have hucfg : u.cfgf 0xA004 0 16 = s.cfgf 0xA004 0 16 := by rw [hu, hcount]; rfl
    have hulast : u.dray.lastStamp = s.dray.lastStamp := by rw [hu, hcount]
    have hulastEp : u.dray.lastEp = s.dray.lastEp := by rw [hu, hcount]
    have hvId : v.upId = s.upId := by rw [hv, hu, hcount]; rfl
    have hvhif : v.hif = u.hif := by rw [hv]
    have hvrails : v.rails = u.rails := by rw [hv]
    have hvphases : v.phases = u.phases := by rw [hv]
    simp only [huclk, huset, hucfg, hulast, hulastEp] at hpair hno
    rw [hw, hvId] at hgo
    refine ⟨_, hgo, fun h0 => absurd hstale h0, fun _ => ⟨rfl, hstamp, hep, hpair, hno, fun hn n hmem => ?_⟩, ?_, fun hn => ?_, ?_⟩
    · change (v.rail n).fcLead = none
      rw [rail_of hvrails]
      exact hnone hn n (by rw [hcount]; exact hmem)
    · rw [onlyEnds_iff] at hends ⊢
      change v.hif.rest = _
      rw [hvhif, hends, hcount]
    · obtain ⟨hrails, hphases, hhif⟩ := hsame hn
      rw [hcount] at hrails hphases hhif
      exact ⟨hvrails.trans hrails, hvphases.trans hphases, hvhif.trans hhif⟩
    · rw [hv, hu, hcount]
  · have hdropped := s.dropStale_dropped h (s.staleReason h)
    refine ⟨(s.countRx h).dropStale h (s.staleReason h), ?_, fun _ => hdropped, fun h0 => absurd h0 hstale, ?_, ?_, ?_⟩
    · change execBeacon h prevSfd leaderState joined flags stamp s = _
      simp [execBeacon, hhears, hstale]
    · rw [OnlyEnds, hdropped.2]
    · rw [hdropped.2]
      exact fun _ => ⟨rfl, rfl, rfl⟩
    · rw [hdropped.2]

/-! ### Caps, acknowledgements and discarded frames (R654, R665, R668, R679) -/

theorem State.changeCap_spec (s : State) (lead : Bool) (mw : Nat) : ∃ r, s.changeCap lead mw = { s with
    rcd := r, cap := if lead then { s.cap with leader := mw } else { s.cap with host := mw } } := by
  refine ⟨(s.changeCap lead mw).rcd, ?_⟩
  unfold State.changeCap
  dsimp only
  cases lead <;> split <;> simp [State.eq_iff]

theorem cap_holds : cap := by
  intro s h caps hhears
  by_cases hstale : s.staleReason h = 0
  · obtain ⟨rxUp, upPlca, rxDn, hcount⟩ := s.countRx_spec h
    obtain ⟨u, hu⟩ : ∃ u : State, u = { (s.countRx h).keepTrack h with
      dray := { ((s.countRx h).keepTrack h).dray with capEpoch := h.epoch } } := ⟨_, rfl⟩
    obtain ⟨r, hr⟩ := u.changeCap_spec true (caps.getD (u.upId - 1) 0 % 2 ^ 32)
    have hgo : Goes (.cap h caps) s (if u.brake.inFloor then u else
        { u.changeCap true (caps.getD (u.upId - 1) 0 % 2 ^ 32) with
          dray := { (u.changeCap true (caps.getD (u.upId - 1) 0 % 2 ^ 32)).dray with fallback := false } }) := by
      change execCap h caps s = _
      unfold execCap
      rw [if_pos hhears]
      dsimp only
      rw [if_neg (by simpa using hstale), hu]
    have hfloor : u.brake.inFloor = s.brake.inFloor := by rw [hu, hcount]; rfl
    have hid : u.upId = s.upId := by rw [hu, hcount]; rfl
    rw [hr, hfloor, hid] at hgo
    refine ⟨_, hgo, fun h0 => absurd hstale h0, fun _ => ⟨?_, fun hin => ?_, fun hin => ?_⟩, ?_⟩
    · rw [hu]
      split <;> rfl
    · rw [if_neg (by simp [hin]), hu, hcount]
      exact ⟨rfl, rfl⟩
    · rw [if_pos hin, hu, hcount]
      exact ⟨rfl, rfl⟩
    · rw [hu, hcount]
      split <;> rfl
  · have hdropped := s.dropStale_dropped h (s.staleReason h)
    refine ⟨(s.countRx h).dropStale h (s.staleReason h), ?_, fun _ => hdropped, fun h0 => absurd h0 hstale, ?_⟩
    · change execCap h caps s = _
      simp [execCap, hhears, hstale]
    · rw [hdropped.2]

theorem ack_holds : ack := by
  intro s h entries hhears
  by_cases hstale : s.staleReason h = 0
  · obtain ⟨rxUp, upPlca, rxDn, hcount⟩ := s.countRx_spec h
    obtain ⟨u, hu⟩ : ∃ u, u = (s.countRx h).keepTrack h := ⟨_, rfl⟩
    obtain ⟨mine, hmine⟩ : ∃ mine, mine = (entries.filter (·.1 = u.upId)).map (·.2 % 4096) := ⟨_, rfl⟩
    have hgo : Goes (.ack h entries) s { u with dray := { u.dray with
        alarms := u.dray.alarms.filter fun a => !(u.upUsed && a.seqs.any mine.contains) } } := by
      change execAck h entries s = _
      unfold execAck
      rw [if_pos hhears]
      dsimp only
      rw [if_neg (by simpa using hstale), hmine, hu]
    have hid : u.upId = s.upId := by rw [hu, hcount]; rfl
    have hused : u.upUsed = s.upUsed := by rw [hu, hcount]; rfl
    have halarms : u.dray.alarms = s.dray.alarms := by rw [hu, hcount]; rfl
    have hnamed (a : AlarmQ) : a.seqs.any mine.contains = true ↔ ∃ p ∈ entries, p.1 = s.upId ∧ p.2 % 4096 ∈ a.seqs := by
      rw [List.any_eq_true]
      constructor
      · rintro ⟨q, hq, hc⟩
        rw [List.contains_iff_mem, hmine, hid] at hc
        obtain ⟨p, hp, rfl⟩ := List.mem_map.1 hc
        obtain ⟨hmem, hp1⟩ := List.mem_filter.1 hp
        exact ⟨p, hmem, of_decide_eq_true hp1, hq⟩
      · rintro ⟨p, hmem, hp1, hq⟩
        refine ⟨_, hq, ?_⟩
        rw [List.contains_iff_mem, hmine, hid]
        exact List.mem_map.2 ⟨p, List.mem_filter.2 ⟨hmem, decide_eq_true hp1⟩, rfl⟩
    rw [hused, halarms] at hgo
    refine ⟨_, hgo, fun h0 => absurd hstale h0, fun _ => ⟨fun a ha => (List.mem_filter.1 ha).1, fun a ha => ?_⟩, ?_⟩
    · change a ∈ s.dray.alarms.filter _ ↔ _
      rw [List.mem_filter, ← hnamed]
      cases s.upUsed <;> simp [ha]
    · rw [hu, hcount]
      rfl
  · have hdropped := s.dropStale_dropped h (s.staleReason h)
    refine ⟨(s.countRx h).dropStale h (s.staleReason h), ?_, fun _ => hdropped, fun h0 => absurd h0 hstale, ?_⟩
    · change execAck h entries s = _
      simp [execAck, hhears, hstale]
    · rw [hdropped.2]

theorem drayCrcDiscard_holds : drayCrcDiscard := by
  intro s port hrun hport
  exact ⟨_, congrArg Host.Outcome.next (if_pos ⟨hport, hrun⟩), rfl, rfl, rfl⟩

theorem drayUplinkLoss_holds : drayUplinkLoss := by
  intro s hused hstate hlost hsilent
  obtain ⟨after, hafter⟩ : ∃ after, after =
    (match s.cfgf 0xA008 16 2 with | 0 => s.cap.leader | 2 => s.cfgv 0xA00C | _ => 0) := ⟨_, rfl⟩
  obtain ⟨u, hu⟩ : ∃ u, u = s.emit 0x0A04 14 [s.dray.upSilent, s.cfgf 0xA008 16 2, s.cap.leader, after] := ⟨_, rfl⟩
  obtain ⟨r, hr⟩ := u.retireLead.changeCap_spec true after
  have hgo : Goes .drayUplinkLoss s { u.retireLead.changeCap true after with
      dray := { (u.retireLead.changeCap true after).dray with
        upState := 3, upJoined := false, upPlca := false, fallback := s.cfgf 0xA008 16 2 != 0 } } := by
    change execDrayUplinkLoss s = _
    unfold execDrayUplinkLoss
    rw [if_pos (by simp [hused, hstate, hlost]; exact hsilent), hu, hafter] <;> rfl
  have huw : u.retireLead = { u with
      rails := u.retireLead.rails, phases := u.retireLead.phases, hif := u.retireLead.hif } := by simp [State.eq_iff]
  have hends : OnlyEnds u u.retireLead := onlyEnds_iff.2 (by simp)
  have hnone (n : Nat) (hn : n ∈ u.railIdx) := u.retireLead_none hn
  obtain ⟨r', hus⟩ : ∃ r', u = { s with rcd := r' } := ⟨u.rcd, by rw [hu]; simp [State.eq_iff]⟩
  generalize u.retireLead = w at *
  rw [if_pos rfl] at hr
  rw [hr] at hgo
  refine ⟨_, hgo, rfl, rfl, ?_, fun n hn => hnone n (by rw [hus]; exact hn), ?_, ?_⟩
  · have hcap : w.cap = s.cap := by rw [huw, hus]
    change { w.cap with leader := after } = _
    rw [hcap, hafter] <;> rfl
  · rw [onlyEnds_iff] at hends ⊢
    change w.hif.rest = _
    rw [hends, hus]
  · rw [huw, hus]

/-! ### A forecast (R671, R679) -/

/-- The entry `e` is put, perhaps in speculation already; the rail's other entry and the other rails stand. -/
def EntryPut (s : State) (n : Nat) (lead : Bool) (e : Fc) (t : State) : Prop :=
  (∃ e', (t.rail n).entry lead = some e' ∧ e'.t = e.t ∧ e'.di = e.di ∧ e'.rise = e.rise ∧ e'.window = e.window ∧
    e'.slot = e.slot) ∧
  (t.rail n).entry (!lead) = (s.rail n).entry (!lead) ∧ (∀ m, m ≠ n → t.rail m = s.rail m) ∧ n < t.rails.length

theorem EntryPut.congr {s t u : State} {n : Nat} {lead : Bool} {e : Fc} (h : EntryPut s n lead e t) (hrails : u.rails = t.rails) :
    EntryPut s n lead e u := by
  obtain ⟨hput, hother, hrest, hlen⟩ := h
  exact ⟨by rw [rail_of hrails]; exact hput, by rw [rail_of hrails]; exact hother,
    fun m hm => by rw [rail_of hrails]; exact hrest m hm, by rw [hrails]; exact hlen⟩
theorem EntryPut.modRail {s t : State} {n : Nat} {lead : Bool} {e : Fc} (h : EntryPut s n lead e t) {f : Rail → Rail}
    (hf : ∀ r l, (f r).entry l = r.entry l) : EntryPut s n lead e (t.modRail n f) := by
  obtain ⟨hput, hother, hrest, hlen⟩ := h
  have hself := rail_modRail_self t n f hlen
  exact ⟨by rw [hself, hf]; exact hput, by rw [hself, hf]; exact hother,
    fun m hm => by rw [rail_modRail_ne _ _ _ _ hm]; exact hrest m hm, by simpa using hlen⟩
theorem Rail.entry_setEntry_other (r : Rail) (lead : Bool) (e : Option Fc) :
    (r.setEntry lead e).entry (!lead) = r.entry (!lead) := by
  cases lead <;> rfl
theorem EntryPut.specStart {s t : State} {n : Nat} {lead : Bool} {e : Fc} (h : EntryPut s n lead e t) :
    EntryPut s n lead e (t.specStart n lead) := by
  obtain ⟨⟨e', he', hsame⟩, hother, hrest, hlen⟩ := id h
  by_cases hdue : t.specDue n e' = true
  · rw [State.specStart_eq he' hdue]
    refine EntryPut.congr (t := t.modRail n fun r =>
      { r.setEntry lead (some (t.specEntry n e')) with specAct := satInc 32 r.specAct }) ?_ (by simp)
    have hself := rail_modRail_self t n (fun r =>
      { r.setEntry lead (some (t.specEntry n e')) with specAct := satInc 32 r.specAct }) hlen
    refine ⟨⟨t.specEntry n e', ?_, hsame⟩, ?_, fun m hm => ?_, by simpa using hlen⟩
    · rw [hself]
      exact Rail.entry_setEntry ..
    · rw [hself]
      exact (Rail.entry_setEntry_other ..).trans hother
    · rw [rail_modRail_ne _ _ _ _ hm]
      exact hrest m hm
  · have hsame : t.specStart n lead = t := by simp [State.specStart, he', hdue]
    rw [hsame]
    exact h

theorem entryPut_putForecast (s : State) {n : Nat} (hlen : n < s.rails.length) (lead : Bool) (e : Fc) :
    EntryPut s n lead e (s.putForecast n lead e) := by
  have hself := rail_modRail_self s n (fun r => r.setEntry lead (some e)) hlen
  have hset : EntryPut s n lead e (s.modRail n fun r => r.setEntry lead (some e)) :=
    ⟨⟨e, by rw [hself]; exact Rail.entry_setEntry .., rfl, rfl, rfl, rfl, rfl⟩,
      by rw [hself]; exact Rail.entry_setEntry_other .., fun m hm => rail_modRail_ne _ _ _ _ hm, by simpa using hlen⟩
  unfold State.putForecast
  dsimp only
  cases (s.rail n).entry lead with
  | none => exact hset
  | some o =>
    generalize (s.modRail n fun r => r.setEntry lead (some e)) = u at *
    obtain ⟨v, hv⟩ : ∃ v, v = if o.spec && !u.specDue n e then
        (u.modRail n fun r => { r with specUndo := satInc 32 r.specUndo }).applyCounts n else u := ⟨_, rfl⟩
    have hput : EntryPut s n lead e v := by
      rw [hv]
      split
      · exact EntryPut.congr (t := u.modRail n fun r => { r with specUndo := satInc 32 r.specUndo })
          (hset.modRail fun r l => by cases l <;> rfl) (by simp)
      · exact hset
    dsimp only
    rw [← hv]
    have hended : EntryPut s n lead e (match o.slot with | some k => v.complete k stSUPERSEDED 0 | none => v) := by
      split
      · exact hput.congr (by simp)
      · exact hput
    split
    · exact hended.specStart
    · exact hended

theorem State.fcRefusal_rail {s : State} (hshape : s.shape) {t rise window rail : Nat} {di : Int}
    (hok : s.fcRefusal t di rise window rail = 0) : rail < s.rails.length := by
  have hrail : ¬ (s.sys.variant.rails ≤ rail || !(s.rail rail).isOn) = true := by
    intro hno
    rw [State.fcRefusal, if_pos hno] at hok
    cases hok
  have hmax : s.sys.variant.rails ≤ 16 := by cases s.sys.variant <;> decide
  obtain ⟨hlen, -, -, -, -⟩ := hshape
  simp at hrail
  omega

theorem forecast_holds : forecast := by
  intro s h time rise window rail di hshape hhears own
  by_cases hstale : s.staleReason h = 0
  · obtain ⟨rxUp, upPlca, rxDn, hcount⟩ := s.countRx_spec h
    obtain ⟨u, hu⟩ : ∃ u : State, u = { (s.countRx h).keepTrack h with
      dray := { ((s.countRx h).keepTrack h).dray with fcAck := some (h.seq % 4096) } } := ⟨_, rfl⟩
    have hown : ((time : Int) - u.clk.alignOfs).toNat = own := by rw [hu, hcount]; rfl
    obtain ⟨v, hv⟩ : ∃ v : State, v = u.emit 0x0A08 14 [rail, i32 di, u.fcRefusal own di rise window rail, h.seq % 4096] :=
      ⟨_, rfl⟩
    obtain ⟨e, he⟩ : ∃ e : Fc, e = { t := own, di := di, rise := rise, window := window, slot := none } := ⟨_, rfl⟩
    have hgo : Goes (.forecast h time di rise window rail) s (if u.brake.inFloor then u
        else if u.fcRefusal own di rise window rail = 0 then v.putForecast rail true e else v) := by
      change execForecast h time di rise window rail s = _
      unfold execForecast
      rw [if_pos hhears]
      dsimp only
      rw [if_neg (by simpa using hstale), he, hv, ← hown, hu]
      split <;> rfl
    have hfloor : u.brake.inFloor = s.brake.inFloor := by rw [hu, hcount]; rfl
    have hrefusal : u.fcRefusal own di rise window rail = s.fcRefusal own di rise window rail := by rw [hu, hcount]; rfl
    obtain ⟨r, hvu⟩ : ∃ r, v = { u with rcd := r } := ⟨v.rcd, by rw [hv]; simp [State.eq_iff]⟩
    obtain ⟨d, hvs⟩ : ∃ d, v = { s with rcd := r, dray := d } := ⟨v.dray, by rw [hvu, hu, hcount]; rfl⟩
    have hack : v.dray.fcAck = some (h.seq % 4096) := by rw [hvu, hu]
    rw [hfloor, hrefusal] at hgo
    by_cases hput : s.brake.inFloor = false ∧ s.fcRefusal own di rise window rail = 0
    · obtain ⟨hin, hok⟩ := hput
      rw [if_neg (by simp [hin]), if_pos hok] at hgo
      have hlen : rail < v.rails.length := by
        rw [hvs]
        exact State.fcRefusal_rail hshape hok
      obtain ⟨⟨e', he', htime, hdi, hrise, hwindow, hslot⟩, hother, hrest, -⟩ := entryPut_putForecast v hlen true e
      have hends : OnlyEnds v (v.putForecast rail true e) := onlyEnds_iff.2 (by simp)
      have hframe : v.putForecast rail true e = { v with
          rails := (v.putForecast rail true e).rails, phases := (v.putForecast rail true e).phases
          hif := (v.putForecast rail true e).hif } := by
        simp [State.eq_iff]
      generalize v.putForecast rail true e = w at *
      have hvrail (m : Nat) : v.rail m = s.rail m := rail_of (by rw [hvs]) m
      refine ⟨w, hgo, fun h0 => absurd hstale h0, fun _ => ⟨by rw [hframe, hack], fun hno => ?_, fun _ _ => ⟨⟨e', he', ?_⟩, ?_⟩⟩,
        fun m _ hm => ?_, ?_, ?_⟩
      · rcases hno with hno | hno
        · rw [hin] at hno
          cases hno
        · exact absurd hok hno
      · rw [htime, hdi, hrise, hwindow, hslot, he]
        exact ⟨rfl, rfl, rfl, rfl, rfl⟩
      · rw [← hvrail]
        exact hother
      · rw [hrest m (by simpa using hm), hvrail]
      · rw [onlyEnds_iff] at hends ⊢
        rw [hends, hvs]
      · rw [hframe, hvs]
    · have hgoes : ∃ w, Goes (.forecast h time di rise window rail) s w ∧ w.dray.fcAck = some (h.seq % 4096) ∧
          w = { s with dray := w.dray, rcd := w.rcd } := by
        refine ⟨_, hgo, ?_⟩
        split
        · rw [hu, hcount]
          exact ⟨rfl, rfl⟩
        next hin =>
          rw [if_neg fun hok => hput ⟨by simpa using hin, hok⟩]
          exact ⟨hack, by rw [hvs]⟩
      obtain ⟨w, hgoes, hwack, hw⟩ := hgoes
      refine ⟨w, hgoes, fun h0 => absurd hstale h0, fun _ => ⟨hwack, fun _ => hw, fun hin hok => absurd ⟨hin, hok⟩ hput⟩, ?_, ?_, ?_⟩
      · rw [hw]
        exact fun _ _ _ => rfl
      · rw [hw]
        rfl
      · rw [hw]
  · have hdropped := s.dropStale_dropped h (s.staleReason h)
    refine ⟨(s.countRx h).dropStale h (s.staleReason h), ?_, fun _ => hdropped, fun h0 => absurd h0 hstale, ?_, ?_, ?_⟩
    · change execForecast h time di rise window rail s = _
      simp [execForecast, hhears, hstale]
    · rw [hdropped.2]
      exact fun _ _ _ => rfl
    · rw [OnlyEnds, hdropped.2]
    · rw [hdropped.2]

/-- Settles O44: a message that is not stale is taken by one operation each, and one that is stale is dropped. -/
theorem drayUplink : Obligations.DrayUplink :=
  ⟨beacon_holds, alignLock_holds, holdover_holds, cap_holds, forecast_holds, ack_holds, drayUplinkLoss_holds,
    drayCrcDiscard_holds⟩

end Sys2Proof.Machine
end

section
/-! O46: Drayline transmission and the descriptors behind it. -/

namespace Sys2Proof.Machine

open Sys2Proof.Claims

/-! ### One frame on the wire (R658, R768) -/

theorem State.inject_spec (s : State) : ∃ m ctr, s.inject = { s with maint := m, freeCtr := ctr } := ⟨_, _, rfl⟩

/-- Only what was sent or is held, and the perturbation unit, differ; unperturbed, the frame is sent. -/
theorem State.putFrame_spec (s : State) (f : DraySent) : ∃ m ctr sent held,
    s.putFrame f = { s with maint := m, freeCtr := ctr, dray := { s.dray with sent := sent, heldTx := held } } ∧
    (s.perturbs 4 = false → m = s.maint ∧ sent = s.dray.sent ++ [f]) := by
  unfold State.putFrame
  obtain ⟨struck, hstruck⟩ : ∃ struck, struck =
    (s.perturbs 4 && s.cfgf 0xE018 0 1 == 1 - (if f.port = 0 then 1 else 0)) := ⟨_, rfl⟩
  rw [← hstruck]
  cases struck
  · exact ⟨s.maint, s.freeCtr, _, s.dray.heldTx, rfl, fun _ => ⟨rfl, rfl⟩⟩
  · have hp : s.perturbs 4 = true := by
      rw [eq_comm, Bool.and_eq_true] at hstruck
      exact hstruck.1
    rw [hp, if_pos rfl]
    dsimp only
    split
    · exact ⟨_, _, s.dray.sent, s.dray.heldTx, rfl, by simp⟩
    · split
      · exact ⟨_, _, s.dray.sent, _, rfl, by simp⟩
      · exact ⟨s.maint, _, _, s.dray.heldTx, rfl, by simp⟩

theorem State.sendDown_spec (s : State) (type dst : Nat) (payload : List Byte) : ∃ m ctr sent held,
    s.sendDown type dst payload = { s with maint := m, freeCtr := ctr, dray := { s.dray with
      sent := sent, heldTx := held, downSeq := (s.dray.downSeq + 1) % 4096 } } ∧
    (s.perturbs 4 = false → m = s.maint ∧ ∃ f, sent = s.dray.sent ++ [f] ∧ f.port = 1 ∧ f.type = type ∧
      f.seq = s.dray.downSeq ∧ f.payload = payload) := by
  obtain ⟨m, ctr, sent, held, heq, hsent⟩ := s.putFrame_spec {
    port := 1, type := type, dst := dst, seq := s.dray.downSeq, session := s.dray.session.toNat, epoch := s.dray.buildEp
    flags := s.drayFlags, payload := payload }
  refine ⟨m, ctr, sent, held, ?_, fun hp => ⟨(hsent hp).1, _, (hsent hp).2, rfl, rfl, rfl, rfl⟩⟩
  unfold State.sendDown
  rw [heq]

/-- The payload of an upward frame. -/
def State.upPayload (s : State) (subject event : Nat) (summary : List Byte) (subjEpoch : Nat) : List Byte :=
  padTo 64 (padTo 48 summary ++ leBytes 1 subject ++ leBytes 1 event ++
    leBytes 2 (match s.dray.fcAck with | some q => q % 4096 + 2 ^ 15 | none => 0) ++
    leBytes 4 s.dray.capEpoch ++ leBytes 4 subjEpoch)

theorem State.sendUp_spec (s : State) (type subject event : Nat) (summary : List Byte) (subjEpoch : Nat) : ∃ m ctr sent held,
    s.sendUp type subject event summary subjEpoch = { s with maint := m, freeCtr := ctr, dray := { s.dray with
      sent := sent, heldTx := held, upSeq := (s.dray.upSeq + 1) % 4096 } } ∧
    (s.perturbs 4 = false → ∃ f, sent = s.dray.sent ++ [f] ∧ f.port = 0 ∧ f.seq = s.dray.upSeq ∧
      f.session = s.dray.session.toNat ∧ f.epoch = s.dray.buildEp ∧ f.type = type) := by
  obtain ⟨m, ctr, sent, held, heq, hsent⟩ := s.putFrame_spec {
    port := 0, type := type, dst := 0, seq := s.dray.upSeq, session := s.dray.session.toNat, epoch := s.dray.buildEp
    flags := s.drayFlags, payload := s.upPayload subject event summary subjEpoch }
  have hgo : s.sendUp type subject event summary subjEpoch =
      (let u := s.putFrame {
        port := 0, type := type, dst := 0, seq := s.dray.upSeq, session := s.dray.session.toNat, epoch := s.dray.buildEp
        flags := s.drayFlags, payload := s.upPayload subject event summary subjEpoch }
      { u with dray := { u.dray with upSeq := (u.dray.upSeq + 1) % 4096 } }) := rfl
  refine ⟨m, ctr, sent, held, ?_, fun hp => ⟨_, (hsent hp).2, rfl, rfl, rfl, rfl, rfl⟩⟩
  rw [hgo, heq]

/-! ### The uplink's frame of the epoch (R659) -/

/-- The uplink has sent its one frame. -/
def UpSent (s t : State) : Prop :=
  t.dray.upDue = false ∧ t.dray.upSeq = (s.dray.upSeq + 1) % 4096 ∧
  (s.perturbs 4 = false → ∃ f, t.dray.sent = s.dray.sent ++ [f] ∧ f.port = 0 ∧ f.seq = s.dray.upSeq ∧
    f.session = s.dray.session.toNat ∧ f.epoch = s.dray.buildEp ∧ (f.type = 3 ∨ f.type = 5 ∨ f.type = 6)) ∧
  OnlyEnds s t ∧ t = { s with hif := t.hif, dray := t.dray, rcd := t.rcd, maint := t.maint, freeCtr := t.freeCtr }

theorem upSent_sendUp {s u : State} {r : Rec} {alarms : List AlarmQ} {stages : List (Nat × Option Nat × Nat)} {rot : Nat}
    (hu : u = { s with rcd := r, dray := { s.dray with upDue := false, alarms := alarms, upStages := stages, rot := rot } })
    {type : Nat} (htype : type = 3 ∨ type = 5 ∨ type = 6) (subject event : Nat) (summary : List Byte) (subjEpoch : Nat) :
    UpSent s (u.sendUp type subject event summary subjEpoch) := by
  obtain ⟨m, ctr, sent, held, heq, hsent⟩ := u.sendUp_spec type subject event summary subjEpoch
  subst hu
  rw [heq]
  refine ⟨rfl, rfl, fun hp => ?_, rfl, rfl⟩
  obtain ⟨f, hf, hport, hseq, hsession, hepoch, hft⟩ := hsent hp
  exact ⟨f, hf, hport, hseq, hsession, hepoch, by rw [hft]; exact htype⟩

theorem UpSent.complete {s t : State} (h : UpSent s t) (k st r : Nat) : UpSent s (t.complete k st r) := by
  obtain ⟨hdue, hseq, hsent, hends, hframe⟩ := h
  have hdray : (t.complete k st r).dray = t.dray := by simp
  have hrest : t.complete k st r = { t with hif := (t.complete k st r).hif } := by simp [State.eq_iff]
  rw [UpSent, hdray]
  refine ⟨hdue, hseq, hsent, ?_, ?_⟩
  · rw [onlyEnds_iff] at hends ⊢
    simpa using hends
  · rw [hrest, hframe]

/-- The frame with an ALARM. -/
def State.frameAlarm (s : State) (a : AlarmQ) : State :=
  let u := { s with dray := { s.dray with
    upDue := false, alarms := s.dray.alarms.replace a { a with seqs := a.seqs ++ [s.dray.upSeq] } } }
  let u := if a.seqs.isEmpty then u.emit 0x0A05 14 [0, u.upId, a.subject, a.cause] else u
  if a.subject = 0 then u.sendUp 6 0 a.cause s.dray.ownSummary s.dray.buildEp
  else u.sendUp 6 a.subject a.cause a.summary a.subjEpoch
/-- The frame with a STAGE. -/
def State.frameStage (s : State) (g : Nat × Option Nat × Nat) : State :=
  let u := State.sendUp { s with dray := { s.dray with upDue := false, upStages := s.dray.upStages.erase g } } 5 0 g.1
    s.dray.ownSummary s.dray.buildEp
  match g.2.1 with | some k => u.complete k stDONE u.epochNo | none => u
/-- The frame with a REPORT. -/
def State.frameReport (s : State) : State :=
  let n := State.nextSubject { s with dray := { s.dray with upDue := false } }
  let u := { s with dray := { s.dray with upDue := false, rot := n } }
  let e := u.dray.vehicle.getD n {}
  if n = 0 then u.sendUp 3 0 0 s.dray.ownSummary s.dray.buildEp else u.sendUp 3 n 0 e.summary e.epoch

theorem State.frameUp_eq (s : State) : (∃ a, s.frameUp = s.frameAlarm a) ∨ (∃ g, s.frameUp = s.frameStage g) ∨
    s.frameUp = s.frameReport := by
  generalize ht : s.frameUp = t
  unfold State.frameUp at ht
  dsimp only at ht
  split at ht
  next a _ => exact .inl ⟨a, ht.symm⟩
  · split at ht
    next g _ => exact .inr (.inl ⟨g, ht.symm⟩)
    · exact .inr (.inr ht.symm)

theorem State.frameAlarm_sent (s : State) (a : AlarmQ) : UpSent s (s.frameAlarm a) := by
  unfold State.frameAlarm
  obtain ⟨u, hu⟩ : ∃ u : State, u = { s with dray := { s.dray with
    upDue := false, alarms := s.dray.alarms.replace a { a with seqs := a.seqs ++ [s.dray.upSeq] } } } := ⟨_, rfl⟩
  obtain ⟨r, hr⟩ : ∃ r, (if a.seqs.isEmpty then u.emit 0x0A05 14 [0, u.upId, a.subject, a.cause] else u) =
      { u with rcd := r } := by
    split
    · exact ⟨(u.emit 0x0A05 14 [0, u.upId, a.subject, a.cause]).rcd, by simp [State.eq_iff]⟩
    · exact ⟨u.rcd, rfl⟩
  dsimp only at hu ⊢
  rw [← hu, hr, hu]
  split
  · exact upSent_sendUp rfl (by simp) _ _ _ _
  · exact upSent_sendUp rfl (by simp) _ _ _ _

theorem State.frameUp_sent (s : State) : UpSent s s.frameUp := by
  rcases s.frameUp_eq with ⟨a, heq⟩ | ⟨g, heq⟩ | heq
  all_goals rw [heq]
  · exact s.frameAlarm_sent a
  · have hsent := upSent_sendUp (s := s) (r := s.rcd) (alarms := s.dray.alarms) (stages := s.dray.upStages.erase g)
      (rot := s.dray.rot) rfl (by simp : 5 = 3 ∨ 5 = 5 ∨ 5 = 6) 0 g.1 s.dray.ownSummary s.dray.buildEp
    unfold State.frameStage
    dsimp only
    split
    · exact hsent.complete _ _ _
    · exact hsent
  · unfold State.frameReport
    dsimp only
    split
    · exact upSent_sendUp (r := s.rcd) (alarms := s.dray.alarms) (stages := s.dray.upStages) rfl (by simp) _ _ _ _
    · exact upSent_sendUp (r := s.rcd) (alarms := s.dray.alarms) (stages := s.dray.upStages) rfl (by simp) _ _ _ _

/-! ### The downlink's burst (R656–R658) -/

/-- At most `n` frames have gone down, an ACK, a FORECAST or a STAGE each. -/
def DownSent (s : State) (n : Nat) (t : State) : Prop :=
  OnlyEnds s t ∧ t = { s with hif := t.hif, dray := t.dray, maint := t.maint, freeCtr := t.freeCtr } ∧
  t.dray.capsOut = s.dray.capsOut ∧
  (s.perturbs 4 = false → t.maint = s.maint ∧ ∃ l, t.dray.sent = s.dray.sent ++ l ∧ l.length ≤ n ∧
    ∀ f ∈ l, f.port = 1 ∧ (f.type = 7 ∨ f.type = 4 ∨ f.type = 5))

theorem DownSent.refl (s : State) : DownSent s 0 s :=
  ⟨rfl, rfl, rfl, fun _ => ⟨rfl, [], by simp, by simp, by simp⟩⟩
theorem DownSent.mono {s t : State} {n m : Nat} (h : DownSent s n t) (hnm : n ≤ m) : DownSent s m t := by
  obtain ⟨hends, hframe, hcaps, hsent⟩ := h
  refine ⟨hends, hframe, hcaps, fun hp => ?_⟩
  obtain ⟨hm, l, hl, hlen, htypes⟩ := hsent hp
  exact ⟨hm, l, hl, by omega, htypes⟩
theorem DownSent.queues {s t : State} {n : Nat} (h : DownSent s n t) (acks : List (Nat × Nat × Nat)) (queue : List DrayQ) :
    DownSent s n { t with dray := { t.dray with ackQ := acks, queue := queue } } := by
  obtain ⟨hends, hframe, hcaps, hsent⟩ := h
  exact ⟨hends, by rw [hframe], hcaps, hsent⟩
theorem DownSent.complete {s t : State} {n : Nat} (h : DownSent s n t) (k st r : Nat) : DownSent s n (t.complete k st r) := by
  obtain ⟨hends, hframe, hcaps, hsent⟩ := h
  have hrest : t.complete k st r = { t with hif := (t.complete k st r).hif } := by simp [State.eq_iff]
  refine ⟨?_, by rw [hrest, hframe], by simpa using hcaps, by simpa using hsent⟩
  rw [onlyEnds_iff] at hends ⊢
  simpa using hends
theorem DownSent.sendDown {s t : State} {n : Nat} (h : DownSent s n t) {type : Nat} (htype : type = 7 ∨ type = 4 ∨ type = 5)
    (dst : Nat) (payload : List Byte) : DownSent s (n + 1) (t.sendDown type dst payload) := by
  obtain ⟨hends, hframe, hcaps, hsent⟩ := h
  obtain ⟨m, ctr, sent, held, heq, hput⟩ := t.sendDown_spec type dst payload
  rw [heq]
  refine ⟨hends, by rw [hframe], hcaps, fun hp => ?_⟩
  obtain ⟨hm, l, hl, hlen, htypes⟩ := hsent hp
  have hpt : t.perturbs 4 = false := by
    rw [hframe]
    unfold State.perturbs
    rw [hm]
    exact hp
  obtain ⟨hm', f, hf, hport, hft, -, -⟩ := hput hpt
  refine ⟨hm'.trans hm, l ++ [f], ?_, ?_, fun g hg => ?_⟩
  · change sent = _
    rw [hf, hl, List.append_assoc]
  · simp
    omega
  · rcases List.mem_append.1 hg with hg | hg
    · exact htypes g hg
    · rw [List.mem_singleton] at hg
      exact ⟨by rw [hg, hport], by rw [hg, hft]; exact htype⟩

theorem DownSent.sendItem {s t : State} {n : Nat} (h : DownSent s n t) (q : DrayQ) : DownSent s (n + 1) (t.sendItem q) := by
  cases q with
  | st stage slot since =>
    have hsent := (h.queues t.dray.ackQ (t.dray.queue.erase (.st stage slot since))).sendDown (by simp : 5 = 7 ∨ 5 = 4 ∨ 5 = 5)
      0xFF (padTo 4 (leBytes 1 stage))
    unfold State.sendItem
    dsimp only
    cases slot with
    | none => exact hsent
    | some k => exact hsent.complete _ _ _
  | fc slot node time di rise window rail since first seqs =>
    exact (h.queues t.dray.ackQ _).sendDown (by simp) _ _

/-- What follows BEACON and CAP in the burst: an ACK where there are ALARMs to name, and one further frame. -/
def State.burstRest (s : State) : State :=
  let acks := s.ackNow
  let s := if acks.isEmpty then s
    else s.sendDown 7 0xFF (padTo 28 (acks.flatMap fun a => leBytes 1 a.1 ++ [0] ++ leBytes 2 a.2.1))
  let s := { s with dray.ackQ := s.dray.ackQ.filter fun a => !acks.contains a }
  match s.nextItem with | some q => s.sendItem q | none => s

theorem State.burstRest_sent (s : State) : DownSent s 2 s.burstRest := by
  unfold State.burstRest
  extract_lets acks u _ v
  have hu : DownSent s 1 u := by
    unfold u
    split
    · exact (DownSent.refl s).mono (by omega)
    · exact (DownSent.refl s).sendDown (by simp) _ _
  have hv : DownSent s 1 v := hu.queues _ u.dray.queue
  split
  · exact hv.sendItem _
  · exact hv.mono (by omega)

/-- BEACON and CAP. -/
def State.burstHead (s : State) : State :=
  let hold : Bool := s.sys.variant.hasPath && (s.path.st == .handover || s.path.st == .holdup)
  let s := s.sendDown 1 0xFF (padTo 16 (leBytes 8 s.dray.prevSfd ++ leBytes 1 s.clk.alignState.code ++
    leBytes 1 s.joinedMask ++ leBytes 1 (bit1 s.brake.inFloor + 2 * bit1 hold)))
  s.sendDown 2 0xFF (padTo 32 (s.dray.capsOut.flatMap (leBytes 4)))

theorem State.burstHead_spec (s : State) : ∃ m ctr sent held seq, s.burstHead = { s with
      maint := m, freeCtr := ctr, dray := { s.dray with sent := sent, heldTx := held, downSeq := seq } } ∧
    (s.perturbs 4 = false → m = s.maint ∧ ∃ b c, sent = s.dray.sent ++ [b, c] ∧ b.type = 1 ∧ b.seq = s.dray.downSeq ∧
      c.type = 2 ∧ c.seq = (s.dray.downSeq + 1) % 4096 ∧ c.payload = padTo 32 (s.dray.capsOut.flatMap (leBytes 4))) := by
  unfold State.burstHead
  extract_lets hold u
  obtain ⟨m, ctr, sent, held, hu, hb⟩ : ∃ m ctr sent held, u = { s with maint := m, freeCtr := ctr, dray := { s.dray with
      sent := sent, heldTx := held, downSeq := (s.dray.downSeq + 1) % 4096 } } ∧
      (s.perturbs 4 = false → m = s.maint ∧ ∃ f, sent = s.dray.sent ++ [f] ∧ f.port = 1 ∧ f.type = 1 ∧
        f.seq = s.dray.downSeq ∧ f.payload = _) := s.sendDown_spec 1 0xFF _
  obtain ⟨m', ctr', sent', held', heq, hc⟩ := u.sendDown_spec 2 0xFF (padTo 32 (u.dray.capsOut.flatMap (leBytes 4)))
  rw [heq]
  clear_value u
  subst hu
  refine ⟨m', ctr', sent', held', _, rfl, fun hp => ?_⟩
  obtain ⟨hm, b, hsent, -, hbt, hbs, -⟩ := hb hp
  subst hm
  obtain ⟨hm', c, hsent', -, hct, hcs, hcp⟩ := hc hp
  exact ⟨hm', b, c, by rw [hsent', hsent, List.append_assoc]; rfl, hbt, hbs, hct, hcs, hcp⟩

theorem drayTransmit_holds : drayTransmit := by
  refine ⟨fun s sfd hmay hpos hrel hhold hdue => ?_, fun s sfd hmay hpos hrel hhold hdue => ?_⟩
  · refine ⟨s.frameUp, ?_, s.frameUp_sent⟩
    simp [Goes, exec, execDrayTransmit, hmay, hpos, hrel, hhold, hdue]
  · obtain ⟨m, ctr, sent, held, seq, hu, hhead⟩ := s.burstHead_spec
    obtain ⟨hends, hframe, hcaps, hrest⟩ := s.burstHead.burstRest_sent
    have hgo : s.burstDown sfd = { s.burstHead.burstRest with dray := { s.burstHead.burstRest.dray with
        prevSfd := ((sfd : Int) + s.burstHead.burstRest.clk.alignOfs).toNat
        capsSent := s.burstHead.burstRest.dray.capsOut, downDue := false } } := rfl
    have hclk : s.burstHead.burstRest.clk = s.clk := by rw [hframe, hu]
    rw [hclk, hcaps, hu] at hgo
    rw [hu] at hends hframe hrest
    have hgoes : Goes (.drayTransmit 1 sfd) s (s.burstDown sfd) := by
      simp [Goes, exec, execDrayTransmit, hmay, hpos, hrel, hhold, hdue]
    rw [hgo] at hgoes
    generalize State.burstRest _ = t at *
    refine ⟨_, hgoes, ?_⟩
    refine ⟨rfl, rfl, rfl, fun hp => ?_, hends, by rw [hframe]⟩
    obtain ⟨hm, b, c, hbc, hb, hbs, hc, hcs, hcp⟩ := hhead hp
    subst hm
    obtain ⟨-, l, hl, hlen, htypes⟩ := hrest hp
    exact ⟨b, c, l, by rw [hl, hbc, List.append_assoc]; rfl, hb, hbs, hc, hcs, hcp, hlen, htypes⟩

/-! ### The descriptors (R406, R661, R669, R670) -/

theorem drayCap_holds : drayCap := by
  intro s k hserved n mw hdown hn hjoined hmw
  have hop := applyDesc_plain (fn := fun _ => some fDOWN) (fun d s =>
    let n := descIndex d
    let mw := descField d 24 4
    if mw ≠ 0 ∧ mw < 100000 then s.reject k stBADPARAM 1
    else if !s.downUsed then s.reject k stBADPARAM 3
    else if !(s.node n).joined then s.reject k stBADPARAM 2
    else (s.modNode n fun d => { d with hostCap := mw, capSlots := d.capSlots ++ [(k, none)] }).hold k) hserved rfl
  dsimp only at hop
  rw [if_neg (show ¬(mw ≠ 0 ∧ mw < 100000) by omega), if_neg (by simp [hdown]),
    if_neg (show ¬(!(s.node n).joined) = true by simp [hjoined])] at hop
  refine ⟨_, hop, ?_, fun m hm => ?_, hold_tag (by exact hserved.1), hold_tagsBut _ k, rfl⟩
  · exact node_modNode_self s n (fun d => { d with hostCap := mw, capSlots := d.capSlots ++ [(k, none)] }) hn
  · exact node_modNode_ne s n m (fun d => { d with hostCap := mw, capSlots := d.capSlots ++ [(k, none)] }) hm

/-- What an allowed DRAY_FORECAST comes to. -/
def State.drayForecastOp (s : State) (k n time : Nat) (di : Int) (rise window rail : Nat) : State :=
  if ((time + 1000 * window : Nat) : Int) < s.aligned then s.reject k stDEADLINE 0
  else if 32 ≤ s.dray.queue.length then s
  else State.hold { s with dray := { s.dray with
    queue := s.dray.queue ++ [DrayQ.fc k n time di rise window rail s.clk.tick none []] } } k

theorem drayForecast_holds : drayForecast := by
  intro s k hserved d n time di rise window hdown hjoined hfields htime
  have hop : Goes (.drayForecast k) s (s.drayForecastOp k n time di rise window (descField d 40 1)) := by
    refine (applyDesc_plain _ hserved rfl).trans ?_
    dsimp only
    rw [if_neg (by simp [hdown]), if_neg (show ¬(!(s.node n).joined) = true by simp [hjoined]), if_neg ?_]
    · unfold State.drayForecastOp
      simp only [decide_eq_true_eq]
      rfl
    · rw [show fcFieldsOk _ _ _ = true from hfields, decide_eq_false (not_lt.2 htime)]
      simp
  refine ⟨_, hop, fun hlate => ?_, fun hin hroom => ?_, fun hin hfull => ?_, ?_⟩
  all_goals unfold State.drayForecastOp
  · rw [if_pos hlate]
    exact ⟨reject_ends hserved _ _, onlyEnds_iff.2 (by simp)⟩
  · rw [if_neg (by omega), if_neg (by omega)]
    exact ⟨rfl, hold_tag (by exact hserved.1), hold_tagsBut _ k⟩
  · rw [if_neg (by omega), if_pos hfull]
  · repeat' split
    · simp [State.eq_iff]
    · rfl
    · rfl

/-- What a DRAY_STAGE comes to. -/
def State.drayStageOp (s : State) (k port v : Nat) : State :=
  if port ≠ 0x70 ∧ port ≠ 0x71 then s.reject k stBADPARAM 1
  else if (port = 0x70 ∧ s.downUsed = false) ∨ (port = 0x71 ∧ s.sys.role = .manager) then s.reject k stBADPARAM 3
  else if port = 0x70 then
    (if 32 ≤ s.dray.queue.length then s
     else State.hold { s with
       dray := { s.dray with queue := s.dray.queue ++ [DrayQ.st v (some k) s.clk.tick] }
       seq := { s.seq with stageSent := v } } k)
  else State.hold { s with
    dray := { s.dray with upStages := s.dray.upStages ++ [(v, some k, s.clk.tick)] }
    seq := { s.seq with stageSent := v } } k

theorem drayStage_holds : drayStage := by
  intro s k hserved port v
  have hop : Goes (.drayStage k) s (s.drayStageOp k port v) := applyDesc_plain _ hserved rfl
  refine ⟨_, hop, fun h0 h1 => ?_, fun h0 hdown hroom => ?_, fun h1 hrole => ?_, ?_⟩
  all_goals unfold State.drayStageOp
  · rw [if_pos ⟨h0, h1⟩]
    exact ⟨reject_ends hserved _ _, onlyEnds_iff.2 (by simp), by simp [State.eq_iff]⟩
  · rw [if_neg (by omega), if_neg (by simp [h0, hdown]), if_pos h0, if_neg (by omega)]
    exact ⟨rfl, rfl, hold_tag (by exact hserved.1), hold_tagsBut _ k⟩
  · rw [if_neg (by omega), if_neg (by simp [h1, hrole]), if_neg (by omega)]
    exact ⟨rfl, rfl, hold_tag (by exact hserved.1), hold_tagsBut _ k⟩
  · repeat' split
    · simp [State.eq_iff]
    · simp [State.eq_iff]
    · rfl
    · rfl
    · rfl

/-- Settles O46: a frame sent is one step of `State.putFrame`, and each descriptor is refused, held or ended. -/
theorem draySending : Obligations.DraySending :=
  ⟨drayTransmit_holds, drayCap_holds, drayForecast_holds, drayStage_holds⟩

end Sys2Proof.Machine
end

section
/-! A twin that stands down (R507, R534): its rails and switches are off, and it holds none of the pair's work. -/

namespace Sys2Proof.Machine

open Sys2Proof.Claims

/-! ### The state of a rail through the operations that turn one off -/

@[simp] theorem State.clearWarns_st (s : State) (n j : Nat) : ((s.clearWarns n).rail j).st = (s.rail j).st := by
  unfold State.clearWarns
  dsimp only
  refine (modRail_keep Rail.st (by exact fun _ => rfl) _ n j).trans (congrArg Rail.st (rail_of ?_ j))
  simp
theorem Rail.setEntry_st (r : Rail) (lead : Bool) (e : Option Fc) : (r.setEntry lead e).st = r.st := by
  unfold Rail.setEntry
  split <;> rfl
@[simp] theorem State.retireFc_st (s : State) (n : Nat) (lead : Bool) (status result j : Nat) :
    ((s.retireFc n lead status result).rail j).st = (s.rail j).st := by
  unfold State.retireFc
  dsimp only
  split
  · rfl
  · split
    · rw [rail_complete, rail_applyCounts]
      exact modRail_keep Rail.st (by exact fun r => Rail.setEntry_st r lead none) s n j
    · rw [rail_applyCounts]
      exact modRail_keep Rail.st (by exact fun r => Rail.setEntry_st r lead none) s n j
@[simp] theorem State.endOn_st (s : State) (n code j : Nat) : ((s.endOn n code).rail j).st = (s.rail j).st := by
  unfold State.endOn
  dsimp only
  refine (modRail_keep Rail.st (by exact fun _ => rfl) _ n j).trans ?_
  simp only [State.clearWarns_st, State.retireFc_st]
  refine congrArg Rail.st (rail_of ?_ j)
  cases (s.rail n).onSlot <;> cases (s.rail n).setSlot <;> simp
theorem State.park_st (s : State) (n j : Nat) :
    ((s.park n).rail j).st = if j = n ∧ n < s.rails.length then .off else (s.rail j).st := by
  unfold State.park
  dsimp only
  rw [rail_completeAll, rail_modRail]
  split
  next h => simp_all
  next h => simp_all

/-! ### Turning off at once -/

/-- One unit of `shortOff`. -/
def State.shortUnit (code : Nat) (s : State) (u : Nat) : State :=
  if !(s.rail u).isOn then s
  else ((s.endOn u code).modRail u fun r => { r with offVref := r.vref, offTick := s.clk.tick }).park u

theorem State.shortOff_eq (s : State) (n code : Nat) : s.shortOff n code = s.each (s.pairUnits n) (State.shortUnit code) := rfl
@[simp] theorem State.shortUnit_length (s : State) (code u : Nat) : (s.shortUnit code u).rails.length = s.rails.length := by
  simp [State.shortUnit]
theorem State.shortUnit_st (s : State) (code u j : Nat) : ((s.shortUnit code u).rail j).st =
    if (s.rail u).isOn = true ∧ j = u ∧ u < s.rails.length then .off else (s.rail j).st := by
  unfold State.shortUnit
  split
  next hoff => rw [if_neg (by rintro ⟨hon, -⟩; simp [hon] at hoff)]
  next hon =>
    rw [State.park_st, modRail_keep Rail.st (by exact fun _ => rfl), State.endOn_st]
    simp_all
theorem State.shortUnit_keepsOff {s : State} {j : Nat} (code u : Nat) (hoff : (s.rail j).isOn = false) :
    ((s.shortUnit code u).rail j).isOn = false := by
  rw [Rail.isOn, State.shortUnit_st]
  split
  · rfl
  · exact hoff
theorem State.shortUnit_off {s : State} {u : Nat} (code : Nat) (hu : u < s.rails.length) :
    ((s.shortUnit code u).rail u).isOn = false := by
  rw [Rail.isOn, State.shortUnit_st]
  by_cases hon : (s.rail u).isOn = true
  · rw [if_pos ⟨hon, rfl, hu⟩]
    rfl
  · rw [if_neg fun h => hon h.1]
    exact Bool.eq_false_iff.2 hon
/-- A rail whose pair is turned off at once is off, and no such visit turns one on. -/
theorem State.shortOff_off {s : State} {n : Nat} (code : Nat) (hn : n < s.rails.length) :
    ((s.shortOff n code).rail n).isOn = false :=
  each_est (State.shortUnit code) (fun t => (t.rail n).isOn = false) (fun t => n < t.rails.length) n
    (fun _ _ ht => by simpa using ht) (fun _ ht => State.shortUnit_off code ht)
    (fun t u ht => State.shortUnit_keepsOff code u ht) _ (mem_pairUnits s n) s hn
theorem State.shortOff_keepsOff {s : State} {j : Nat} (n code : Nat) (hoff : (s.rail j).isOn = false) :
    ((s.shortOff n code).rail j).isOn = false :=
  each_inv (State.shortUnit code) (fun t => (t.rail j).isOn = false) (fun t u ht => State.shortUnit_keepsOff code u ht) _ s hoff

/-- `outputsOff` visits the rails twice: off at once, then the end of any discharge. -/
def State.railsShort (s : State) : State := s.each s.railIdx fun s n => (s.cancelRetry n).shortOff n 0
def State.railsParked (s : State) : State := s.each s.railIdx fun s n => if (s.rail n).st = .turnOff then s.park n else s
def State.swsOff (s : State) : State :=
  s.each s.swIdx fun s n => if (s.sw n).st = .latched then s else s.modSw n fun c => { c.gateOff with st := .off, gateLow := true }
theorem State.outputsOff_eq (s : State) : s.outputsOff =
    let u := s.railsShort.railsParked.swsOff
    if u.sys.variant.hasPath then { u with path.searching := false }.convTo .idle else u := rfl

theorem State.cancelRetry_st (s : State) (n j : Nat) : ((s.cancelRetry n).rail j).st = (s.rail j).st :=
  modRail_keep Rail.st (by intro r; split <;> rfl) s n j
theorem State.cancelRetry_isOn (s : State) (n j : Nat) : ((s.cancelRetry n).rail j).isOn = (s.rail j).isOn := by
  simp only [Rail.isOn, State.cancelRetry_st]

theorem State.railsShort_off {s : State} {n : Nat} (hn : n ∈ s.railIdx) (hlen : n < s.rails.length) :
    (s.railsShort.rail n).isOn = false := by
  refine each_est (fun s n => (s.cancelRetry n).shortOff n 0) (fun t => (t.rail n).isOn = false)
    (fun t => n < t.rails.length) n (fun t u ht => ?_) (fun t ht => ?_) (fun t u ht => ?_) _ hn s hlen
  · simpa using ht
  · exact State.shortOff_off 0 (by simpa using ht)
  · exact State.shortOff_keepsOff u 0 (by rw [State.cancelRetry_isOn, ht])
theorem State.railsParked_off {s : State} {n : Nat} (hoff : (s.rail n).isOn = false) : (s.railsParked.rail n).isOn = false := by
  refine each_inv (fun s n => if (s.rail n).st = .turnOff then s.park n else s) (fun t => (t.rail n).isOn = false)
    (fun t u ht => ?_) _ s hoff
  split
  · rw [Rail.isOn, State.park_st]
    split
    · rfl
    · exact ht
  · exact ht

/-- Off, or latched off. -/
def Switch.isDown (c : Switch) : Prop := c.st = .off ∨ c.st = .latched

theorem State.swsOff_down {s : State} {n : Nat} (hn : n ∈ s.swIdx) : (s.swsOff.sw n).isDown := by
  have hvisit (t : State) (u : Nat) (h : u = n ∨ (t.sw n).isDown) : Switch.isDown (State.sw (if (t.sw u).st = .latched then t
      else t.modSw u fun c => { c.gateOff with st := .off, gateLow := true }) n) := by
    by_cases hlen : n < t.sws.length
    · split
      next hl =>
        rcases h with rfl | h
        · exact .inr hl
        · exact h
      next hl =>
        by_cases hu : u = n
        · rw [hu, sw_modSw_self _ _ _ hlen]
          exact .inl rfl
        · rw [sw_modSw_ne _ _ _ _ (Ne.symm hu)]
          exact h.resolve_left hu
    · rw [sw_default (by split <;> simpa using hlen)]
      exact .inl rfl
  exact each_est (fun s n => if (s.sw n).st = .latched then s else
    s.modSw n fun c => { c.gateOff with st := .off, gateLow := true }) (fun t => (t.sw n).isDown) (fun _ => True) n
    (fun _ _ _ => trivial) (fun t _ => hvisit t n (.inl rfl)) (fun t u ht => hvisit t u (.inr ht)) _ hn s trivial

theorem State.outputsOff_off {s : State} (hshape : s.shape) :
    (∀ n ∈ s.railIdx, (s.outputsOff.rail n).isOn = false) ∧ (∀ n ∈ s.swIdx, (s.outputsOff.sw n).isDown) := by
  have hmax : s.sys.variant.rails ≤ 16 := by cases s.sys.variant <;> decide
  obtain ⟨hlen, -, -, -, -⟩ := hshape
  have htail : s.outputsOff.rails = s.railsShort.railsParked.swsOff.rails ∧
      s.outputsOff.sws = s.railsShort.railsParked.swsOff.sws := by
    rw [State.outputsOff_eq]
    dsimp only
    split <;> simp
  refine ⟨fun n hn => ?_, fun n hn => ?_⟩
  · have hlt : n < s.rails.length := by
      have : n < s.sys.variant.rails := List.mem_range.1 hn
      omega
    have hsws : s.railsShort.railsParked.swsOff.rails = s.railsShort.railsParked.rails := by simp [State.swsOff]
    rw [rail_of (htail.1.trans hsws)]
    exact State.railsParked_off (State.railsShort_off hn hlt)
  · rw [sw_of htail.2]
    refine State.swsOff_down ?_
    have hvar : s.railsShort.railsParked.sys = s.sys := by simp [State.railsShort, State.railsParked]
    rw [State.swIdx, hvar]
    exact hn

/-! ### What a twin forgets (R534, R537) -/

theorem State.forgetSlots_rail (s : State) (n : Nat) : (s.forgetSlots.rail n).isOn = (s.rail n).isOn := by
  simp only [State.rail, State.forgetSlots, Rail.isOn, List.getD_eq_getElem?_getD, List.getElem?_map]
  cases s.rails[n]? <;> rfl
theorem State.forgetSlots_sw (s : State) (n : Nat) : (s.forgetSlots.sw n).st = (s.sw n).st := by
  simp only [State.sw, State.forgetSlots, List.getD_eq_getElem?_getD, List.getElem?_map]
  cases s.sws[n]? <;> rfl
theorem State.forgetSlots_free (s : State) (k : Nat) : (s.forgetSlots.tag k).st = .free := by
  simp only [State.tag, State.forgetSlots, List.getD_eq_getElem?_getD, List.getElem?_map]
  cases s.hif.tags[k]? <;> rfl

/-- A twin that stands down drives nothing and holds nothing of the pair's work. -/
theorem standDown_stoodDown {s : State} (hshape : s.shape) : StoodDown s s.standDown := by
  have hsys : s.shadowEnd.sys = s.sys := by simp
  have hshape' : s.shadowEnd.shape := by
    simpa [State.shape] using hshape
  obtain ⟨hrails, hsws⟩ := State.outputsOff_off hshape'
  refine ⟨fun n hn => ?_, fun n hn => ?_, fun k => State.forgetSlots_free _ k, rfl⟩
  · rw [State.standDown, State.forgetSlots_rail]
    exact hrails n (by rw [State.railIdx, hsys]; exact hn)
  · rw [State.standDown, State.forgetSlots_sw]
    exact hsws n (by rw [State.swIdx, hsys]; exact hn)

/-- The pair's state after a twin has stood down. -/
theorem State.standDown_tdm (s : State) : s.standDown.tdm = { s.tdm with
    evid := 0, lossTick := none, takePend := 0, shRecall := [], misRun := 0, noEq := 0, misOver := false, equalRun := 0
    skipCmp := false, resyncReq := 0, joinReady := false, rejoinSlots := [], retireSlots := [] } := by
  have hshadow : s.shadowEnd.tdm = { s.tdm with
      evid := 0, lossTick := none, takePend := 0, shRecall := [], misRun := 0, noEq := 0, misOver := false, equalRun := 0
      skipCmp := false, resyncReq := 0, joinReady := false } := by
    simp [State.shadowEnd]
  have houts : s.shadowEnd.outputsOff.tdm = s.shadowEnd.tdm := by simp
  rw [State.standDown]
  change { s.shadowEnd.outputsOff.tdm with rejoinSlots := [], retireSlots := [] } = _
  rw [houts, hshadow]

theorem State.tdmTo_spec (s : State) (st : TState) (cause : Nat) : ∃ r c, s.tdmTo st cause = { s with
    rcd := r, tdm := { s.tdm with st := st, cause := c } } ∧ (s.tdm.st ≠ st → c = cause) := by
  unfold State.tdmTo
  split
  next h => exact ⟨s.rcd, s.tdm.cause, by rw [← h], fun hne => absurd h hne⟩
  next h => exact ⟨_, cause, by simp [State.eq_iff]; rfl, fun _ => rfl⟩

theorem stoodDown_tdmTo {s t : State} (h : StoodDown s t) (st : TState) (cause : Nat) : StoodDown s (t.tdmTo st cause) := by
  obtain ⟨r, c, heq, -⟩ := t.tdmTo_spec st cause
  rw [heq]
  exact h

/-- A twin that goes out of the pair's work in the state `st`. -/
theorem State.standDown_tdmTo (s : State) (st : TState) (cause : Nat) :
    (s.shape → StoodDown s (s.standDown.tdmTo st cause)) ∧ (s.standDown.tdmTo st cause).pending = s.pending ∧
    (s.tdm.st ≠ st → (s.standDown.tdmTo st cause).tdm.cause = cause) ∧
    ∃ c, (s.standDown.tdmTo st cause).tdm = { s.tdm with
      st := st, cause := c, evid := 0, lossTick := none, takePend := 0, shRecall := [], misRun := 0, noEq := 0
      misOver := false, equalRun := 0, skipCmp := false, resyncReq := 0, joinReady := false, rejoinSlots := []
      retireSlots := [] } := by
  have hdown (hshape : s.shape) := stoodDown_tdmTo (standDown_stoodDown hshape) st cause
  have hpend : (s.standDown.tdmTo st cause).pending = s.pending := by simp
  have htdm := s.standDown_tdm
  obtain ⟨r, c, heq, hc⟩ := s.standDown.tdmTo_spec st cause
  rw [htdm] at hc
  refine ⟨hdown, hpend, fun hne => ?_, c, ?_⟩
  · rw [heq]
    exact hc hne
  · rw [heq, htdm]

/-! ### The link (R513, R516, R522, R527) -/

/-- What a link loss comes to before the twin's own answer. -/
def State.linkGone (s : State) (cause lane : Nat) : State :=
  State.emit { s with tdm := { s.tdm with linkUp := false, downs := satInc 16 s.tdm.downs, missRun := 0 } } 0x0801 15
    [2, cause, lane, State.frame { s with tdm := { s.tdm with linkUp := false, downs := satInc 16 s.tdm.downs, missRun := 0 } }]

theorem State.linkGone_spec (s : State) (cause lane : Nat) : ∃ r, s.linkGone cause lane = { s with
    rcd := r, tdm := { s.tdm with linkUp := false, downs := satInc 16 s.tdm.downs, missRun := 0 } } :=
  ⟨(s.linkGone cause lane).rcd, by simp [State.linkGone, State.eq_iff]⟩

/-- The twin's answer to a link loss. -/
def State.linkAnswer (s : State) : State :=
  match s.tdm.st with
  | .active =>
    let held := s.tdm.mirrored
    let s := { s with tdm.peer := 0 }
    let s := s.tdmTo .solo 0
    { s with
      tdm.mirrored := false, tdm.soloHold := held, tdm.soloUntil := s.clk.tick + s.cfgf 0x7000 8 4 + 2
      tdm.yieldReq := 0, tdm.resyncSend := 0 }
  | .shadow => { s with tdm.peer := 0, tdm.lossTick := some s.clk.tick, tdm.evid := 0 }
  | .joining => { s with tdm.peer := 0 }.standDown.tdmTo .orphan 0
  | _ => { s with tdm.peer := 0 }

theorem State.linkLoss_eq (s : State) (cause lane : Nat) : s.linkLoss cause lane = (s.linkGone cause lane).linkAnswer := by
  unfold State.linkLoss State.linkAnswer State.linkGone
  rfl

theorem State.linkAnswer_active {s : State} (hst : s.tdm.st = .active) : ∃ r c, s.linkAnswer = { s with
    rcd := r, tdm := { s.tdm with
      peer := 0, st := .solo, cause := c, mirrored := false, soloHold := s.tdm.mirrored
      soloUntil := s.clk.tick + s.cfgf 0x7000 8 4 + 2, yieldReq := 0, resyncSend := 0 } } := by
  obtain ⟨r, c, heq, -⟩ := State.tdmTo_spec { s with tdm := { s.tdm with peer := 0 } } .solo 0
  have hgo : s.linkAnswer = (let u := State.tdmTo { s with tdm := { s.tdm with peer := 0 } } .solo 0
      { u with tdm := { u.tdm with
        mirrored := false, soloHold := s.tdm.mirrored, soloUntil := u.clk.tick + u.cfgf 0x7000 8 4 + 2
        yieldReq := 0, resyncSend := 0 } }) := by
    unfold State.linkAnswer
    rw [hst] <;> rfl
  rw [hgo, heq]
  exact ⟨r, c, rfl⟩
theorem State.linkAnswer_shadow {s : State} (hst : s.tdm.st = .shadow) : s.linkAnswer = { s with
    tdm := { s.tdm with peer := 0, lossTick := some s.clk.tick, evid := 0 } } := by
  unfold State.linkAnswer
  simp only [hst]
theorem State.linkAnswer_joining {s : State} (hst : s.tdm.st = .joining) : s.linkAnswer =
    (State.standDown { s with tdm := { s.tdm with peer := 0 } }).tdmTo .orphan 0 := by
  unfold State.linkAnswer
  simp only [hst]
theorem State.linkAnswer_other {s : State} (hactive : s.tdm.st ≠ .active) (hshadow : s.tdm.st ≠ .shadow)
    (hjoining : s.tdm.st ≠ .joining) : s.linkAnswer = { s with tdm := { s.tdm with peer := 0 } } := by
  unfold State.linkAnswer
  split
  · exact absurd ‹_› hactive
  · exact absurd ‹_› hshadow
  · exact absurd ‹_› hjoining
  · rfl

theorem tdmLinkDown_holds : tdmLinkDown := by
  intro s cause lane hshape htdm hup hrun
  have hgo : Goes (.tdmLinkDown cause lane) s (s.linkLoss cause lane) :=
    congrArg Host.Outcome.next (if_pos (by simp [htdm, hup, hrun]))
  obtain ⟨r, hr⟩ := s.linkGone_spec cause lane
  rw [State.linkLoss_eq, hr] at hgo
  refine ⟨_, hgo, ?_⟩
  by_cases hactive : s.tdm.st = .active
  · obtain ⟨r', c, heq⟩ := State.linkAnswer_active (s := { s with
      rcd := r, tdm := { s.tdm with linkUp := false, downs := satInc 16 s.tdm.downs, missRun := 0 } }) hactive
    rw [heq]
    simp [hactive]
    rfl
  · by_cases hshadow : s.tdm.st = .shadow
    · rw [State.linkAnswer_shadow (by exact hshadow)]
      simp [hshadow]
    · by_cases hjoining : s.tdm.st = .joining
      · rw [State.linkAnswer_joining (by exact hjoining)]
        obtain ⟨hdown, hpend, -, c, heq⟩ := State.standDown_tdmTo { s with rcd := r, tdm := { s.tdm with
          linkUp := false, downs := satInc 16 s.tdm.downs, missRun := 0, peer := 0 } } .orphan 0
        refine ⟨by rw [heq], by rw [heq], by rw [heq], fun h => absurd h hactive, fun h => absurd h hshadow,
          fun _ => ⟨by rw [heq], hdown hshape⟩, fun _ _ h => absurd hjoining h, fun h => absurd hjoining h, hpend⟩
      · rw [State.linkAnswer_other (by exact hactive) (by exact hshadow) (by exact hjoining)]
        simp [hactive, hshadow, hjoining]

/-- Whatever the twin's state, the link is down and its counts of blocks stand. -/
theorem State.linkAnswer_link (s : State) : s.linkAnswer.tdm.linkUp = s.tdm.linkUp ∧ s.linkAnswer.tdm.peer = 0 ∧
    s.linkAnswer.tdm.misses = s.tdm.misses ∧ s.linkAnswer.tdm.crcFails = s.tdm.crcFails ∧
    s.linkAnswer.pending = s.pending := by
  by_cases hactive : s.tdm.st = .active
  · obtain ⟨r, c, heq⟩ := State.linkAnswer_active hactive
    rw [heq]
    exact ⟨rfl, rfl, rfl, rfl, rfl⟩
  · by_cases hshadow : s.tdm.st = .shadow
    · rw [State.linkAnswer_shadow hshadow]
      exact ⟨rfl, rfl, rfl, rfl, rfl⟩
    · by_cases hjoining : s.tdm.st = .joining
      · rw [State.linkAnswer_joining hjoining]
        obtain ⟨-, hpend, -, c, heq⟩ := State.standDown_tdmTo { s with tdm := { s.tdm with peer := 0 } } .orphan 0
        rw [heq, hpend]
        exact ⟨rfl, rfl, rfl, rfl, rfl⟩
      · rw [State.linkAnswer_other hactive hshadow hjoining]
        exact ⟨rfl, rfl, rfl, rfl, rfl⟩

theorem blockMissing_holds : blockMissing := by
  intro s crc htdm hup hrun hpair
  obtain ⟨u, hu⟩ : ∃ u : State, u = { s with tdm := { s.tdm with
    misses := satInc 16 s.tdm.misses, crcFails := if crc then satInc 16 s.tdm.crcFails else s.tdm.crcFails
    missRun := s.tdm.missRun + 1, missFirst := if s.tdm.missEpoch = 0 then s.clk.strobe else s.tdm.missFirst
    missEpoch := s.tdm.missEpoch + 1, crcEpoch := s.tdm.crcEpoch + bit1 crc } } := ⟨_, rfl⟩
  have hgo : Goes (.blockMissing crc) s (if s.cfgf 0x7000 12 4 ≤ s.tdm.missRun + 1 then u.linkLoss 3 0 else u) := by
    subst hu
    change execBlockMissing crc s = _
    unfold execBlockMissing
    rw [if_pos (by simpa [htdm, hup, hrun] using hpair)]
    rfl
  by_cases hmany : s.cfgf 0x7000 12 4 ≤ s.tdm.missRun + 1
  · rw [if_pos hmany, State.linkLoss_eq] at hgo
    obtain ⟨r, hr⟩ := u.linkGone_spec 3 0
    obtain ⟨hlink, hpeer, hmisses, hcrc, hpend⟩ := (u.linkGone 3 0).linkAnswer_link
    generalize (u.linkGone 3 0).linkAnswer = t at *
    rw [hr, hu] at hlink hmisses hcrc hpend
    exact ⟨t, hgo, hmisses, hcrc, fun hfew => absurd hmany (by omega), fun _ => ⟨hlink, hpeer⟩, hpend⟩
  · rw [if_neg hmany] at hgo
    refine ⟨u, hgo, ?_⟩
    rw [hu]
    exact ⟨rfl, rfl, fun _ => ⟨hup, rfl, rfl⟩, fun h => absurd h hmany, rfl⟩

theorem tdmLinkUp_holds : tdmLinkUp := by
  intro s sideB peer htdm hdown hrun
  obtain ⟨u, hu⟩ : ∃ u : State, u = { s with tdm := { s.tdm with
    linkUp := true, peerSideB := sideB, peer := peer % 16, missRun := 0 } } := ⟨_, rfl⟩
  obtain ⟨r, hr⟩ : ∃ r, u.emit 0x0801 15 [1, 0, 0, u.frame] = { u with rcd := r } :=
    ⟨(u.emit 0x0801 15 [1, 0, 0, u.frame]).rcd, by simp [State.eq_iff]⟩
  have hgo : Goes (.tdmLinkUp sideB peer) s (let v := u.emit 0x0801 15 [1, 0, 0, u.frame]
      if v.cfgb 0x7000 16 && (v.tdm.st == .orphan || (v.tdm.st == .faulty && v.tdm.cause != 3 && v.tdm.cause != 4))
      then { v with tdm := { v.tdm with autoJoinAt := some (v.clk.tick + 100) } } else v) := by
    subst hu
    change execTdmLinkUp sideB peer s = _
    unfold execTdmLinkUp
    rw [if_pos (by simp [htdm, hdown, hrun])]
  rw [hr, hu] at hgo
  dsimp only at hgo
  split at hgo
  next hagain => exact ⟨_, hgo, rfl, rfl, rfl, fun _ _ => rfl, rfl, rfl⟩
  next hagain =>
    refine ⟨_, hgo, rfl, rfl, rfl, fun horphan hauto => ?_, rfl, rfl⟩
    refine absurd ?_ hagain
    change (s.cfgb 0x7000 16 && (s.tdm.st == .orphan || _)) = true
    rw [hauto, horphan]
    rfl

theorem soloHoldEnd_holds : soloHoldEnd := by
  intro s hhold hdue
  exact ⟨_, congrArg Host.Outcome.next (if_pos (by rw [hhold, decide_eq_true hdue]; rfl)), rfl⟩

theorem orphan_holds : orphan := by
  intro s tick hshape hloss hst hdue hevid htake
  have hgo : Goes .orphan s (s.standDown.tdmTo .orphan 0) := by
    change execOrphan s = _
    unfold execOrphan
    rw [hloss]
    exact congrArg Host.Outcome.next (if_pos ⟨hst, hdue, hevid, htake⟩)
  obtain ⟨hdown, hpend, -, c, heq⟩ := s.standDown_tdmTo .orphan 0
  refine ⟨_, hgo, by rw [heq], hdown hshape, by rw [heq], hpend, by simp, by simp, ?_⟩
  have houts : s.shadowEnd.outputsOff.gauge = s.gauge := by simp
  have hgauge : (s.standDown.tdmTo .orphan 0).gauge = s.standDown.gauge := by simp
  rw [hgauge]
  change s.shadowEnd.outputsOff.gauge.qRem = _
  rw [houts]

theorem mismatchUnresolved_holds : mismatchUnresolved := by
  refine ⟨fun s hst hrun hnot => ?_, fun s hst hno hover => ?_⟩
  · have hgo : Goes .mismatchUnresolved s ((s.misRecord 4).floorCause 0) := if_pos ⟨hst, hrun, hnot⟩
    obtain ⟨hstand, hpend, hframe⟩ := floorCause_spec (s.misRecord 4) 0
    obtain ⟨r, hr⟩ : ∃ r, s.misRecord 4 = { s with rcd := r } :=
      ⟨(s.misRecord 4).rcd, by simp [State.misRecord, State.eq_iff]⟩
    rw [hr] at hgo hstand hpend hframe
    exact ⟨_, hgo, hstand, hpend, by rw [hframe]⟩
  · have hgo : Goes .mismatchUnresolved s { s.misRecord 4 with tdm := { (s.misRecord 4).tdm with misOver := true } } := by
      change execMismatchUnresolved s = _
      unfold execMismatchUnresolved
      rw [if_neg (by simp [hst]), if_pos ⟨hst, hno, hover⟩]
    refine ⟨_, hgo, ?_⟩
    simp [State.eq_iff, State.misRecord]

/-! ### A status block (R520, R530, R545, R549) -/

/-- The TDM_REJOINs in progress end. -/
def State.rejoinEnd (s : State) (r : Nat) : State :=
  State.completeAll { s with tdm := { s.tdm with rejoinSlots := [] } } s.tdm.rejoinSlots stDONE r

theorem State.rejoinEnd_spec (s : State) (r : Nat) : OnlyEnds s (s.rejoinEnd r) ∧
    s.rejoinEnd r = { s with tdm := { s.tdm with rejoinSlots := [] }, hif := (s.rejoinEnd r).hif } := by
  refine ⟨onlyEnds_iff.2 (by simp [State.rejoinEnd]), ?_⟩
  simp [State.rejoinEnd, State.eq_iff]

/-- The active with what the block acknowledges and its peer's state taken. -/
def State.statusTaken (s : State) (b : StatusBlock) : State :=
  let s := State.stbyFaults { s with tdm := { s.tdm with
    missRun := 0, acked := b.ackFrame, peer := b.peerState, resyncSend := b.resyncMask, misRun := b.mismatchRun } } b
  let live : Bool := b.peerState == 5 || b.peerState == 6
  if live then { s.tdmTo .active 0 with tdm.mirrored := true }
  else if s.tdm.st = .active then { s.tdmTo .solo 0 with tdm.mirrored := false }
  else s

theorem State.statusTaken_spec (s : State) (b : StatusBlock) : ∃ r st c m, s.statusTaken b = { s with rcd := r, tdm := { s.tdm with
      missRun := 0, acked := b.ackFrame, peer := b.peerState, resyncSend := b.resyncMask, misRun := b.mismatchRun
      st := st, cause := c, mirrored := m } } ∧
    (b.peerState = 5 ∨ b.peerState = 6 → st = .active ∧ m = true) ∧
    (b.peerState ≠ 5 → b.peerState ≠ 6 → st = (if s.tdm.st = .active then .solo else s.tdm.st) ∧
      (s.tdm.st = .active → m = false)) := by
  obtain ⟨u, hu⟩ : ∃ u : State, u = { s with tdm := { s.tdm with
    missRun := 0, acked := b.ackFrame, peer := b.peerState, resyncSend := b.resyncMask, misRun := b.mismatchRun } } := ⟨_, rfl⟩
  obtain ⟨r, hr⟩ : ∃ r, u.stbyFaults b = { u with rcd := r } := ⟨(u.stbyFaults b).rcd, by simp [State.eq_iff]⟩
  obtain ⟨r₁, c₁, hactive, -⟩ := State.tdmTo_spec { u with rcd := r } .active 0
  obtain ⟨r₂, c₂, hsolo, -⟩ := State.tdmTo_spec { u with rcd := r } .solo 0
  have hgo : s.statusTaken b = if b.peerState = 5 ∨ b.peerState = 6
      then (let v := State.tdmTo { u with rcd := r } .active 0
        { v with tdm := { v.tdm with mirrored := true } })
      else if s.tdm.st = .active then (let v := State.tdmTo { u with rcd := r } .solo 0
        { v with tdm := { v.tdm with mirrored := false } })
      else { u with rcd := r } := by
    unfold State.statusTaken
    dsimp only
    rw [show State.stbyFaults _ b = { u with rcd := r } from hu ▸ hr]
    simp only [Bool.or_eq_true, beq_iff_eq]
    subst hu
    rfl
  rw [hactive, hsolo, hu] at hgo
  rw [hgo]
  split
  next hlive => exact ⟨_, _, _, _, rfl, fun _ => ⟨rfl, rfl⟩, fun h5 h6 => absurd hlive (by simp [h5, h6])⟩
  next hlive =>
    split
    next hst => exact ⟨_, .solo, _, _, rfl, fun h => absurd h hlive, fun _ _ => ⟨rfl, fun _ => rfl⟩⟩
    next hst =>
      exact ⟨_, s.tdm.st, s.tdm.cause, s.tdm.mirrored, rfl, fun h => absurd h hlive,
        fun _ _ => ⟨rfl, fun h => absurd h hst⟩⟩

theorem statusBlockReceived_holds : statusBlockReceived := by
  intro s b htdm hup hrun hcommands
  obtain ⟨r, st, c, m, hv, hlive, hlost⟩ := s.statusTaken_spec b
  have hgo : Goes (.statusBlockReceived b) s (if b.peerState = 6 then (s.statusTaken b).rejoinEnd 0
      else if b.peerState = 8 ∧ s.tdm.peer = 5 then (s.statusTaken b).rejoinEnd 1 else s.statusTaken b) := by
    change execStatusBlockReceived b s = _
    unfold execStatusBlockReceived
    have hguard : (s.sys.variant.hasTdm && s.tdm.linkUp && s.running && s.commands) = true := by
      rw [htdm, hup, hrun, hcommands]
      rfl
    rw [if_pos hguard]
    rfl
  have hjoined (k : Nat) (hk : s.tdm.rejoinSlots = [k]) (hlen : k < s.hif.tags.length) (hst : (s.tag k).st = .applied)
      (hkept : (s.tag k).discard = false) : Ends ((s.statusTaken b).rejoinEnd 0) k stDONE 0 := by
    have hor : EndsOr s k stDONE 0 := .inr ⟨hlen, .inr hst, hkept⟩
    unfold State.rejoinEnd
    rw [hv]
    refine EndsOr.completeAll ?_ ?_
    · exact hor.congr rfl rfl
    · change k ∈ s.tdm.rejoinSlots
      simp [hk]
  obtain ⟨hends0, hframe0⟩ := (s.statusTaken b).rejoinEnd_spec 0
  obtain ⟨hends1, hframe1⟩ := (s.statusTaken b).rejoinEnd_spec 1
  generalize (s.statusTaken b).rejoinEnd 0 = t0 at *
  generalize (s.statusTaken b).rejoinEnd 1 = t1 at *
  rw [hv] at hends0 hends1 hframe0 hframe1 hgo
  obtain ⟨t, slots, htgo, hends, ht, hslots, hdone⟩ : ∃ t slots, Goes (.statusBlockReceived b) s t ∧ OnlyEnds s t ∧
      t = { s with rcd := r, hif := t.hif, tdm := { s.tdm with
        missRun := 0, acked := b.ackFrame, peer := b.peerState, resyncSend := b.resyncMask, misRun := b.mismatchRun
        st := st, cause := c, mirrored := m, rejoinSlots := slots } } ∧
      (b.peerState = 6 → slots = []) ∧ (b.peerState = 6 → t = t0) := by
    split at hgo
    · exact ⟨t0, [], hgo, hends0, hframe0, fun _ => rfl, fun _ => rfl⟩
    next hno =>
      split at hgo
      · exact ⟨t1, [], hgo, hends1, hframe1, fun _ => rfl, fun h => absurd h hno⟩
      · exact ⟨_, s.tdm.rejoinSlots, hgo, rfl, rfl, fun h => absurd h hno, fun h => absurd h hno⟩
  refine ⟨t, htgo, by rw [ht], by rw [ht], by rw [ht], by rw [ht], fun h => ?_, fun h5 h6 => ?_, fun h6 => ⟨?_, ?_⟩, hends,
    by rw [ht]⟩
  · rw [ht]
    exact hlive h
  · rw [ht]
    exact hlost h5 h6
  · rw [ht]
    exact hslots h6
  · rw [hdone h6]
    exact hjoined

/-- Settles O47: each row is the twin's answer to one event of the link, and a twin that leaves the pair stands down. -/
theorem tandemLink : Obligations.TandemLink :=
  ⟨statusBlockReceived_holds, tdmLinkDown_holds, blockMissing_holds, tdmLinkUp_holds, soloHoldEnd_holds, orphan_holds,
    mismatchUnresolved_holds⟩

end Sys2Proof.Machine
end

section
/-! O50: joining, drills, promotion and retirement of a twin. -/

namespace Sys2Proof.Machine

open Sys2Proof.Claims

/-! ### A join and its end (R511, R543, R544) -/

theorem State.joinRecordOut_spec (s : State) (outcome : Nat) : ∃ r, s.joinRecordOut outcome = { s with rcd := r } :=
  ⟨(s.joinRecordOut outcome).rcd, by simp [State.joinRecordOut, State.eq_iff]⟩

/-- A join that fails: the twin stands down, FAULTY. -/
theorem State.joinRecordOut_faulty {s : State} (hshape : s.shape) (hst : s.tdm.st = .joining) (outcome cause : Nat) :
    ((s.joinRecordOut outcome).faulty cause).tdm.st = .faulty ∧ ((s.joinRecordOut outcome).faulty cause).tdm.cause = cause ∧
    StoodDown s ((s.joinRecordOut outcome).faulty cause) ∧ ((s.joinRecordOut outcome).faulty cause).pending = s.pending := by
  obtain ⟨r, hr⟩ := s.joinRecordOut_spec outcome
  obtain ⟨hdown, hpend, hcause, c, heq⟩ := State.standDown_tdmTo { s with rcd := r } .faulty cause
  rw [hr, State.faulty]
  refine ⟨by rw [heq], hcause ?_, hdown hshape, hpend⟩
  rw [hst]
  simp

theorem tdmJoin_holds : tdmJoin := by
  intro s hshape hst hready hequal
  have hgo : Goes .tdmJoin s (if s.setupEqual then (s.joinRecordOut 0).tdmTo .shadow 0 else (s.joinRecordOut 2).faulty 3) := by
    change execTdmJoin s = _
    unfold execTdmJoin
    rw [if_pos ⟨hst, hready, hequal⟩]
    split <;> rfl
  refine ⟨_, hgo, fun heq => ?_, fun hne => ?_, ?_⟩
  · rw [if_pos heq]
    obtain ⟨r, hr⟩ := s.joinRecordOut_spec 0
    obtain ⟨r', c, hto, -⟩ := State.tdmTo_spec { s with rcd := r } .shadow 0
    rw [hr, hto]
    exact ⟨rfl, rfl⟩
  · rw [if_neg (by simp [hne])]
    obtain ⟨hfaulty, hcause, hdown, -⟩ := State.joinRecordOut_faulty hshape hst 2 3
    exact ⟨hfaulty, hcause, hdown⟩
  · split
    · simp [State.joinRecordOut]
    · obtain ⟨-, -, -, hpend⟩ := State.joinRecordOut_faulty hshape hst 2 3
      exact hpend

theorem joinTimeout_holds : joinTimeout := fun _ hshape hst hlate =>
  ⟨_, congrArg Host.Outcome.next (if_pos ⟨hst, hlate⟩), State.joinRecordOut_faulty hshape hst 1 5⟩

theorem State.startJoin_spec (s : State) : s.startJoin.tdm.st = .joining ∧ s.startJoin.tdm.joinTick = s.clk.tick ∧
    s.startJoin.tdm.mirror = [] ∧ s.startJoin.tdm.autoJoinAt = none ∧ s.startJoin.tdm.peer = s.tdm.peer ∧
    s.startJoin.tdm.missRun = s.tdm.missRun ∧ s.startJoin.tdm.selfCheck = false ∧ s.startJoin.tdm.joinReady = false ∧
    s.startJoin = { s with tdm := s.startJoin.tdm, sws := s.startJoin.sws, rcd := s.startJoin.rcd } := by
  have hshadow : s.shadowEnd.tdm = { s.tdm with
      evid := 0, lossTick := none, takePend := 0, shRecall := [], misRun := 0, noEq := 0, misOver := false, equalRun := 0
      skipCmp := false, resyncReq := 0, joinReady := false } := by
    simp [State.shadowEnd]
  have hframe : s.shadowEnd = { s with tdm := s.shadowEnd.tdm, sws := s.shadowEnd.sws } := by simp [State.eq_iff]
  obtain ⟨r, c, hto, -⟩ := State.tdmTo_spec { s.shadowEnd with tdm := { s.shadowEnd.tdm with
    joinTick := s.shadowEnd.clk.tick, joinPasses := 0, joinBytes := 0, autoJoinAt := none, selfCheck := false
    mirror := [], fLast := 0, ownFault := none } } .joining 0
  have hgo : s.startJoin = State.tdmTo { s.shadowEnd with tdm := { s.shadowEnd.tdm with
    joinTick := s.clk.tick, joinPasses := 0, joinBytes := 0, autoJoinAt := none, selfCheck := false
    mirror := [], fLast := 0, ownFault := none } } .joining 0 := rfl
  have htick : s.shadowEnd.clk = s.clk := by simp
  rw [htick] at hto
  rw [hgo, hto, hshadow]
  refine ⟨rfl, rfl, rfl, rfl, rfl, rfl, rfl, rfl, ?_⟩
  rw [hframe]

theorem autoJoin_holds : autoJoin := by
  intro s tick hat hdue hup hauto hst hpeer
  have hgo : Goes .autoJoin s s.startJoin := by
    change execAutoJoin s = _
    unfold execAutoJoin
    rw [hat]
    exact congrArg Host.Outcome.next (if_pos ⟨hdue, hup, hauto, hst, hpeer⟩)
  obtain ⟨hjoining, htick, hmirror, hjoinAt, -, -, -, -, hframe⟩ := s.startJoin_spec
  exact ⟨_, hgo, hjoining, htick, hmirror, hjoinAt, hframe⟩

/-! ### Drill and promotion (R510, R546, R548) -/

theorem drillHoldEnd_holds : drillHoldEnd := by
  intro s hphase hcommands hdue
  refine ⟨if s.canYield then State.emit { s with tdm := { s.tdm with yieldReq := 6, drillOut := 1, drillPhase := 3 } } 0x0808 15
    [1, s.tdm.drillDev, s.clk.tick - s.tdm.drillStart, s.tdm.drillUnit] else s.drillEnd 2, ?_, fun hcan => ?_, fun hcan => ?_⟩
  · change execDrillHoldEnd s = _
    unfold execDrillHoldEnd
    rw [if_pos ⟨hphase, hcommands, hdue⟩]
    split <;> rfl
  · rw [if_pos hcan]
    exact ⟨by simp, by simp [State.eq_iff]⟩
  · rw [if_neg (by simp [hcan])]
    exact ⟨by simp [State.drillEnd], onlyEnds_iff.2 (by simp), by simp [State.eq_iff]⟩

theorem tdmPromote_holds : tdmPromote := by
  intro s w htdm hlink hrun good
  have hgood : good ↔ ((w.toNat % 16 == 1 && w.toNat / 256 % 256 == 0xA5) &&
      (s.tdm.st == .waitLink || s.tdm.st == .orphan)) = true := by
    simp [good, and_assoc]
  have hgo : Goes (.tdmPromote w) s (if (w.toNat % 16 == 1 && w.toNat / 256 % 256 == 0xA5) &&
      (s.tdm.st == .waitLink || s.tdm.st == .orphan) then { s with tdm := { s.tdm with promotePend := true } }
      else s.emit 0x0802 15 [s.tdm.st.code, s.tdm.st.code, 0xFF, s.tdm.peer]) := by
    change execTdmPromote w s = _
    unfold execTdmPromote
    have hguard : (s.sys.variant.hasTdm && s.sys.linkUp && s.running) = true := by
      rw [htdm, hlink, hrun]
      rfl
    rw [if_pos hguard]
    dsimp only
    split <;> rfl
  refine ⟨_, hgo, fun h => ?_, fun h => ?_⟩
  · rw [if_pos (hgood.1 h)]
  · rw [if_neg fun hc => h (hgood.2 hc)]
    simp [State.eq_iff]

/-! ### TDM_RETIRE and TDM_REJOIN (R533, R549) -/

theorem tdmRetire_holds : tdmRetire := by
  refine ⟨fun s k hserved hst hup => ?_, fun s k hserved hno => ?_⟩
  · have hop := applyDesc_plain (fn := fun _ => some fTDM) (fun _ s =>
      if s.tdm.st = .single ∨ s.tdm.linkUp = false then s.reject k stBADPARAM 1
      else State.hold { s with tdm := { s.tdm with retireSend := true, retireSlots := s.tdm.retireSlots ++ [k] } } k) hserved rfl
    rw [if_neg (by simp [hst, hup])] at hop
    exact ⟨_, hop, rfl, hold_tag (by exact hserved.1), hold_tagsBut _ k, rfl⟩
  · have hop := applyDesc_plain (fn := fun _ => some fTDM) (fun _ s =>
      if s.tdm.st = .single ∨ s.tdm.linkUp = false then s.reject k stBADPARAM 1
      else State.hold { s with tdm := { s.tdm with retireSend := true, retireSlots := s.tdm.retireSlots ++ [k] } } k) hserved rfl
    rw [if_pos hno] at hop
    exact ⟨_, hop, reject_ends hserved _ _, onlyEnds_iff.2 (by simp), by simp [State.eq_iff]⟩

theorem tdmRejoin_holds : tdmRejoin := by
  intro s k hserved hst hup
  have hop := applyDesc_plain (fn := fun _ => some fTDM) (fun _ s =>
    if s.tdm.st = .single ∨ s.tdm.linkUp = false then s.reject k stBADPARAM 1
    else if s.tdm.peer = 6 then s.complete k stDONE 0
    else State.hold { s with tdm := { s.tdm with joinSend := true, rejoinSlots := s.tdm.rejoinSlots ++ [k] } } k) hserved rfl
  rw [if_neg (by simp [hst, hup])] at hop
  refine ⟨_, hop, fun h6 => ?_, fun h6 => ?_⟩
  · rw [if_pos h6]
    exact ⟨served_ends' (t := s) hserved rfl _ _, onlyEnds_iff.2 (by simp), by simp [State.eq_iff]⟩
  · rw [if_neg h6]
    exact ⟨rfl, hold_tag (by exact hserved.1), hold_tagsBut _ k, rfl⟩

/-- Settles O50, one row each. -/
theorem tandemJoin : Obligations.TandemJoin :=
  ⟨tdmJoin_holds, joinTimeout_holds, autoJoin_holds, drillHoldEnd_holds, tdmPromote_holds, tdmRetire_holds, tdmRejoin_holds⟩

end Sys2Proof.Machine
end

section
/-! O48: what a received state block does to a standby. -/

namespace Sys2Proof.Machine

open Sys2Proof.Claims

/-- What the work on a block leaves of the pair's state: the mirror, what the block acknowledged, the twin's own check, and
its state but for a standby that fails. -/
def BlockKept (a b : Tdm) : Prop :=
  b.mirror = a.mirror ∧ b.fLast = a.fLast ∧ b.peer = a.peer ∧ b.missRun = a.missRun ∧ b.selfCheck = a.selfCheck ∧
  (b.st = a.st ∨ a.st ≠ .joining ∧ b.st = .faulty)

theorem BlockKept.refl (a : Tdm) : BlockKept a a := ⟨rfl, rfl, rfl, rfl, rfl, .inl rfl⟩
theorem BlockKept.trans {a b c : Tdm} (hab : BlockKept a b) (hbc : BlockKept b c) : BlockKept a c := by
  obtain ⟨hm, hf, hp, hr, hs, hst⟩ := hab
  obtain ⟨hm', hf', hp', hr', hs', hst'⟩ := hbc
  refine ⟨hm'.trans hm, hf'.trans hf, hp'.trans hp, hr'.trans hr, hs'.trans hs, ?_⟩
  rcases hst' with hst' | ⟨hne, hst'⟩
  · rwa [hst']
  · rcases hst with hst | ⟨hne', -⟩
    · exact .inr ⟨by rwa [hst] at hne, hst'⟩
    · exact .inr ⟨hne', hst'⟩

theorem State.faulty_kept {s : State} (hst : s.tdm.st ≠ .joining) (cause : Nat) : BlockKept s.tdm (s.faulty cause).tdm ∧
    (s.faulty cause).tdm.st = .faulty := by
  obtain ⟨-, -, -, c, heq⟩ := s.standDown_tdmTo .faulty cause
  rw [State.faulty, heq]
  exact ⟨⟨rfl, rfl, rfl, rfl, rfl, .inr ⟨hst, rfl⟩⟩, rfl⟩
theorem State.misRecord_tdm (s : State) (outcome : Nat) : (s.misRecord outcome).tdm = s.tdm := by simp [State.misRecord]

theorem State.equal_kept (s : State) : BlockKept s.tdm s.equal.tdm := by
  unfold State.equal
  dsimp only
  split
  · split <;> simp [BlockKept, State.misRecord]
  · exact ⟨rfl, rfl, rfl, rfl, rfl, .inl rfl⟩
theorem State.unequal_kept (s : State) (b : StateBlock) (mask : BitVec 16) : BlockKept s.tdm (s.unequal b mask).tdm := by
  unfold State.unequal
  extract_lets _ u hist
  have hu : BlockKept s.tdm u.tdm := ⟨rfl, rfl, rfl, rfl, rfl, .inl rfl⟩
  have hfaulty (hst : u.tdm.st ≠ .joining) (outcome cause : Nat) : BlockKept s.tdm ((u.misRecord outcome).faulty cause).tdm := by
    have hrec := u.misRecord_tdm outcome
    obtain ⟨hkept, -⟩ := State.faulty_kept (s := u.misRecord outcome) (by rw [hrec]; exact hst) cause
    rw [hrec] at hkept
    exact hu.trans hkept
  split
  · exact hu
  next hst =>
    split
    · exact hfaulty hst 2 1
    · split
      · refine hu.trans ?_
        change BlockKept u.tdm { (u.misRecord 3).tdm with takePend := 3 }
        rw [State.misRecord_tdm]
        exact ⟨rfl, rfl, rfl, rfl, rfl, .inl rfl⟩
      · split
        · split
          · exact hfaulty hst 2 2
          · exact hu.trans ⟨rfl, rfl, rfl, rfl, rfl, .inl rfl⟩
        · exact hu
theorem State.compare_kept (s : State) (b : StateBlock) : BlockKept s.tdm (s.compare b).tdm := by
  unfold State.compare
  split
  · exact .refl _
  · split
    · exact ⟨rfl, rfl, rfl, rfl, rfl, .inl rfl⟩
    · dsimp only
      split
      · exact State.equal_kept s.freeStep
      · exact State.unequal_kept s.freeStep b _
theorem State.install_tdm (s : State) (c : Carried) (mask : BitVec 16) : (s.install c mask).tdm = s.tdm := by simp
theorem State.blockData_kept (s : State) (b : StateBlock) : BlockKept s.tdm (s.blockData b).tdm := by
  unfold State.blockData
  extract_lets _ u
  have hu : BlockKept s.tdm u.tdm := by
    unfold u
    split
    · exact ⟨rfl, rfl, rfl, rfl, rfl, .inl rfl⟩
    · exact .refl _
  split
  · split
    · refine hu.trans ?_
      change BlockKept u.tdm { (u.install _ _).tdm with joinReady := true, skipCmp := true }
      rw [State.install_tdm]
      exact ⟨rfl, rfl, rfl, rfl, rfl, .inl rfl⟩
    · split
      · refine hu.trans ?_
        change BlockKept u.tdm { (u.install _ _).tdm with
          skipCmp := true, resyncReq := 0, resMask := b.resyncMask, resFrame := u.frame, resBytes := b.spareBytes }
        rw [State.install_tdm]
        exact ⟨rfl, rfl, rfl, rfl, rfl, .inl rfl⟩
      · exact hu
  · exact hu

/-! ### The control work on a block leaves the pair's state alone (R523) -/

/-- The pair's state, the configuration and the samples are as they were. -/
@[simp] abbrev SamePair (s t : State) : Prop := t.tdm = s.tdm ∧ t.cfg = s.cfg ∧ t.smp = s.smp

theorem SamePair.ite {c : Prop} [Decidable c] {a b t : State} (ha : SamePair t a) (hb : SamePair t b) :
    SamePair t (if c then a else b) := by split <;> assumption
theorem SamePair.trans {a b c : State} (hab : SamePair a b) (hbc : SamePair b c) : SamePair a c := by
  obtain ⟨htdm, hcfg, hsmp⟩ := hab
  obtain ⟨htdm', hcfg', hsmp'⟩ := hbc
  exact ⟨htdm'.trans htdm, hcfg'.trans hcfg, hsmp'.trans hsmp⟩

@[simp] theorem State.pathFrame_pair (s : State) : SamePair s s.pathFrame := by
  unfold State.pathFrame
  refine .ite ⟨rfl, rfl, rfl⟩ ?_
  extract_lets v _ s1 run cv charging _ s2 atL assist s3
  have h1 : SamePair s s1 := by simp [s1]
  have h2 : SamePair s1 s2 := .ite (by split <;> simp [charging]) (.ite (by simp) ⟨rfl, rfl, rfl⟩)
  have h3 : SamePair s2 s3 := by simp [s3]
  exact .ite h1 (h1.trans (h2.trans (h3.trans (by simp))))
@[simp] theorem State.ctlEnd_pair (s : State) : SamePair s s.ctlEnd := by
  unfold State.ctlEnd
  extract_lets s1 s2 s3 s4
  have h3 : SamePair s s3 := by simp [s3, s2, s1]
  have h4 : SamePair s3 s4 := .ite ⟨rfl, rfl, rfl⟩ (by simp)
  exact .ite (h3.trans h4) ((h3.trans h4).trans s4.pathFrame_pair)
@[simp] theorem State.ctlSteps_pair (s : State) : SamePair s (s.ctlSteps false) := by simp [State.ctlSteps]
@[simp] theorem State.floorSteps_pair (s : State) : SamePair s (s.floorSteps false) := by simp [State.floorSteps]

theorem State.recompute_pair (s : State) (prev : Option Sample) (b : StateBlock) : SamePair s (s.recompute prev b) := by
  unfold State.recompute
  split <;> simp

theorem State.blockIn_spec (s : State) (b : StateBlock) :
    (s.blockIn b).tdm.mirror = (b :: s.tdm.mirror).take 64 ∧ (s.blockIn b).tdm.fLast = b.frame.toNat ∧
    (s.blockIn b).tdm.peer = s.tdm.peer ∧ (s.blockIn b).tdm.missRun = s.tdm.missRun ∧
    (s.blockIn b).tdm.status.isSome = true ∧
    (s.tdm.st = .joining → s.tdm.selfCheck = false → (s.blockIn b).tdm.st = .joining) ∧
    (b.yieldCause ≠ 0 → (s.blockIn b).tdm.st = .shadow → (s.blockIn b).tdm.takePend = 1) ∧
    (s.blockIn b).cfg = s.cfg ∧ (s.blockIn b).smp = s.smp := by
  unfold State.blockIn
  extract_lets prev _ s1 s2 _ s3 s4 _ s5 s6 s7
  have h3 : SamePair s1 s3 := by
    have h2 : SamePair s1 s2 := by simp [s2]
    exact h2.trans (.ite (s2.recompute_pair prev b) ⟨rfl, rfl, rfl⟩)
  obtain ⟨htdm3, hcfg3, hsmp3⟩ := h3
  have h4 : BlockKept s1.tdm s4.tdm := by
    rw [← htdm3]
    exact (s3.compare_kept b).trans ((s3.compare b).blockData_kept b)
  have hcfg4 : s4.cfg = s3.cfg ∧ s4.smp = s3.smp := by simp [s4]
  have h5 : BlockKept s4.tdm s5.tdm ∧ s5.cfg = s4.cfg ∧ s5.smp = s4.smp ∧
      (b.yieldCause ≠ 0 → s5.tdm.st = .shadow → s5.tdm.takePend = 1) := by
    unfold s5
    split
    · exact ⟨⟨rfl, rfl, rfl, rfl, rfl, .inl rfl⟩, rfl, rfl, fun _ _ => rfl⟩
    next hno => exact ⟨.refl _, rfl, rfl, fun hy hst => absurd ⟨hy, hst⟩ hno⟩
  obtain ⟨hkept5, hcfg5, hsmp5, hyield⟩ := h5
  have h6 : (s6.tdm = s5.tdm ∨ s5.tdm.selfCheck = true ∧ s6.tdm.st = .faulty) ∧ s6.tdm.mirror = s5.tdm.mirror ∧ s6.tdm.fLast = s5.tdm.fLast ∧
      s6.tdm.peer = s5.tdm.peer ∧ s6.tdm.missRun = s5.tdm.missRun ∧ s6.cfg = s5.cfg ∧ s6.smp = s5.smp := by
    unfold s6
    split
    next hself =>
      obtain ⟨-, -, -, c, heq⟩ := s5.standDown_tdmTo .faulty 1
      refine ⟨.inr ⟨hself.1, ?_⟩, ?_, ?_, ?_, ?_, by simp, by simp⟩
      all_goals rw [State.faulty, heq]
    · exact ⟨.inl rfl, rfl, rfl, rfl, rfl, rfl, rfl⟩
  obtain ⟨hst6, hmirror6, hlast6, hpeer6, hmiss6, hcfg6, hsmp6⟩ := h6
  have h7 : SamePair s6 s7 := by simp [s7]
  obtain ⟨htdm7, hcfg7, hsmp7⟩ := h7
  obtain ⟨hmirror, hlast, hpeer, hmiss, hself, hst⟩ := h4.trans hkept5
  change s7.tdm.mirror = _ ∧ s7.tdm.fLast = _ ∧ s7.tdm.peer = _ ∧ s7.tdm.missRun = _ ∧ (some s7.statusBlock).isSome = true ∧
    (_ → _ → s7.tdm.st = _) ∧ (_ → s7.tdm.st = _ → s7.tdm.takePend = 1) ∧ s7.cfg = _ ∧ s7.smp = _
  rw [htdm7, hmirror6, hlast6, hpeer6, hmiss6, hmirror, hlast, hpeer, hmiss]
  refine ⟨rfl, rfl, rfl, rfl, rfl, fun hjoining hok => ?_, fun hy hshadow => ?_, ?_, ?_⟩
  · have hst5 : s5.tdm.st = .joining := by
      rcases hst with hst | ⟨hne, -⟩
      · exact hst.trans hjoining
      · exact absurd hjoining hne
    rcases hst6 with heq | ⟨hcheck, -⟩
    · rw [heq, hst5]
    · rw [hself] at hcheck
      exact absurd (hcheck.symm.trans hok) (by simp)
  · rcases hst6 with heq | ⟨-, hfaulty⟩
    · rw [heq] at hshadow ⊢
      exact hyield hy hshadow
    · rw [hfaulty] at hshadow
      cases hshadow
  · rw [hcfg7, hcfg6, hcfg5, hcfg4.1, hcfg3]
  · rw [hsmp7, hsmp6, hsmp5, hcfg4.2, hsmp3]

/-! ### The block received (R519, R523, R527, R533, R549) -/

/-- What a twin that stands down must release depends on its variant's units only. -/
theorem stoodDown_of_sys {s u t : State} (hsys : u.sys = s.sys) (h : StoodDown u t) : StoodDown s t := by
  obtain ⟨hrails, hsws, htags, hdecided⟩ := h
  rw [State.railIdx, hsys] at hrails
  rw [State.swIdx, hsys] at hsws
  exact ⟨hrails, hsws, htags, hdecided⟩

/-- It speaks of the outputs and the host interface only. -/
theorem stoodDown_congr {s t t' : State} (h : StoodDown s t) (hrails : t'.rails = t.rails) (hsws : t'.sws = t.sws)
    (hhif : t'.hif = t.hif) : StoodDown s t' := by
  obtain ⟨hoffRails, hoffSws, htags, hdecided⟩ := h
  refine ⟨fun n hn => ?_, fun n hn => ?_, fun k => ?_, ?_⟩
  · rw [rail_of hrails]
    exact hoffRails n hn
  · rw [sw_of hsws]
    exact hoffSws n hn
  · rw [State.tag, hhif]
    exact htags k
  · rw [hhif]
    exact hdecided

/-- A standby taken out of service by its active's block. -/
def State.retiredBy (s : State) : State :=
  State.tdmTo { s.standDown with tdm := { s.standDown.tdm with autoJoinAt := none, retireSend := false } } .retired 0

theorem State.retiredBy_spec (s : State) : (s.shape → StoodDown s s.retiredBy) ∧ s.retiredBy.tdm.st = .retired ∧
    s.retiredBy.tdm.peer = s.tdm.peer ∧ s.retiredBy.tdm.missRun = s.tdm.missRun ∧ s.retiredBy.regs = s.regs ∧
    s.retiredBy.cfg = s.cfg ∧ s.retiredBy.smp = s.smp ∧ s.retiredBy.pending = s.pending := by
  obtain ⟨u, hu⟩ : ∃ u : State, u = { s.standDown with tdm := { s.standDown.tdm with autoJoinAt := none, retireSend := false } } :=
    ⟨_, rfl⟩
  obtain ⟨hcfg, hsmp, hregs, hpend⟩ : s.standDown.cfg = s.cfg ∧ s.standDown.smp = s.smp ∧ s.standDown.regs = s.regs ∧
      s.standDown.pending = s.pending := by simp
  have hpeer : s.standDown.tdm.peer = s.tdm.peer := by rw [s.standDown_tdm]
  have hmiss : s.standDown.tdm.missRun = s.tdm.missRun := by rw [s.standDown_tdm]
  obtain ⟨hucfg, husmp, huregs, hupend⟩ : u.cfg = s.standDown.cfg ∧ u.smp = s.standDown.smp ∧ u.regs = s.standDown.regs ∧
      u.pending = s.standDown.pending := by
    refine ⟨?_, ?_, ?_, ?_⟩ <;> rw [hu]
  have hupeer : u.tdm.peer = s.standDown.tdm.peer := by rw [hu]
  have humiss : u.tdm.missRun = s.standDown.tdm.missRun := by rw [hu]
  have hdown (hshape : s.shape) : StoodDown s u := by
    refine stoodDown_congr (standDown_stoodDown hshape) ?_ ?_ ?_ <;> rw [hu]
  have hgo : s.retiredBy = u.tdmTo .retired 0 := by rw [hu]; rfl
  obtain ⟨r, c, hto, -⟩ := u.tdmTo_spec .retired 0
  rw [hgo, hto]
  refine ⟨hdown, rfl, hupeer.trans hpeer, humiss.trans hmiss, huregs.trans hregs, hucfg.trans hcfg,
    husmp.trans hsmp, hupend.trans hpend⟩

theorem stateBlockReceived_holds : stateBlockReceived := by
  intro s b hshape htdm hup hrun hcommands
  obtain ⟨u, hu⟩ : ∃ u : State, u = { s with tdm := { s.tdm with missRun := 0, peer := b.senderState } } := ⟨_, rfl⟩
  obtain ⟨v, hv⟩ : ∃ v : State, v = if b.retire && u.isStandby then u.retiredBy
    else if b.join && (u.tdm.st == .retired || u.tdm.st == .faulty || u.tdm.st == .orphan) then u.startJoin else u := ⟨_, rfl⟩
  have hgo : Goes (.stateBlockReceived b) s (if v.recomputes then v.blockIn b
      else { v with tdm := { v.tdm with status := some v.statusBlock } }) := by
    subst hv hu
    change execStateBlockReceived b s = _
    unfold execStateBlockReceived
    have hguard : (s.sys.variant.hasTdm && s.tdm.linkUp && s.running && !s.commands) = true := by
      rw [htdm, hup, hrun, hcommands]
      rfl
    rw [if_pos hguard]
    rfl
  have hust : u.tdm.st = s.tdm.st := by rw [hu]
  have hvsame : v.tdm.peer = b.senderState ∧ v.tdm.missRun = 0 ∧ v.regs = s.regs ∧ v.cfg = s.cfg ∧ v.smp = s.smp ∧
      v.pending = s.pending := by
    rw [hv]
    split
    · obtain ⟨-, -, hpeer, hmiss, hregs, hcfg, hsmp, hpend⟩ := u.retiredBy_spec
      rw [hpeer, hmiss, hregs, hcfg, hsmp, hpend, hu]
      exact ⟨rfl, rfl, rfl, rfl, rfl, rfl⟩
    · split
      · obtain ⟨-, -, -, -, hpeer, hmiss, -, -, hframe⟩ := u.startJoin_spec
        rw [hpeer, hmiss, hframe, hu]
        exact ⟨rfl, rfl, rfl, rfl, rfl, rfl⟩
      · rw [hu]
        exact ⟨rfl, rfl, rfl, rfl, rfl, rfl⟩
  obtain ⟨hpeer, hmiss, hregs, hcfg, hsmp, hpend⟩ := hvsame
  have hkept (hretire : b.retire = false) (hst : s.tdm.st = .shadow ∨ s.tdm.st = .joining) : v = u := by
    rw [hv, if_neg (by simp [hretire]), if_neg]
    rw [hust]
    rcases hst with hst | hst <;> simp [hst]
  have hretired (hstandby : s.isStandby = true) (hretire : b.retire = true) : v = u.retiredBy := by
    have hu' : u.isStandby = true := by
      rw [State.isStandby, hust]
      exact hstandby
    rw [hv, if_pos (by rw [hretire, hu']; rfl)]
  have hjoined (hretire : b.retire = false) (hjoin : b.join = true)
      (hst : s.tdm.st = .retired ∨ s.tdm.st = .faulty ∨ s.tdm.st = .orphan) : v = u.startJoin := by
    rw [hv, if_neg (by simp [hretire]), if_pos]
    rw [hjoin, hust]
    rcases hst with hst | hst | hst <;> rw [hst] <;> rfl
  have hrecomputes : v.recomputes = (v.tdm.st == .shadow || v.tdm.st == .joining) := rfl
  obtain ⟨hmirror, hlast, hbpeer, hbmiss, hstatus, hjoining, hyield, hbcfg, hbsmp⟩ := v.blockIn_spec b
  have hbpend : (v.blockIn b).pending = v.pending := by simp
  have hbregs : (v.blockIn b).regs = v.regs := by simp
  refine ⟨_, hgo, ?_, ?_, ?_, fun hre hretire => ?_, fun hstandby hretire => ?_, fun hretire hjoin hst => ?_,
    fun hst hcause hstill => ?_, ?_, ?_, ?_, ?_⟩
  · split
    · exact hbpeer.trans hpeer
    · exact hpeer
  · split
    · exact hbmiss.trans hmiss
    · exact hmiss
  · split
    · exact hstatus
    · rfl
  · have hst : s.tdm.st = .shadow ∨ s.tdm.st = .joining := by simpa [State.recomputes] using hre
    have hvu := hkept hretire hst
    rw [if_pos (by rw [hrecomputes, hvu, hust]; exact hre), hmirror, hlast, hvu, hu]
    exact ⟨rfl, rfl⟩
  · have hvr := hretired hstandby hretire
    obtain ⟨hdown, hvst, -, -, -, -, -, -⟩ := u.retiredBy_spec
    rw [if_neg (by rw [hrecomputes, hvr, hvst]; simp), hvr]
    refine ⟨hvst, ?_⟩
    have hushape : u.shape := by rw [hu]; exact hshape
    have husys : u.sys = s.sys := by rw [hu]
    exact stoodDown_congr (stoodDown_of_sys husys (hdown hushape)) rfl rfl rfl
  · have hvj := hjoined hretire hjoin hst
    obtain ⟨hvst, -, -, -, -, -, hself, -, -⟩ := u.startJoin_spec
    rw [if_pos (by rw [hrecomputes, hvj, hvst]; rfl)]
    exact hjoining (by rw [hvj, hvst]) (by rw [hvj, hself])
  · by_cases hretire : b.retire = true
    · have hvr := hretired (by simp [State.isStandby, hst]) hretire
      obtain ⟨-, hvst, -, -, -, -, -, -⟩ := u.retiredBy_spec
      rw [if_neg (by rw [hrecomputes, hvr, hvst]; simp), hvr] at hstill
      exact absurd (hvst.symm.trans hstill) (by simp)
    · have hvu := hkept (by simpa using hretire) (.inl hst)
      have hre : v.recomputes = true := by rw [hrecomputes, hvu, hust, hst]; rfl
      rw [if_pos hre] at hstill ⊢
      exact hyield hcause hstill
  · split
    · exact hbregs.trans hregs
    · exact hregs
  · split
    · exact hbcfg.trans hcfg
    · exact hcfg
  · split
    · exact hbsmp.trans hsmp
    · exact hsmp
  · split
    · exact hbpend.trans hpend
    · exact hpend

/-- Settles O48: the block's answer is one of three, and the work on a block at a standby keeps the pair's state but for a
failure of its own (`State.blockIn_spec`). -/
theorem tandemStateBlock : Obligations.TandemStateBlock := stateBlockReceived_holds

end Sys2Proof.Machine
end

section
/-! The frame's work does not take back a decided completion, and leaves alone what the safe floor keeps (R743–R748). An
ended descriptor stays ended through every operation of the frame's control steps: said once per operation, as an
equivalence, so that `simp` follows it through their chains. -/

namespace Sys2Proof.Machine

open Sys2Proof.Claims

/-! ### Ended descriptors stay ended -/

/-- `Ends`, said of the host interface. -/
def Hif.ended (h : Hif) (k st r : Nat) : Prop :=
  (h.tags.getD k default).st = .decided ∧ ∃ c ∈ h.decided, c.slot = some k ∧ c.status = st ∧ c.result = BitVec.ofNat 32 r

theorem ends_iff_ended {s : State} {k st r : Nat} : Ends s k st r ↔ s.hif.ended k st r := Iff.rfl

@[simp] theorem ite_ended (c : Prop) [Decidable c] (a b : Hif) (k st r : Nat) :
    (if c then a else b).ended k st r ↔ if c then a.ended k st r else b.ended k st r := by
  split <;> rfl

/-- The descriptor ended between the two states. -/
def EndedBy (s t : State) (k st r : Nat) : Prop := ¬ s.hif.ended k st r ∧ t.hif.ended k st r

theorem ended_iff {s t : State} {k st r : Nat} (h : s.hif.ended k st r → t.hif.ended k st r) :
    t.hif.ended k st r ↔ s.hif.ended k st r ∨ EndedBy s t k st r := by
  unfold EndedBy
  tauto

section
variable {k st r : Nat} (s : State)

theorem each_ended {f : State → Nat → State} (h : ∀ s j, s.hif.ended k st r → (f s j).hif.ended k st r) (l : List Nat)
    (s : State) : (s.each l f).hif.ended k st r ↔ s.hif.ended k st r ∨ EndedBy s (s.each l f) k st r :=
  ended_iff (each_inv f (fun s => s.hif.ended k st r) h l s)

@[simp] theorem State.complete_keepsEnded (j status result : Nat) : (s.complete j status result).hif.ended k st r ↔
    s.hif.ended k st r ∨ EndedBy s (s.complete j status result) k st r :=
  ended_iff fun h => Ends.complete h j status result
@[simp] theorem State.completeAll_keepsEnded (l : List Nat) (status result : Nat) :
    (s.completeAll l status result).hif.ended k st r ↔
      s.hif.ended k st r ∨ EndedBy s (s.completeAll l status result) k st r :=
  each_ended (fun s j h => by simp [h]) l s

/-! #### Rails -/

@[simp] theorem State.retireFc_keepsEnded (n : Nat) (lead : Bool) (status result : Nat) :
    (s.retireFc n lead status result).hif.ended k st r ↔
      s.hif.ended k st r ∨ EndedBy s (s.retireFc n lead status result) k st r :=
  ended_iff fun h => by
    unfold State.retireFc
    repeat' split
    all_goals simp [h]
@[simp] theorem State.endOn_keepsEnded (n code : Nat) : (s.endOn n code).hif.ended k st r ↔
    s.hif.ended k st r ∨ EndedBy s (s.endOn n code) k st r :=
  ended_iff fun h => by
    cases hon : (s.rail n).onSlot <;> cases hset : (s.rail n).setSlot <;> simp [State.endOn, hon, hset, h]
@[simp] theorem State.park_keepsEnded (n : Nat) : (s.park n).hif.ended k st r ↔ s.hif.ended k st r ∨ EndedBy s (s.park n) k st r :=
  ended_iff fun h => by simp [State.park, h]
@[simp] theorem State.offUnit_keepsEnded (n code : Nat) : (s.offUnit n code).hif.ended k st r ↔
    s.hif.ended k st r ∨ EndedBy s (s.offUnit n code) k st r :=
  ended_iff fun h => by simp [State.offUnit, h]
@[simp] theorem State.turnOff_keepsEnded (n code : Nat) : (s.turnOff n code).hif.ended k st r ↔
    s.hif.ended k st r ∨ EndedBy s (s.turnOff n code) k st r :=
  each_ended (fun s j h => by simp [h]) _ s
@[simp] theorem State.startUnit_keepsEnded (n target rate delay : Nat) : (s.startUnit n target rate delay).hif.ended k st r ↔
    s.hif.ended k st r ∨ EndedBy s (s.startUnit n target rate delay) k st r :=
  ended_iff fun h => by unfold State.startUnit; dsimp only; split <;> simp [h]
@[simp] theorem State.turnOn_keepsEnded (n target delay : Nat) : (s.turnOn n target delay).1.hif.ended k st r ↔
    s.hif.ended k st r ∨ EndedBy s (s.turnOn n target delay).1 k st r :=
  ended_iff fun h => by
    unfold State.turnOn
    dsimp only
    exact (each_ended (fun s j h => by simp [h]) _ _).mpr (.inl (by simp [h]))
@[simp] theorem State.putTarget_keepsEnded (n target rate : Nat) : (s.putTarget n target rate).hif.ended k st r ↔
    s.hif.ended k st r ∨ EndedBy s (s.putTarget n target rate) k st r :=
  ended_iff fun h => by unfold State.putTarget; dsimp only; split <;> simp [h]
@[simp] theorem State.applySetpoint_keepsEnded (n target rate : Nat) : (s.applySetpoint n target rate).1.hif.ended k st r ↔
    s.hif.ended k st r ∨ EndedBy s (s.applySetpoint n target rate).1 k st r :=
  ended_iff fun h => by simp [State.applySetpoint, h]
@[simp] theorem State.confirmFc_keepsEnded (n : Nat) (lead : Bool) : (s.confirmFc n lead).hif.ended k st r ↔
    s.hif.ended k st r ∨ EndedBy s (s.confirmFc n lead) k st r :=
  ended_iff fun h => by
    unfold State.confirmFc
    repeat' split
    all_goals simp [h]
@[simp] theorem State.railStep3_keepsEnded (n : Nat) : (s.railStep3 n).hif.ended k st r ↔
    s.hif.ended k st r ∨ EndedBy s (s.railStep3 n) k st r :=
  ended_iff fun h => by
    generalize ht : s.railStep3 n = t
    unfold State.railStep3 at ht
    dsimp only at ht
    repeat' split at ht
    all_goals
      subst ht
      simp [h]

/-! #### Switches and the sequencer -/

@[simp] theorem State.swSample_keepsEnded (n : Nat) : (s.swSample n).hif.ended k st r ↔
    s.hif.ended k st r ∨ EndedBy s (s.swSample n) k st r :=
  ended_iff fun h => by simp [State.swSample, h]
@[simp] theorem State.swEnd_keepsEnded (n : Nat) (nst : SwState) (code : Nat) : (s.swEnd n nst code).hif.ended k st r ↔
    s.hif.ended k st r ∨ EndedBy s (s.swEnd n nst code) k st r :=
  ended_iff fun h => by simp [State.swEnd, h]
@[simp] theorem State.swTrip_keepsEnded (n m ma : Nat) (t : Option Nat) : (s.swTrip n m ma t).hif.ended k st r ↔
    s.hif.ended k st r ∨ EndedBy s (s.swTrip n m ma t) k st r :=
  ended_iff fun h => by cases t <;> simp [State.swTrip, h]
@[simp] theorem State.swTurnOff_keepsEnded (n code : Nat) : (s.swTurnOff n code).hif.ended k st r ↔
    s.hif.ended k st r ∨ EndedBy s (s.swTurnOff n code) k st r :=
  ended_iff fun h => by unfold State.swTurnOff; split <;> simp [h]
@[simp] theorem State.swTurnOn_keepsEnded (n : Nat) (retry prearmed : Bool) : (s.swTurnOn n retry prearmed).hif.ended k st r ↔
    s.hif.ended k st r ∨ EndedBy s (s.swTurnOn n retry prearmed) k st r :=
  ended_iff fun h => by simp [State.swTurnOn, h]
@[simp] theorem State.swJudge_keepsEnded (n : Nat) : (s.swJudge n).hif.ended k st r ↔
    s.hif.ended k st r ∨ EndedBy s (s.swJudge n) k st r :=
  ended_iff fun h => by simp [State.swJudge, h]
@[simp] theorem State.swStep3_keepsEnded (n : Nat) : (s.swStep3 n).hif.ended k st r ↔
    s.hif.ended k st r ∨ EndedBy s (s.swStep3 n) k st r :=
  ended_iff fun h => by simp [State.swStep3, h]
@[simp] theorem State.seqEnd_keepsEnded (outcome cause status : Nat) : (s.seqEnd outcome cause status).hif.ended k st r ↔
    s.hif.ended k st r ∨ EndedBy s (s.seqEnd outcome cause status) k st r :=
  ended_iff fun h => by simp [State.seqEnd, h]
@[simp] theorem State.seqOff_keepsEnded (u : Nat) : (s.seqOff u).hif.ended k st r ↔
    s.hif.ended k st r ∨ EndedBy s (s.seqOff u) k st r :=
  ended_iff fun h => by simp [State.seqOff, h]
@[simp] theorem State.offOwnOne_keepsEnded (l : List Nat) : (s.offOwnOne l).hif.ended k st r ↔
    s.hif.ended k st r ∨ EndedBy s (s.offOwnOne l) k st r :=
  ended_iff fun h => by
    induction l generalizing s with
    | nil => simp [State.offOwnOne, h]
    | cons u us ih =>
      unfold State.offOwnOne
      split
      · simp [h]
      · exact ih _ (by simp [h])
@[simp] theorem State.seqPolicy_keepsEnded (cause : Nat) : (s.seqPolicy cause).hif.ended k st r ↔
    s.hif.ended k st r ∨ EndedBy s (s.seqPolicy cause) k st r :=
  ended_iff fun h => by simp [State.seqPolicy, h]
@[simp] theorem State.stepFail_keepsEnded (cause : Nat) : (s.stepFail cause).hif.ended k st r ↔
    s.hif.ended k st r ∨ EndedBy s (s.stepFail cause) k st r :=
  ended_iff fun h => by simp [State.stepFail, h]
@[simp] theorem State.seqNotify_keepsEnded (u : Nat) (fault : Bool) : (s.seqNotify u fault).hif.ended k st r ↔
    s.hif.ended k st r ∨ EndedBy s (s.seqNotify u fault) k st r :=
  ended_iff fun h => by simp [State.seqNotify, h]
@[simp] theorem State.swStep1_keepsEnded (n : Nat) : (s.swStep1 n).hif.ended k st r ↔
    s.hif.ended k st r ∨ EndedBy s (s.swStep1 n) k st r :=
  ended_iff fun h => by simp [State.swStep1, h]
@[simp] theorem State.stepAct_keepsEnded (a : Step) : (s.stepAct a).hif.ended k st r ↔
    s.hif.ended k st r ∨ EndedBy s (s.stepAct a) k st r :=
  ended_iff fun h => by unfold State.stepAct; split <;> simp [h]
@[simp] theorem State.startStep_keepsEnded (i : Nat) : (s.startStep i).hif.ended k st r ↔
    s.hif.ended k st r ∨ EndedBy s (s.startStep i) k st r :=
  ended_iff fun h => by
    unfold State.startStep
    dsimp only
    split <;> simp [h]
@[simp] theorem State.progStart_keepsEnded : s.progStart.hif.ended k st r ↔
    s.hif.ended k st r ∨ EndedBy s s.progStart k st r :=
  ended_iff fun h => by unfold State.progStart; split <;> simp [h]
@[simp] theorem State.seqAdvance_keepsEnded : s.seqAdvance.hif.ended k st r ↔
    s.hif.ended k st r ∨ EndedBy s s.seqAdvance k st r :=
  ended_iff fun h => by simp [State.seqAdvance, h]
@[simp] theorem State.seqFrame_keepsEnded : s.seqFrame.hif.ended k st r ↔
    s.hif.ended k st r ∨ EndedBy s s.seqFrame k st r :=
  ended_iff fun h => by simp [State.seqFrame, h]

/-! #### Feed and backup path -/

@[simp] theorem State.shedOne_keepsEnded (u : Nat) : (s.shedOne u).hif.ended k st r ↔
    s.hif.ended k st r ∨ EndedBy s (s.shedOne u) k st r :=
  ended_iff fun h => by simp [State.shedOne, h]
@[simp] theorem State.shedAll_keepsEnded (l : List Nat) (reason : Nat) : (s.shedAll l reason).hif.ended k st r ↔
    s.hif.ended k st r ∨ EndedBy s (s.shedAll l reason) k st r :=
  ended_iff fun h => by
    have hloop := (each_ended (k := k) (st := st) (r := r) (f := fun s u => s.shedOne u) (fun s j h => by simp [h]) l s).mpr
      (.inl h)
    simp [State.shedAll, h, hloop]
@[simp] theorem State.shedAtLoss_keepsEnded : s.shedAtLoss.hif.ended k st r ↔
    s.hif.ended k st r ∨ EndedBy s s.shedAtLoss k st r :=
  ended_iff fun h => by simp [State.shedAtLoss, h]
@[simp] theorem State.shedAgain_keepsEnded : s.shedAgain.hif.ended k st r ↔
    s.hif.ended k st r ∨ EndedBy s s.shedAgain k st r :=
  ended_iff fun h => by simp [State.shedAgain, h]
@[simp] theorem State.takeLoss_keepsEnded : s.takeLoss.hif.ended k st r ↔
    s.hif.ended k st r ∨ EndedBy s s.takeLoss k st r :=
  ended_iff fun h => by unfold State.takeLoss; split <;> simp [h]
@[simp] theorem State.maintEnd_keepsEnded (c outcome detail : Nat) : (s.maintEnd c outcome detail).hif.ended k st r ↔
    s.hif.ended k st r ∨ EndedBy s (s.maintEnd c outcome detail) k st r :=
  ended_iff fun h => by simp [State.maintEnd, h]
@[simp] theorem State.learnAbort_keepsEnded (cause : Nat) : (s.learnAbort cause).hif.ended k st r ↔
    s.hif.ended k st r ∨ EndedBy s (s.learnAbort cause) k st r :=
  ended_iff fun h => by simp [State.learnAbort, h]
@[simp] theorem State.batTo_keepsEnded (b : BatSt) (cause : Nat) : (s.batTo b cause).hif.ended k st r ↔
    s.hif.ended k st r ∨ EndedBy s (s.batTo b cause) k st r :=
  ended_iff fun h => by simp [State.batTo, h]
@[simp] theorem State.batOut_keepsEnded (b : BatSt) (cause : Nat) : (s.batOut b cause).hif.ended k st r ↔
    s.hif.ended k st r ∨ EndedBy s (s.batOut b cause) k st r :=
  ended_iff fun h => by simp [State.batOut, h]
@[simp] theorem State.detEnd_keepsEnded (b : BatSt) (cause : Nat) : (s.detEnd b cause).hif.ended k st r ↔
    s.hif.ended k st r ∨ EndedBy s (s.detEnd b cause) k st r :=
  ended_iff fun h => by simp [State.detEnd, h]
@[simp] theorem State.detStart_keepsEnded (cause : Nat) : (s.detStart cause).hif.ended k st r ↔
    s.hif.ended k st r ∨ EndedBy s (s.detStart cause) k st r :=
  ended_iff fun h => by simp [State.detStart, h]
@[simp] theorem State.batWatch_keepsEnded : s.batWatch.hif.ended k st r ↔
    s.hif.ended k st r ∨ EndedBy s s.batWatch k st r :=
  ended_iff fun h => by simp [State.batWatch, h]
@[simp] theorem State.searchEnd_keepsEnded (result lim tested : Nat) (sag : Int) :
    (s.searchEnd result lim tested sag).hif.ended k st r ↔
      s.hif.ended k st r ∨ EndedBy s (s.searchEnd result lim tested sag) k st r :=
  ended_iff fun h => by simp [State.searchEnd, h]
@[simp] theorem State.restoreOne_keepsEnded : s.restoreOne.hif.ended k st r ↔
    s.hif.ended k st r ∨ EndedBy s s.restoreOne k st r :=
  ended_iff fun h => by unfold State.restoreOne; split <;> simp [h]
@[simp] theorem State.pathStep_keepsEnded : s.pathStep.hif.ended k st r ↔
    s.hif.ended k st r ∨ EndedBy s s.pathStep k st r :=
  ended_iff fun h => by simp [State.pathStep, h]

/-! #### The frame's control steps -/

@[simp] theorem State.ctlSteps_keepsEnded (sws : Bool) : (s.ctlSteps sws).hif.ended k st r ↔
    s.hif.ended k st r ∨ EndedBy s (s.ctlSteps sws) k st r :=
  ended_iff fun h => by
    have hloop (l : List Nat) {f : State → Nat → State} (hf : ∀ s j, s.hif.ended k st r → (f s j).hif.ended k st r) :
        ∀ s : State, s.hif.ended k st r → (s.each l f).hif.ended k st r :=
      each_inv f (fun s => s.hif.ended k st r) hf l
    unfold State.ctlSteps
    extract_lets s₁ s₂ s₃ s₄ s₅ s₆ s₇ s₈ s₉ s₁₀
    have h₂ : s₂.hif.ended k st r := by
      have h₁ : s₁.hif.ended k st r := by simpa [s₁] using h
      unfold s₂
      split
      · exact hloop _ (fun s j h => by simp [h]) _ h₁
      · exact h₁
    have h₅ : s₅.hif.ended k st r := by
      have h₄ : s₄.hif.ended k st r := by simpa [s₄, s₃] using h₂
      unfold s₅
      split
      · exact hloop _ (fun s j h => by simp [h]) _ h₄
      · exact h₄
    have h₇ : s₇.hif.ended k st r := hloop _ (fun s j h => by simp [h]) _ (by simp [s₆, h₅])
    have h₁₀ : s₁₀.hif.ended k st r := by
      have h₉ : s₉.hif.ended k st r := hloop _ (fun s j h => by simp [h]) _ (by simpa [s₈] using h₇)
      unfold s₁₀
      split
      · exact hloop _ (fun s j h => by simp [h]) _ h₉
      · exact h₉
    simp [h₁₀]
@[simp] theorem State.floorSteps_keepsEnded (sws : Bool) : (s.floorSteps sws).hif.ended k st r ↔
    s.hif.ended k st r ∨ EndedBy s (s.floorSteps sws) k st r :=
  ended_iff fun h => by
    unfold State.floorSteps
    extract_lets s₁ s₂ s₃
    have h₂ : s₂.hif.ended k st r := by
      have h₁ : s₁.hif.ended k st r := by simpa [s₁] using h
      unfold s₂
      split
      · exact each_inv _ (fun s => s.hif.ended k st r) (fun s j h => by simp [h]) _ _ h₁
      · exact h₁
    simp [s₃, h₂]
@[simp] theorem State.floorRest_keepsEnded : s.floorRest.hif.ended k st r ↔
    s.hif.ended k st r ∨ EndedBy s s.floorRest k st r :=
  ended_iff fun h => by simp [State.floorRest, h]
@[simp] theorem State.floorLeave_keepsEnded : s.floorLeave.hif.ended k st r ↔
    s.hif.ended k st r ∨ EndedBy s s.floorLeave k st r :=
  ended_iff fun h => by simp [State.floorLeave, h]
end

/-! ### What a cause found on the way leaves of the floor's registers -/

/-- Whether the device is in the floor, the EXIT_FLOORs that wait, and the engines to reload. -/
def Brake.atFloor (b : Brake) : Bool × List Nat × BitVec 16 := (b.inFloor, b.exitSlots, b.reload)

section
variable (s : State)

@[simp] theorem foldl_atFloor {β : Type} (f : State → β → State) (h : ∀ s k, (f s k).brake.atFloor = s.brake.atFloor)
    (l : List β) (s : State) : (l.foldl f s).brake.atFloor = s.brake.atFloor :=
  foldl_keep (·.brake.atFloor) f h l s
@[simp] theorem each_atFloor (f : State → Nat → State) (h : ∀ s k, (f s k).brake.atFloor = s.brake.atFloor)
    (l : List Nat) (s : State) : (s.each l f).brake.atFloor = s.brake.atFloor :=
  foldl_keep (·.brake.atFloor) f h l s
@[simp] theorem ite_atFloor (c : Prop) [Decidable c] (a b : Brake) :
    (if c then a else b).atFloor = if c then a.atFloor else b.atFloor := by split <;> rfl

@[simp] theorem State.floorCause_atFloor (bit : Nat) : (s.floorCause bit).brake.atFloor = s.brake.atFloor := by
  unfold State.floorCause
  repeat' split
  all_goals rfl
@[simp] theorem State.brakeClip_atFloor (unit item proposed committed eng : Nat) :
    (s.brakeClip unit item proposed committed eng).brake.atFloor = s.brake.atFloor := by
  unfold State.brakeClip
  dsimp only
  split
  · rw [State.floorCause_atFloor]
    simp [Brake.atFloor]
  · simp [Brake.atFloor]
@[simp] theorem State.clipTarget_atFloor (n target rate : Nat) :
    (s.clipTarget n target rate).1.brake.atFloor = s.brake.atFloor := by simp [State.clipTarget]
@[simp] theorem State.clipCount_atFloor (n c : Nat) : (s.clipCount n c).1.brake.atFloor = s.brake.atFloor := by
  simp [State.clipCount]
@[simp] theorem State.setCount_atFloor (n c : Nat) : (s.setCount n c).brake.atFloor = s.brake.atFloor := by
  simp [State.setCount]
@[simp] theorem State.startUnit_atFloor (n target rate delay : Nat) :
    (s.startUnit n target rate delay).brake.atFloor = s.brake.atFloor := by
  unfold State.startUnit
  dsimp only
  split <;> simp
@[simp] theorem State.turnOn_atFloor (n target delay : Nat) :
    (s.turnOn n target delay).1.brake.atFloor = s.brake.atFloor := by simp [State.turnOn]
@[simp] theorem State.restoreOne_atFloor : s.restoreOne.brake.atFloor = s.brake.atFloor := by
  unfold State.restoreOne
  split <;> simp
@[simp] theorem State.pathStep_atFloor : s.pathStep.brake.atFloor = s.brake.atFloor := by simp [State.pathStep]
@[simp] theorem State.confirmFc_atFloor (n : Nat) (lead : Bool) :
    (s.confirmFc n lead).brake.atFloor = s.brake.atFloor := by
  unfold State.confirmFc
  repeat' split
  all_goals simp
@[simp] theorem State.stepAct_atFloor (a : Step) : (s.stepAct a).brake.atFloor = s.brake.atFloor := by
  unfold State.stepAct
  split <;> simp
@[simp] theorem State.startStep_atFloor (i : Nat) : (s.startStep i).brake.atFloor = s.brake.atFloor := by
  unfold State.startStep
  dsimp only
  split <;> simp
@[simp] theorem State.progStart_atFloor : s.progStart.brake.atFloor = s.brake.atFloor := by
  unfold State.progStart
  split <;> simp
@[simp] theorem State.seqAdvance_atFloor : s.seqAdvance.brake.atFloor = s.brake.atFloor := by simp [State.seqAdvance]
@[simp] theorem State.seqFrame_atFloor : s.seqFrame.brake.atFloor = s.brake.atFloor := by simp [State.seqFrame]
@[simp] theorem State.ctlSteps_atFloor (sws : Bool) : (s.ctlSteps sws).brake.atFloor = s.brake.atFloor := by
  simp [State.ctlSteps]
@[simp] theorem State.floorSteps_atFloor (sws : Bool) : (s.floorSteps sws).brake.atFloor = s.brake.atFloor := by
  simp [State.floorSteps]
@[simp] theorem State.floorRest_atFloor : s.floorRest.brake.atFloor = s.brake.atFloor := by simp [State.floorRest]
end

end Sys2Proof.Machine
end

section
/-! O52: leaving the safe floor, EXIT_FLOOR, engine reloads and the loss of the host link. -/

namespace Sys2Proof.Machine

open Sys2Proof.Claims

/-! ### FLOOR_EXIT (R747, R748) -/

/-- The control steps leave the events and the rest of the host interface alone, whichever of them a boundary runs. -/
theorem ctlSteps_event (s : State) (sws : Bool) : (s.ctlSteps sws).hif.event = s.hif.event := by
  change (s.ctlSteps sws).hif.rest.event = s.hif.rest.event
  rw [(s.ctlSteps_frame sws).2.2.1]
theorem floorLeave_event (s : State) : s.floorLeave.hif.event = s.hif.event := by
  change s.floorLeave.hif.rest.event = s.hif.rest.event
  simp
theorem completeAll_event (s : State) (l : List Nat) (st r : Nat) : (s.completeAll l st r).hif.event = s.hif.event := by
  change (s.completeAll l st r).hif.rest.event = s.hif.rest.event
  simp
theorem hifEvent_event (s : State) (b : Nat) (hb : b < 4) : (s.hifEvent b).hif.event.getLsbD b = true := by
  have hsignal (u : State) (vec : Nat) : (u.signal vec).hif.event = u.hif.event := by
    unfold State.signal
    repeat' split
    all_goals rfl
  unfold State.hifEvent
  split
  next h => exact h
  · dsimp only
    split <;> simp [hsignal, hb]

/-- The parts of the state that leaving the floor has nothing to do with. -/
def FloorKept (s t : State) : Prop :=
  t.sys = s.sys ∧ t.cfg = s.cfg ∧ t.regs = s.regs ∧ t.way = s.way ∧ t.smp = s.smp ∧ t.pending = s.pending

theorem FloorKept.frame {s t : State} (h : FloorKept s t) : t = { s with
    clk := t.clk, live := t.live, rails := t.rails, phases := t.phases, sws := t.sws, seq := t.seq, path := t.path
    gauge := t.gauge, tdm := t.tdm, hif := t.hif, dray := t.dray, rcd := t.rcd, brake := t.brake, cap := t.cap
    maint := t.maint, freeCtr := t.freeCtr } := by
  obtain ⟨hsys, hcfg, hregs, hway, hsmp, hpend⟩ := h
  simp [State.eq_iff, hsys, hcfg, hregs, hway, hsmp, hpend]

theorem FloorKept.trans {a b c : State} (hab : FloorKept a b) (hbc : FloorKept b c) : FloorKept a c := by
  obtain ⟨hsys, hcfg, hregs, hway, hsmp, hpend⟩ := hab
  obtain ⟨hsys', hcfg', hregs', hway', hsmp', hpend'⟩ := hbc
  exact ⟨hsys'.trans hsys, hcfg'.trans hcfg, hregs'.trans hregs, hway'.trans hway, hsmp'.trans hsmp, hpend'.trans hpend⟩

/-- The floor's own registers as it is left, with no engine halted, and its end recorded. -/
def State.floorOver (s : State) : State :=
  let s := { s with
    brake.inFloor := false, clk.halted := 0, clk.overranCtl := s.clk.overranCtl &&& ~~~s.clk.halted, brake.reload := 0 }
  s.emit 0x0C07 0x10 [s.clk.tick - s.brake.floorTick, s.brake.atEntry.toNat, s.frame, 0]

theorem State.floorOver_spec (s : State) : s.floorOver.brake = { s.brake with inFloor := false, reload := 0 } ∧
    s.floorOver.clk.halted = 0 ∧ s.floorOver.hif = s.hif ∧ FloorKept s s.floorOver := by
  simp [State.floorOver, FloorKept]

/-- The floor left: its event signalled, the EXIT_FLOORs of `slots` ended and its units released. -/
def State.floorLeft (s : State) (slots : List Nat) : State :=
  ((s.floorOver.hifEvent 3).completeAll slots stDONE 1).admitFloor.floorLeave

theorem State.floorLeft_spec (s : State) (slots : List Nat) :
    (s.floorLeft slots).brake = { s.brake with inFloor := false, reload := 0 } ∧ (s.floorLeft slots).clk.halted = 0 ∧
    (s.floorLeft slots).hif.event.getLsbD 3 = true ∧ FloorKept s (s.floorLeft slots) ∧
    ∀ k ∈ slots, EndsOr s k stDONE 1 → Ends (s.floorLeft slots) k stDONE 1 := by
  obtain ⟨hbrake, hhalted, hhif, hsys, hcfg, hregs, hway, hsmp, hpend⟩ := s.floorOver_spec
  obtain ⟨u, hu⟩ : ∃ u, u = s.floorOver.hifEvent 3 := ⟨_, rfl⟩
  have hwork : RingWork s.floorOver u := hu ▸ hifEvent_work _ _
  have hevent : u.hif.event.getLsbD 3 = true := hu ▸ hifEvent_event _ 3 (by decide)
  have htags : u.hif.tags = s.hif.tags := by rw [hwork, hhif]
  have hdecided : u.hif.decided = s.hif.decided := by rw [hwork, hhif]
  have hleft : s.floorLeft slots = (u.completeAll slots stDONE 1).admitFloor.floorLeave := by rw [hu]; rfl
  rw [hleft]
  refine ⟨?_, ?_, ?_, ?_, fun k hk hor => ?_⟩
  · have h : u.brake = s.floorOver.brake := by rw [hwork]
    simp [h, hbrake]
  · have h : u.clk = s.floorOver.clk := by rw [hwork]
    simp [h, hhalted]
  · have hadmit (v : State) : v.admitFloor.hif = v.hif := by simp
    rw [floorLeave_event, hadmit, completeAll_event, hevent]
  · obtain ⟨h₁, h₂, h₃, h₄, h₅, h₆⟩ : FloorKept s.floorOver u := by
      refine ⟨?_, ?_, ?_, ?_, ?_, ?_⟩ <;> rw [hwork]
    simp [FloorKept, *]
  · have hended : (u.completeAll slots stDONE 1).hif.ended k stDONE 1 :=
      (hor.congr htags hdecided).completeAll hk
    rw [ends_iff_ended]
    simp [hended]

theorem floorExit_left {s : State} (hdue : s.exitDue = true) (hclear : s.brake.standing = 0) :
    ∃ f t, f = State.floorLeft { s with brake.exitSlots := [] } s.brake.exitSlots ∧ Goes .floorExit s t ∧
      (t = f ∨ t = f.ctlSteps true) := by
  refine ⟨_, _, rfl, (if_pos hdue).trans (if_pos hclear), ?_⟩
  dsimp only
  split
  · exact .inr rfl
  · exact .inl rfl

theorem floorExit_stays {s : State} (hdue : s.exitDue = true) (hcause : s.brake.standing ≠ 0) :
    Goes .floorExit s
      (State.completeAll { s with brake.exitSlots := [] } s.brake.exitSlots stFLOOR s.brake.standing.toNat).floorRest :=
  (if_pos hdue).trans (if_neg hcause)

/-- What the boundary's control steps leave of a state, where it runs them. -/
theorem ctlSteps_kept {f t : State} (ht : t = f ∨ t = f.ctlSteps true) : t.brake.atFloor = f.brake.atFloor ∧ t.clk = f.clk ∧
    t.hif.event = f.hif.event ∧ FloorKept f t ∧ ∀ k st r, Ends f k st r → Ends t k st r := by
  rcases ht with ht | ht <;> rw [ht]
  · exact ⟨rfl, rfl, rfl, ⟨rfl, rfl, rfl, rfl, rfl, rfl⟩, fun _ _ _ h => h⟩
  · obtain ⟨hclk, hcfg, -, hway, hsmp, -⟩ := f.ctlSteps_frame true
    refine ⟨by simp, hclk, ctlSteps_event f true, ⟨by simp, hcfg, by simp, hway, hsmp, by simp⟩, fun k st r h => ?_⟩
    rw [ends_iff_ended] at h ⊢
    simp [h]

theorem floorExit_clear {s : State} (hdue : s.exitDue = true) (hclear : s.brake.standing = 0) :
    ∃ t, Goes .floorExit s t ∧ t.brake.atFloor = (false, [], 0) ∧ t.clk.halted = 0 ∧ t.hif.event.getLsbD 3 = true ∧
      FloorKept s t ∧ ∀ k ∈ s.brake.exitSlots, EndsOr s k stDONE 1 → Ends t k stDONE 1 := by
  obtain ⟨f, t, hf, hgo, ht⟩ := floorExit_left hdue hclear
  obtain ⟨u, hu⟩ : ∃ u : State, u = { s with brake := { s.brake with exitSlots := [] } } := ⟨_, rfl⟩
  have hsame : FloorKept s u := by rw [hu]; exact ⟨rfl, rfl, rfl, rfl, rfl, rfl⟩
  have hexits : u.brake.exitSlots = [] := by rw [hu]
  have hif : u.hif = s.hif := by rw [hu]
  replace hf : f = u.floorLeft s.brake.exitSlots := by rw [hf, hu]
  have hspec := u.floorLeft_spec s.brake.exitSlots
  rw [← hf] at hspec
  obtain ⟨hbrake, hhalted, hevent, hkept, hends⟩ := hspec
  obtain ⟨hfloor, hclk, hevent', hkept', hends'⟩ := ctlSteps_kept ht
  refine ⟨t, hgo, ?_, by rw [hclk, hhalted], by rw [hevent', hevent], hsame.trans (hkept.trans hkept'), fun k hk hor => ?_⟩
  · rw [hfloor, hbrake, Brake.atFloor, hexits]
  · exact hends' k _ _ (hends k hk (hor.congr (by rw [hif]) (by rw [hif])))

theorem floorExit_denied {s : State} (hdue : s.exitDue = true) (hcause : s.brake.standing ≠ 0) :
    ∃ t, Goes .floorExit s t ∧ t.brake.atFloor = (s.brake.inFloor, [], s.brake.reload) ∧ t.clk = s.clk ∧ FloorKept s t ∧
      ∀ k ∈ s.brake.exitSlots, EndsOr s k stFLOOR s.brake.standing.toNat → Ends t k stFLOOR s.brake.standing.toNat := by
  refine ⟨_, floorExit_stays hdue hcause, ?_⟩
  obtain ⟨u, hu⟩ : ∃ u : State, u = { s with brake := { s.brake with exitSlots := [] } } := ⟨_, rfl⟩
  obtain ⟨v, hv⟩ : ∃ v, v = u.completeAll s.brake.exitSlots stFLOOR s.brake.standing.toNat := ⟨_, rfl⟩
  have hstate : State.completeAll { s with brake := { s.brake with exitSlots := [] } } s.brake.exitSlots stFLOOR
      s.brake.standing.toNat = v := by rw [hv, hu]
  rw [hstate]
  have hkept : v.brake = u.brake ∧ v.clk = u.clk ∧ FloorKept u v := by simp [hv, FloorKept]
  obtain ⟨hbrake, hclk, hsys, hcfg, hregs, hway, hsmp, hpend⟩ := hkept
  obtain ⟨hclk', hcfg', -, hway', hsmp', -⟩ := v.floorRest_frame
  refine ⟨?_, ?_, ⟨?_, ?_, ?_, ?_, ?_, ?_⟩, fun k hk hor => ?_⟩
  · rw [State.floorRest_atFloor, hbrake, hu]
    rfl
  · rw [hclk', hclk, hu]
  · have h : v.floorRest.sys = v.sys := by simp
    rw [h, hsys, hu]
  · rw [hcfg', hcfg, hu]
  · have h : v.floorRest.regs = v.regs := by simp
    rw [h, hregs, hu]
  · rw [hway', hway, hu]
  · rw [hsmp', hsmp, hu]
  · have h : v.floorRest.pending = v.pending := by simp
    rw [h, hpend, hu]
  · have hor' : EndsOr u k stFLOOR s.brake.standing.toNat := by
      rw [hu]
      exact hor.congr rfl rfl
    have hended : v.hif.ended k stFLOOR s.brake.standing.toNat := by
      rw [hv]
      exact hor'.completeAll hk
    rw [ends_iff_ended]
    simp [hended]

theorem floorExit_holds : floorExit := by
  intro s hdue
  have hslot {k st r : Nat} (hslots : s.brake.exitSlots = [k]) (hk : k < s.hif.tags.length) (hst : (s.tag k).st = .applied)
      (hkeep : (s.tag k).discard = false) : k ∈ s.brake.exitSlots ∧ EndsOr s k st r :=
    ⟨by simp [hslots], .inr ⟨hk, .inr hst, hkeep⟩⟩
  by_cases hclear : s.brake.standing = 0
  · obtain ⟨t, hgo, hfloor, hhalted, hevent, hkept, hends⟩ := floorExit_clear hdue hclear
    obtain ⟨hin, hslots, hreload⟩ : t.brake.inFloor = false ∧ t.brake.exitSlots = [] ∧ t.brake.reload = 0 := by
      simpa [Brake.atFloor] using hfloor
    refine ⟨t, hgo, hslots, fun _ => ⟨hin, hhalted, hreload, hevent⟩, fun h => absurd hclear h, fun k hone hk hst hkeep => ?_,
      hkept.frame⟩
    obtain ⟨hmem, hor⟩ := hslot hone hk hst hkeep
    rw [if_pos hclear]
    exact hends k hmem hor
  · obtain ⟨t, hgo, hfloor, hclk, hkept, hends⟩ := floorExit_denied hdue hclear
    obtain ⟨hin, hslots, -⟩ : t.brake.inFloor = s.brake.inFloor ∧ t.brake.exitSlots = [] ∧ t.brake.reload = s.brake.reload := by
      simpa [Brake.atFloor] using hfloor
    have hfloor' : s.brake.inFloor = true := by
      simp only [State.exitDue, Bool.and_eq_true] at hdue
      exact hdue.1.1.1.2
    refine ⟨t, hgo, hslots, fun h => absurd h hclear, fun _ => ⟨hin.trans hfloor', hclk⟩, fun k hone hk hst hkeep => ?_,
      hkept.frame⟩
    obtain ⟨hmem, hor⟩ := hslot hone hk hst hkeep
    rw [if_neg hclear]
    exact hends k hmem hor

/-! ### EXIT_FLOOR (R747) -/

theorem exitFloor_holds : exitFloor := by
  intro s k hserved
  have hgo := applyDesc_plain (fn := fun _ => some fBRAKE) (fun _ s =>
    if s.brake.standing ≠ 0 then s.reject k stFLOOR s.brake.standing.toNat
    else if s.brake.inFloor then
      { s with brake.exitSlots := s.brake.exitSlots ++ [k], brake.exitTick := s.clk.tick }.hold k
    else s.complete k stDONE 0) hserved rfl
  have hk : k < s.hif.tags.length := hserved.1
  refine ⟨_, hgo, fun hstanding => ?_, fun hclear hin => ?_, fun hclear hout => ?_⟩
  · rw [if_pos hstanding]
    refine ⟨reject_ends' hserved rfl _ _, onlyEnds_iff.mpr (by simp), by simp [State.eq_iff]⟩
  · rw [if_neg (by simp [hclear]), if_pos hin]
    exact ⟨rfl, hold_tag hk, hold_tagsBut _ _, rfl⟩
  · rw [if_neg (by simp [hclear]), if_neg (by simp [hout])]
    exact ⟨served_ends' hserved rfl _ _, onlyEnds_iff.mpr (by simp), by simp [State.eq_iff]⟩

/-! ### An engine reloaded (R746) -/

theorem clearCauseIf_spec (s : State) (c : Prop) [Decidable c] (bit : Nat) :
    (if c then s.clearCause bit else s).brake =
      { s.brake with standing := if c then clearBit s.brake.standing bit else s.brake.standing } ∧
    (if c then s.clearCause bit else s) = { s with
      brake := (if c then s.clearCause bit else s).brake, rcd := (if c then s.clearCause bit else s).rcd } := by
  split
  · exact clearCause_spec s bit
  · exact ⟨rfl, rfl⟩

theorem engineReload_holds : engineReload := by
  intro s e ok _ hrun hin hreload clip ovr
  have hguard : (s.running && s.brake.inFloor && s.brake.reload.getLsbD e) = true := by
    rw [hrun, hin, hreload]
    rfl
  obtain ⟨u, hu⟩ : ∃ u, u = s.emit 0x0C08 0x10 [e, if ok then 0 else 1, (s.clk.tick - s.brake.reloadTick) / 100, 0] := ⟨_, rfl⟩
  have hclips : clearBit u.brake.clipEngines e = clip ∧ clearBit u.brake.ovrEngines e = ovr := by simp [hu, clip, ovr]
  obtain ⟨hbrake, hframe⟩ : u.brake = s.brake ∧ u = { s with rcd := u.rcd } := by simp [hu, State.eq_iff]
  obtain ⟨v, hv⟩ : ∃ v : State, v = { u with brake := { u.brake with reload := clearBit u.brake.reload e } } := ⟨_, rfl⟩
  cases ok
  · refine ⟨v, ?_, ?_, nofun, fun _ => ?_, ?_⟩
    · subst hv hu
      exact if_pos hguard
    · simp [hv]
    · rw [hv, hbrake]
    · rw [hv, hframe]
  · obtain ⟨w, hw⟩ : ∃ w : State, w = { v with brake := { v.brake with
      clipEngines := clearBit u.brake.clipEngines e, ovrEngines := clearBit u.brake.ovrEngines e } } := ⟨_, rfl⟩
    obtain ⟨x, hx⟩ : ∃ x, x = if clearBit u.brake.clipEngines e = 0 then w.clearCause 1 else w := ⟨_, rfl⟩
    have hgo : Goes (.engineReload e true) s (if clearBit u.brake.ovrEngines e = 0 then x.clearCause 2 else x) := by
      subst hx hw hv hu
      exact if_pos hguard
    rw [hclips.1] at hw hx
    rw [hclips.2] at hw hgo
    obtain ⟨t, ht⟩ : ∃ t, t = if ovr = 0 then x.clearCause 2 else x := ⟨_, rfl⟩
    obtain ⟨hxbrake, hxframe⟩ := clearCauseIf_spec w (clip = 0) 1
    obtain ⟨htbrake, htframe⟩ := clearCauseIf_spec x (ovr = 0) 2
    rw [← hx] at hxbrake hxframe
    rw [← ht] at hgo htbrake htframe
    have hwbrake : w.brake = { s.brake with reload := clearBit s.brake.reload e, clipEngines := clip, ovrEngines := ovr } := by
      rw [hw, hv, hbrake]
    rw [hxbrake, hwbrake] at htbrake
    clear_value clip ovr
    refine ⟨_, hgo, ?_, fun _ => ?_, nofun, ?_⟩
    · simp [htbrake]
    · rw [htbrake]
      refine ⟨rfl, rfl, fun h => ?_, fun h => ?_, fun hclip hovr => ?_⟩
      · have hbit : (clearBit s.brake.standing 1).getLsbD 1 = false := by rw [getLsbD_clearBit]; simp
        rw [if_pos h]
        split
        · rw [getLsbD_clearBit, hbit]
          rfl
        · exact hbit
      · rw [if_pos h, getLsbD_clearBit]
        simp
      · rw [if_neg hovr, if_neg hclip]
    · rw [htframe, hxframe, hw, hv, hframe]

/-! ### The host link lost (R741) -/

theorem hostLinkLoss_holds : hostLinkLoss := by
  intro s hrun hstandby hlost hnew
  have hguard : (s.running && !s.isStandby && s.linkLost && !s.brake.linkLost) = true := by
    rw [hrun, hstandby, hlost, hnew]
    rfl
  obtain ⟨u, hu⟩ : ∃ u : State, u = { s with brake := { s.brake with linkLost := true } } := ⟨_, rfl⟩
  have hgo : Goes .hostLinkLoss s (u.floorCause 3) := by
    rw [hu]
    exact congrArg Host.Outcome.next (if_pos hguard)
  obtain ⟨hstand, hpend, hframe⟩ := floorCause_spec u 3
  have hlink : (u.floorCause 3).brake.linkLost = u.brake.linkLost := by
    unfold State.floorCause
    repeat' split
    all_goals rfl
  refine ⟨_, hgo, ?_, ?_, fun hin => hpend ?_, hframe.trans ?_⟩
  · rw [hlink, hu]
  · rw [hstand, hu]
  · rw [hu]
    exact hin
  · rw [hu]

/-- Settles O52: what leaves the floor is done before the boundary's control steps, and those keep the floor's registers
(`State.ctlSteps_atFloor`), the events and every ended descriptor (`State.ctlSteps_keepsEnded`). -/
theorem floorExit : Obligations.FloorExit :=
  ⟨floorExit_holds, exitFloor_holds, engineReload_holds, hostLinkLoss_holds⟩

end Sys2Proof.Machine
end
